-- ==== Sys2Proof/Word.lean ====
section
/-! DEFINITION. The words, bytes and index types of the TA3216, and their plainest arithmetic. -/

namespace Sys2Proof

/-- A register or parameter word (00 R4). -/
abbrev Word := BitVec 32
/-- One byte of a record or of memory. -/
abbrev Byte := BitVec 8
/-- Bytes in address order. -/
abbrev Bytes := List Byte
/-- A tile, its port and its churn (00 R2: 16 of them). -/
abbrev TileId := Fin 16
/-- A submission ring (03 R57). -/
abbrev RingId := Fin 4
/-- A control loop slot (11). -/
abbrev LoopId := Fin 64
/-- An event queue index: 0-5 host queues, 6-7 core rings (15 R359). -/
abbrev QueueId := Fin 8

/-- Bit `i` of a natural number. -/
def bitAt (v i : Nat) : Bool := v.testBit i
/-- Bits `hi:lo` of a natural number. -/
def bitsOf (v hi lo : Nat) : Nat := (v >>> lo) % 2 ^ (hi + 1 - lo)
/-- 1 for true. -/
def b2n (b : Bool) : Nat := if b then 1 else 0
/-- A counter that saturates at `top`. -/
def satAdd (top a b : Nat) : Nat := min top (a + b)
/-- The signed value of a `w`-bit pattern. -/
def signedOf (w v : Nat) : Int :=
  if v % 2 ^ w < 2 ^ (w - 1) then (v % 2 ^ w : Nat) else (v % 2 ^ w : Nat) - (2 ^ w : Nat)
/-- The `w`-bit two's complement pattern of an integer. -/
def patternOf (w : Nat) (x : Int) : Nat := (x % (2 ^ w : Nat)).toNat
/-- `x` kept within `lo` to `hi`. -/
def clampInt (lo hi x : Int) : Int := if x < lo then lo else if hi < x then hi else x
/-- The quotient rounded up. -/
def ceilDiv (a b : Nat) : Nat := (a + b - 1) / b

end Sys2Proof
end

