-- ==== Sys2Proof/Syntax.lean ====
section
/-! DEFINITION. The commands the block takes, and their operands.
The queue's one sender spells a record, a packet or a parcel by its fields; the bits on a lane are below this interface. -/

namespace Sys2Proof

/-- The pins whose falling edge takes the device to OFF (03 R50). -/
inductive OffPin where
  | rstN | pwrOk
deriving DecidableEq, Repr

/-- The rails of BROWN_OUT (19 R420). -/
inductive CoreRail where
  | core | aon
deriving DecidableEq, Repr

/-- What CLK_FAIL lost (17 R405, 14 R317). -/
inductive ClockSource where
  | reference | churnPll | fabricPll
deriving DecidableEq, Repr

/-- Who makes a register access (18 R410, R411). -/
inductive Master where
  | host | core
deriving DecidableEq, Repr

/-- Bytes read from host memory; `none` for a failed read (16 R363, R435). -/
abbrev HostRead := Option Bytes

/-- The bytes of a command beside its opcode (03 R63); bits 8k+7:8k of `params` are byte 8 + k of the command. -/
structure Cmd where
  flags : Byte
  tag : BitVec 16
  waitTag : BitVec 16
  waitCtl : Byte
  rsvd : Byte
  params : BitVec 448
deriving DecidableEq, Repr

/-- The submission entry the Dealer reads: its ring and its bytes. -/
structure Submission where
  ring : RingId
  cmd : Cmd
deriving DecidableEq, Repr

/-- A transmit lane of a port (09). -/
inductive TxLane where
  | a | b
deriving DecidableEq, Repr

/-- Environment facts of one composed line: what the memories delivered (05 R115, R124, 08 R185, 01 R21). -/
structure LineEnv where
  /-- Bit s: slot s's data was not complete at the line's start. -/
  underrun : BitVec 8
  /-- Bit r: an SRAM word of region r of 01 R20 read uncorrectable for the line. -/
  sram : BitVec 14
  /-- The line's calibration gain was missing. -/
  calMissing : Bool
  /-- The runs of the trump page's line do not sum to its width. -/
  trumpRuns : Bool
  /-- The trump page's data decoded for the line differs from the set's. -/
  trumpFlip : Bool
  /-- The calibration bytes streamed for the line differ from the table's. -/
  calFlip : Bool
deriving DecidableEq, Repr

/-- FRAME (bits 7:0) and RSEQ of a return record (09 R226). -/
structure RecHdr where
  frame : Byte
  rseq : BitVec 16
deriving DecidableEq, Repr

/-- An ACK record (09 R227); bit i of `map` is SEQ base + i. -/
structure AckBody where
  base : BitVec 16
  map : BitVec 256
  relA : BitVec 16
  relB : BitVec 16
  relK : BitVec 16
deriving DecidableEq, Repr

/-- A NAK record (09 R210, R227). -/
structure NakBody where
  lane : TxLane
  runt : Bool
  laneCount : BitVec 16
  seq : BitVec 16
deriving DecidableEq, Repr

/-- A STATUS record (09 R227); `lanes`: bit 0 A locked, bit 1 B locked. -/
structure StatusBody where
  state : Byte
  lanes : Byte
  holdCount : Byte
  rate : Byte
  shown : BitVec 32
  loaded : BitVec 16
  kept : BitVec 16
  iRef : BitVec 16
  vHr : BitVec 16
  crcA : BitVec 16
  crcB : BitVec 16
  dup : BitVec 16
  stale : BitVec 16
  probes : BitVec 16
  flags : BitVec 16
deriving DecidableEq, Repr

/-- A SENSOR record (09 R227). -/
structure SensorBody where
  vfMean : BitVec 16
  tSink : BitVec 16
  light : BitVec 16
  vSupply : BitVec 16
  iSupply : BitVec 16
  index : Byte
deriving DecidableEq, Repr

/-- A VF record (09 R227): the codes of columns col to col + codes.length - 1. -/
structure VfBody where
  line : BitVec 16
  col : BitVec 16
  probe : Bool
  codes : Bytes
deriving DecidableEq, Repr

/-- An IDENT record (09 R227). -/
structure IdentBody where
  tileType : BitVec 16
  serial : BitVec 32
  arrayW : BitVec 16
  arrayH : BitVec 16
  lanes : Byte
  caps : Byte
  vfBase : BitVec 16
  vfStep : Byte
  relK : BitVec 16
deriving DecidableEq, Repr

/-- The fields of an EVENT record beside CODE and ARG (09 R227). -/
structure EventBody where
  id : Byte
  relA : BitVec 16
  relB : BitVec 16
  relK : BitVec 16
  value : Word
deriving DecidableEq, Repr

/-- What a tile is made as (09 R222, R227, R330). `paired`: it stands in a pair, so its kitty is split. -/
structure TileMaker where
  tileType : BitVec 16
  serial : BitVec 32
  arrayW : BitVec 12
  arrayH : BitVec 12
  caps : Byte
  vfBase : BitVec 16
  vfStep : Byte
  paired : Bool
deriving DecidableEq, Repr

/-- What a tile measures at one pixel of its array (10 R234, R235): the pixel conducts with its sink off, its sink
reaches compliance without the current, and its forward voltage in mV. -/
structure PixelMeas where
  line : BitVec 10
  col : BitVec 11
  offConducts : Bool
  compliance : Bool
  mv : BitVec 16
deriving DecidableEq, Repr

/-- A parcel on a transmit lane (09 R200); its CRC is good. -/
structure Parcel where
  type : BitVec 4
  kitty : Bool
  tryN : BitVec 2
  frame : Byte
  seq : BitVec 16
  addr : BitVec 16
  arg : BitVec 16
  payload : Bytes
deriving DecidableEq, Repr

/-- A return record as a tile end sends it (09 R227). -/
inductive Record where
  | ack (h : RecHdr) (b : AckBody)
  | nak (h : RecHdr) (b : NakBody)
  | status (h : RecHdr) (b : StatusBody)
  | sensor (h : RecHdr) (b : SensorBody)
  | vf (h : RecHdr) (b : VfBody)
  | ident (h : RecHdr) (b : IdentBody)
  | event (h : RecHdr) (code arg : Byte) (b : EventBody)
  | flashData (h : RecHdr) (offset : Word) (data : Bytes)
deriving DecidableEq, Repr

/-- What a tile's sensors read (09 R227 SENSOR). -/
structure SensorReading where
  vfMean : BitVec 16
  tSink : BitVec 16
  light : BitVec 16
  vSupply : BitVec 16
  iSupply : BitVec 16
deriving DecidableEq, Repr

/-- The pin of an accent sink as sampled (13 R308), in mV. -/
structure PinSample where
  ch : Fin 48
  mv : Nat
deriving DecidableEq, Repr

/-- What partner chips exchange of themselves (14 R329 steps 2 and 3). -/
structure PeerInfo where
  pairId : Nat
  role : Nat
  dealSeq : Nat
  digest : Nat
  litSet : BitVec 16
  /-- The device state, as DEV_STATE.STATE codes it. -/
  state : Nat
deriving DecidableEq, Repr

/-- A frame tick of the partner (14 R329 step 4): lamp clock, frame count, epoch, frames since it, period, rate, sync source. -/
structure PeerTick where
  lamp : Nat
  frame : Nat
  epoch : Nat
  m : Nat
  period : Nat
  rate : Nat
  syncSrc : Bool
deriving DecidableEq, Repr

/-- A message from or to the partner chip (14 R329 to R337). Their formats are internal to the pair (R328);
their content is what the rules have them carry. -/
inductive PartnerMsg where
  /-- Identity and lit set. -/
  | hello (p : PeerInfo)
  /-- A frame tick of the partner. -/
  | tick (t : PeerTick)
  /-- Tiles the partner has admitted on its own lane. -/
  | admitted (mask : BitVec 16)
  /-- A parcel of the primary's plan, its frame, and its line if it belongs to one. -/
  | plan (n : TileId) (frame : Nat) (line : Option Nat) (p : Parcel)
  /-- The primary's digest of a composed line. -/
  | digest (n : TileId) (line : Nat) (crc : Nat)
  /-- Probe schedule, class list, pot scale and debt of the next frame. -/
  | cutData (n : TileId) (sched : List (Nat × Nat)) (classes : List ((Nat × Nat) × Nat)) (scale debt : Nat)
  /-- The primary's tile outputs, by code. -/
  | outputs (vals : List (Nat × Int))
  /-- A command the primary carries out on both chips (R334). -/
  | command (opcode : Nat) (c : Cmd)
  | safeLight
  | fatal
  /-- The partner hands over its ports under PARTNER_LEAVE (R337). -/
  | leave
  /-- The partner has verified a paired image for a re-deal of a group. -/
  | redealReady (group digest : Nat)
  /-- The primary names the frame whose cut is C (R334). -/
  | redealCut (frame : Nat)
deriving DecidableEq, Repr

/-- How the partner is lost (14 R335): causes 1 to 3. -/
inductive LossCause where
  | lanesUnlocked | silence | fatalNotice
deriving DecidableEq, Repr

/-- Why a feed packet is bad (16 R369). -/
inductive PacketError where
  | crc | format
deriving DecidableEq, Repr

/-- What DRAM training found (16 R376). -/
structure TrainResult where
  rate : Fin 3
  twoRanks : Bool
  sizeGib : Nat
deriving DecidableEq, Repr

/-- What the patrol scrubbers of SRAM and DRAM found (01 R21, 16 R377). -/
inductive ScrubFinding where
  | corrected (addr : Nat)
  | uncorrectable (addr : Nat)
  /-- A region of on-chip SRAM, in the row order of 01 R20. -/
  | sramCorrected (region : Fin 14)
  | sramUncorrectable (region : Fin 14)
  | passDone
deriving DecidableEq, Repr


/-- The commands of the block: one constructor per row of the table of operations. -/
inductive Instr where
  /-- POWER_OFF (R50): RST_N or PWR_OK going low takes the device to OFF at once. -/
  | powerOff (pin : OffPin)
  /-- POWER_ON (R387): PWR_OK and RST_N both high take the device from OFF into PASTEURISE, starting every value from reset. -/
  | powerOn (straps : BitVec 2)
  /-- BROWN_OUT (R420): VDD_CORE or VDD_AON below 0.680 V for 1 µs acts as PWR_OK falling. -/
  | brownOut (rail : CoreRail)
  /-- CLK_FAIL (R405): Loss of the reference for 2 µs, or loss of churn or fabric PLL lock, raises the class F input CLK_FAIL. -/
  | clkFail (source : ClockSource)
  /-- DEVICE_RESET (R387): A PWR_RESET write with DEVICE 1 and KEY 0x5EA5 enters PASTEURISE and resets every block except the kept ones. -/
  | deviceReset (m : Master) (value : Word)
  /-- PASTEURISE_COMPLETE (R388): The SRAM and chip-private DRAM wipe ends and the device enters BOOT. -/
  | pasteuriseComplete
  /-- BOOT_DEAL_SELECT (R44): Verification of both QSPI Deal slots ends and the device enters DEALT with the chosen image or UNDEALT. -/
  | bootDealSelect (slotA slotB : Bytes)
  /-- FIRMWARE_SLOT_START (R395): At a core start the boot ROM chooses and starts a valid firmware slot, or enters FATAL at BOOT when none is valid. -/
  | firmwareSlotStart (imageA imageB : Bytes)
  /-- DOMAIN_READY (R386): A domain that was switched on finishes clearing its SRAM and registers and sets READY. -/
  | domainReady (d : Fin 15)
  /-- WATCHDOG_EXPIRY (R399): PERIOD ms without a kick raise FW_WDOG and make a core restart. -/
  | watchdogExpiry
  /-- WATCHDOG_KICK (R399): A write of 0xC0DE to PWR_WDOG_KICK restarts the watchdog period. -/
  | watchdogKick (m : Master) (value : Word)
  /-- LOCKSTEP_DISAGREE (R399): A disagreement of the management cores raises LOCKSTEP and makes a core restart in the same cycle. -/
  | lockstepDisagree
  /-- FW_ALIVE (R398): A core write of 0xA11E to PWR_FW_ALIVE ends a firmware absence and releases the commands that waited for firmware. -/
  | fwAlive (m : Master) (value : Word)
  /-- FW_ABSENCE_LIMIT (R398): A firmware absence of 60 s raises FW_ABSENT, enters SAFE_LIGHT from LIT or HOLD and restarts the cores from the other slot. -/
  | fwAbsenceLimit
  /-- FW_SWITCH_TIMEOUT (R397): New firmware that has not written PWR_FW_ALIVE within 10 s makes the cores restart from the previous slot. -/
  | fwSwitchTimeout
  /-- DUMP_DONE (R400): The firmware finishes writing the fatal dump and sets DONE. -/
  | dumpDone (log : Bytes)
  /-- DUMP_TIMEOUT (R400): A dump not finished within 2 s of entry to FATAL sets NONE. -/
  | dumpTimeout
  /-- AUTO_RESET (R401): AUTO_RESET seconds after DONE or NONE the device makes a device reset. -/
  | autoReset
  /-- UNKNOWN_OPCODE (R66): A command whose opcode is unknown or whose reserved header bits are set completes INVALID at step 1. -/
  | unknownOpcode (opcode : Byte) (q : Submission)
  /-- NOP (R67): NOP completes at once with RESULT 0. -/
  | nop (q : Submission)
  /-- SYNC (R75): SYNC snapshots the device, writes the 1,024-byte summary and optionally re-arms ring completion interrupts. -/
  | sync (q : Submission)
  /-- DEAL_LOAD (R45): DEAL_LOAD verifies a Deal image in host memory and on success puts it in force and enters DEALT. -/
  | dealLoad (q : Submission)
  /-- REDEAL_GROUP (R46): REDEAL_GROUP verifies a new Deal that differs only in one group and schedules it for a later cut. -/
  | redealGroup (q : Submission)
  /-- LIGHT (R54): LIGHT adds admitted tiles to the lit set at the next cut. -/
  | light (q : Submission)
  /-- DARKEN (R434): DARKEN removes tiles from the lit set at the next cut and sends them DARK CLOSE parcels. -/
  | darken (q : Submission)
  /-- HOLD (R52): HOLD freezes layer content from the next cut. -/
  | hold (q : Submission)
  /-- RESUME (R53): RESUME returns the device from HOLD or SAFE_LIGHT to LIT at the next cut. -/
  | resume (q : Submission)
  /-- TIMING_SET (R89): TIMING_SET changes the frame rate or sync source through the retime sequence. -/
  | timingSet (q : Submission)
  /-- LAYER_COMMIT (R102): LAYER_COMMIT checks and accepts a complete new layer for a slot, taking a surface token, to enter force at a cut. -/
  | layerCommit (q : Submission)
  /-- LAYER_DISABLE (R107): LAYER_DISABLE ends a slot's layer at the next cut. -/
  | layerDisable (q : Submission)
  /-- SURFACE_COPY_IN (R135): SURFACE_COPY_IN queues a copy of host memory into a device partition. -/
  | surfaceCopyIn (q : Submission)
  /-- TRUMP_SELECT (R122): TRUMP_SELECT selects the trump page of the named tiles at the next cut. -/
  | trumpSelect (q : Submission)
  /-- SKIM_ZONES_SET (R164): SKIM_ZONES_SET copies a floor zone table into skim SRAM to replace the zone set at the next cut. -/
  | skimZonesSet (q : Submission)
  /-- SKIM_MAINT_WINDOW (R169): SKIM_MAINT_WINDOW opens, restarts or closes the maintenance window of the named tiles at the next cut. -/
  | skimMaintWindow (q : Submission)
  /-- TILE_ADMIT (R223): TILE_ADMIT sends ADMIT and the fallback set to a training tile to make it ADMITTED. -/
  | tileAdmit (q : Submission)
  /-- TILE_RETIRE (R224): TILE_RETIRE takes a tile out of the lit set and runs the retire handshake. -/
  | tileRetire (q : Submission)
  /-- TILE_CAL_LOAD (R183): TILE_CAL_LOAD checks a CURD-CAL table and starts its gradual entry, or writes it to the tile's flash. -/
  | tileCalLoad (q : Submission)
  /-- TILE_CAL_READ (R228): TILE_CAL_READ reads the tile's flash over the link into host memory. -/
  | tileCalRead (q : Submission)
  /-- LINK_TEST (R230): LINK_TEST runs a PRBS31 test on the named lanes of a port for FRAMES frames. -/
  | linkTest (q : Submission)
  /-- LOOP_LOAD (R270): LOOP_LOAD checks a coefficient bank image and writes it into the bank not in force. -/
  | loopLoad (q : Submission)
  /-- LOOP_SWAP (R271): LOOP_SWAP schedules the bank swap of the named loops for the next sample tick. -/
  | loopSwap (q : Submission)
  /-- LOOP_MODE (R265): LOOP_MODE schedules a hand-over of a loop to a new mode. -/
  | loopMode (q : Submission)
  /-- CAL_RUN (R284): CAL_RUN starts a two-run self-calibration of the named trim items. -/
  | calRun (q : Submission)
  /-- CRC_SCAN (R402): CRC_SCAN computes a check value over a DRAM range on a check-value unit. -/
  | crcScan (q : Submission)
  /-- DUMP_FETCH (R401): DUMP_FETCH copies part of the fatal dump to host memory. -/
  | dumpFetch (q : Submission)
  /-- FW_STAGE (R396): FW_STAGE writes and verifies a firmware image into the inactive slot. -/
  | fwStage (q : Submission) (image : HostRead)
  /-- FW_SWITCH (R397): FW_SWITCH restarts the cores from the named firmware slot and is held across the restart. -/
  | fwSwitch (q : Submission)
  /-- LIFECYCLE_ADVANCE (R393): LIFECYCLE_ADVANCE checks a signed authorisation, programs eFuses and enters PASTEURISE. -/
  | lifecycleAdvance (q : Submission) (auth : HostRead)
  /-- PARTNER_JOIN (R329): PARTNER_JOIN joins the chip to its partner until the pair is LOCKED. -/
  | partnerJoin (q : Submission)
  /-- PARTNER_LEAVE (R337): PARTNER_LEAVE hands the ports to the partner and releases this chip's lanes. -/
  | partnerLeave (q : Submission)
  /-- COMMAND_WAIT_RELEASE (R73): A command held at step 3 is checked once its ORDERED or WAIT_EN condition is met. -/
  | commandWaitRelease (r : RingId) (data : HostRead)
  /-- COMMAND_WAIT_TIMEOUT (R73): A command that has waited 1,000 ms at step 3 completes TIMEOUT. -/
  | commandWaitTimeout (r : RingId)
  /-- SQ_TAIL_WRITE (R60): A write to DEV_RINGn_SQ_TAIL submits commands or is discarded with TAIL_ERR. -/
  | sqTailWrite (m : Master) (r : RingId) (value : Word)
  /-- CQ_HEAD_WRITE (R60): A write to DEV_RINGn_CQ_HEAD consumes completions, freeing completion slots, or is discarded with TAIL_ERR. -/
  | cqHeadWrite (m : Master) (r : RingId) (value : Word)
  /-- RING_ENABLE (R62): Setting ENABLE resets the ring pointers and posts the held completions, or is discarded with CFG_ERR. -/
  | ringEnable (m : Master) (r : RingId) (value : Word)
  /-- RING_DISABLE (R62): Clearing ENABLE stops the ring while accepted commands run on and their completions are held. -/
  | ringDisable (m : Master) (r : RingId) (value : Word)
  /-- FLUSH_REPLAY (R62): A write of FLUSH_REPLAY while the ring is disabled clears its replay window. -/
  | flushReplay (m : Master) (r : RingId) (value : Word)
  /-- RING_ERROR_CLEAR (R62): Clearing FETCH_ERR or POST_ERR resumes command reading or rewrites the held completion. -/
  | ringErrorClear (m : Master) (r : RingId) (value : Word)
  /-- PCIE_LINK_DOWN (R364): A PCI Express link-down or hot reset stops the host rings and queues and resets configuration space. -/
  | pcieLinkDown (hotReset : Bool)
  /-- PCIE_PERST (R424): PCIE_PERST_N low resets the host port alone and acts as a link-down. -/
  | pciePerst
  /-- D3HOT_ENTRY (R357): Entry of the function to D3hot freezes host coalescing timers and stages host queue records. -/
  | d3hotEntry (pmeEn pmeClear : Bool)
  /-- D0_RETURN (R357): Return to D0 writes staged records, resumes timers and sends each non-empty queue's message. -/
  | d0Return (pmeEn pmeClear : Bool)
  /-- BAR2_READ (R379): A host read through BAR2 is checked by the firewall and returns DRAM data or 0xFF. -/
  | bar2Read (offset : BitVec 28) (len : Nat)
  /-- BAR2_WRITE (R379): A host write through BAR2 is checked by the firewall and written to DRAM or discarded. -/
  | bar2Write (offset : BitVec 28) (data : Bytes)
  /-- I2C_READ (R381): An I²C master writes an index and reads status registers without changing device state. -/
  | i2cRead (index : Byte) (count : Nat)
  /-- REGISTER_WRITE (R7): A write to a register without behaviour of its own acts by its access codes and the width rule. -/
  | registerWrite (m : Master) (offset : BitVec 24) (size : Nat) (value : Word)
  /-- LATCHING_PAIR_READ (R86): A read of the low word of a latching pair latches the high word. -/
  | latchingPairRead (m : Master) (offset : BitVec 24) (size : Nat)
  /-- FRAME_TICK (R14): The frame tick advances the frame count and starts composition of the next frame. -/
  | frameTick
  /-- SAMPLE_TICK (R256): At each sample tick the control engine copies CTL RWS values, latches inputs and computes the enabled loops. -/
  | sampleTick (missed : List (Fin 64))
  /-- CUT (R15): The cut copies RWS values and ready layer commits into force and closes the frame's bookings. -/
  | cut
  /-- CUT_FENCE (R105): 50 µs before the cut the churns read each distinct fence word once. -/
  | cutFence
  /-- RETRY_HORIZON (R212): At the horizon the link stops work on frame k and marks undelivered lines REPEAT. -/
  | retryHorizon
  /-- CHURN_LINE (R96): A churn composes one line at its scheduled start or sends it as REPEAT. -/
  | churnLine (n : TileId) (line : Nat) (env : LineEnv)
  /-- SYNC_IN_EDGE (R83): A SYNC_IN edge is compared with the expected edge and advances the lock state or starts a matrix scan frame. -/
  | syncInEdge (falling : Bool)
  /-- SYNC_LOCK_LOST (R83): Two consecutive missing expected edges lose lock and return the generator to free-run and SEEK. -/
  | syncLockLost
  /-- RETIME_DECISION (R90): At CUT(k) a rate change proceeds if every notified tile acknowledged, and is otherwise abandoned. -/
  | retimeDecision
  /-- RETIME_WINDOW_END (R92): The re-phase window of 2 old periods ends and probing resumes. -/
  | retimeWindowEnd
  /-- REDEAL_TAKE_EFFECT (R47): At cut C the new image comes into force for the re-dealt group. -/
  | redealTakeEffect
  /-- LAYER_COMMIT_TIMEOUT (R104): A fenced commit pending for 8 cuts completes TIMEOUT and returns its surface. -/
  | layerCommitTimeout (n : TileId) (slot : Fin 8)
  /-- SURFACE_COPY_DONE (R135): A copy's last byte reaches DRAM and SURFACE_COPY_IN completes OK. -/
  | surfaceCopyDone (data : Bytes)
  /-- SURFACE_COPY_TIMEOUT (R135): A host read failing or unanswered for 50 ms completes the copy TIMEOUT. -/
  | surfaceCopyTimeout (arrived : Bytes)
  /-- POT_PERSIST (R179): Debt at OVR_FRAMES consecutive cuts sets PERSIST and raises POT_OVERRUN. -/
  | potPersist (n : TileId)
  /-- CAL_ENTRY_COMPLETE (R184): At entry step 64 the new calibration table alone is in force and TILE_CAL_LOAD completes. -/
  | calEntryComplete (n : TileId)
  /-- OBJECT_LIST_PACKET (R152): An object-list packet is added to the skim assembly, which may complete, abandon or invalidate a list. -/
  | objectListPacket (payload : Bytes)
  /-- SKIM_BLIND_ENTRY (R154): AGE reaching STALE_LIMIT or an over-long prediction horizon puts the skim engine in BLIND. -/
  | skimBlindEntry
  /-- SKIM_SETUP_DONE (R167): Every tile's skim setup ends and mask lines are written ahead of the churn. -/
  | skimSetupDone (counts : Nat) (ecc : Bool)
  /-- MAINT_WINDOW_CLOSE (R169): A maintenance window closes at the first cut at or after its end. -/
  | maintWindowClose (n : TileId)
  /-- PARCEL_SEND (R208): A port sends the next parcel on a lane when it holds a credit for it. -/
  | parcelSend (n : TileId) (lane : TxLane) (ecc : Bool)
  /-- CLOSE_SEND (R212): A port sends CLOSE(k) on every locked lane once every line is delivered or failed, or at the horizon. -/
  | closeSend (n : TileId)
  /-- RESEND_TIMEOUT (R211): ACK_TIMEOUT without acknowledgement resends a parcel or fails it after its fourth send. -/
  | resendTimeout (n : TileId) (seq : BitVec 16)
  /-- ACK (R210): An ACK record marks parcels acknowledged and returns released credits. -/
  | ack (n : TileId) (h : RecHdr) (body : AckBody)
  /-- NAK (R210): A NAK record makes the chip resend the named copy if still unacknowledged. -/
  | nak (n : TileId) (h : RecHdr) (body : NakBody)
  /-- STATUS (R225): A STATUS record updates the chip's view of the tile state, lanes and set-points. -/
  | status (n : TileId) (h : RecHdr) (body : StatusBody)
  /-- SENSOR (R227): A SENSOR record supplies the tile's forward voltage, temperature and light values to the control engine. -/
  | sensor (n : TileId) (h : RecHdr) (body : SensorBody)
  /-- VF (R237): A VF record is applied to the diagnostics of its lighting period or discarded as late. -/
  | vf (n : TileId) (h : RecHdr) (body : VfBody)
  /-- IDENT (R222): An IDENT record puts the port in TRAINING and is checked against the TILE entry. -/
  | ident (n : TileId) (h : RecHdr) (body : IdentBody)
  /-- ADMIT_ACK (R223): The tile's ADMIT_ACK grants lane credits and lets admission proceed to the fallback set. -/
  | admitAck (n : TileId) (h : RecHdr) (e : EventBody)
  /-- RETIRE_ACK (R224): The tile's RETIRE_ACK makes it RETIRED, returns all credits and completes TILE_RETIRE. -/
  | retireAck (n : TileId) (h : RecHdr) (e : EventBody)
  /-- RETIME_ACK (R90): A tile acknowledges a retime notice. -/
  | retimeAck (n : TileId) (h : RecHdr) (e : EventBody)
  /-- LANE_DOWN (R219): LANE_DOWN parks the lane's credits, resends its parcels on the other lane and enters single-lane operation. -/
  | laneDown (n : TileId) (h : RecHdr) (lane : TxLane) (e : EventBody)
  /-- LANE_UP (R221): LANE_UP unparks the lane's credits at the next frame tick. -/
  | laneUp (n : TileId) (h : RecHdr) (lane : TxLane) (e : EventBody)
  /-- RESYNC (R221): RESYNC gives new credit baselines and ends blind operation at the next frame tick. -/
  | resync (n : TileId) (h : RecHdr) (e : EventBody)
  /-- TEST_RESULT (R230): TEST_RESULT reports a tested lane's PRBS31 error count. -/
  | testResult (n : TileId) (h : RecHdr) (lane : TxLane) (e : EventBody)
  /-- FLASH_DONE (R228): FLASH_DONE completes a flash write as OK or INVALID. -/
  | flashDone (n : TileId) (h : RecHdr) (failed : Bool) (e : EventBody)
  /-- LS2_ACK (R229): LS2_ACK lets both ends turn off their PLL and CDR. -/
  | ls2Ack (n : TileId) (h : RecHdr) (e : EventBody)
  /-- FLASH_DATA (R228): A FLASH_DATA record's bytes are written to the TILE_CAL_READ destination. -/
  | flashData (n : TileId) (h : RecHdr) (offset : Word) (data : Bytes)
  /-- BAD_RETURN_RECORD (R226): A return record failing its CRC is discarded and counted. -/
  | badReturnRecord (n : TileId)
  /-- RETURN_LANE_LOCK (R197): The return lane gains block lock at the chip. -/
  | returnLaneLock (n : TileId)
  /-- RETURN_LANE_LOST (R220): Return-lane lock loss puts the port into blind operation. -/
  | returnLaneLost (n : TileId)
  /-- TILE_ABSENT_TIMEOUT (R225): 64 consecutive frames without return-lane lock take the tile state to ABSENT. -/
  | tileAbsentTimeout (n : TileId)
  /-- DEAL_MISMATCH_MISSING (R48): A declared tile with no lane locked for 64 frames sets MISSING and raises DEAL_MISMATCH. -/
  | dealMismatchMissing (n : TileId)
  /-- IDENT_RECHECK (R222): Every 256 frames in TRAINING the latest IDENT is checked again. -/
  | identRecheck (n : TileId)
  /-- TILE_ADMIT_TIMEOUT (R223): Admission not complete within 100 ms completes TILE_ADMIT TIMEOUT. -/
  | tileAdmitTimeout (n : TileId)
  /-- TILE_RETIRE_TIMEOUT (R224): No RETIRE_ACK within 16 frames retires the tile and completes TIMEOUT. -/
  | tileRetireTimeout (n : TileId)
  /-- FLASH_DONE_TIMEOUT (R228): No FLASH_DONE within 30 s of the commit completes TIMEOUT. -/
  | flashDoneTimeout (n : TileId)
  /-- LINK_TEST_END (R230): After FRAMES ticks the tested lanes return to normal use. -/
  | linkTestEnd (n : TileId) (returnErrors : Nat)
  /-- LS2_REQUEST (R229): A write of LS2_REQ 1 sends the LS2 entry parcel or sets LS2_REJ. -/
  | ls2Request (m : Master) (n : TileId) (value : Word)
  /-- LS2_RELEASE (R229): A write of LS2_REQ 0 relocks the port's lanes. -/
  | ls2Release (m : Master) (n : TileId) (value : Word)
  /-- TILE_POWER_UP (R222): A tile starts in TRAINING and grants the kitty with its first IDENT. -/
  | tilePowerUp (n : TileId) (maker : TileMaker)
  /-- TILE_IDENT_SEND (R222): A training tile sends an IDENT record every 1 ms. -/
  | tileIdentSend (n : TileId)
  /-- TILE_TICK_BLOCK (R198): The tile takes the first TICK block of a tick as that tick. -/
  | tileTickBlock (n : TileId) (lane : TxLane) (frame : Word) (rate : Nat) (newRate : Bool)
  /-- TILE_FLYWHEEL (R198): No TICK within 2 µs makes the tile place the tick itself. -/
  | tileFlywheel (n : TileId)
  /-- TILE_FRAME_SWAP (R215): At subframe 0 the tile loads delivered lines of a held CLOSE, or counts toward its hold. -/
  | tileFrameSwap (n : TileId)
  /-- TILE_HOLD_EXPIRY (R216): HOLD_COUNT exceeding HOLD_FRAMES loads the fallback pattern. -/
  | tileHoldExpiry (n : TileId)
  /-- TILE_SUBFRAME_START (R234): At subframe 0 the tile fires probes, measures its scan set and sends VF records. -/
  | tileSubframeStart (n : TileId) (meas : List PixelMeas)
  /-- TILE_LANE_LOST (R219): Lock loss of a transmit lane at the tile releases its slots and sends LANE_DOWN. -/
  | tileLaneLost (n : TileId) (lane : TxLane) (partialCopy : Bool)
  /-- TILE_LANE_LOCK (R221): The tile relocks a transmit lane and sends LANE_UP. -/
  | tileLaneLock (n : TileId) (lane : TxLane)
  /-- TILE_TRANSMIT_LOSS (R390): Loss of every admitted transmit lane for 1 ms sends the tile to TRAINING. -/
  | tileTransmitLoss (n : TileId)
  /-- TILE_BAD_COPY (R210): A copy failing CRC or a runt is released and NAKed. -/
  | tileBadCopy (n : TileId) (lane : TxLane) (runt : Bool) (seq : BitVec 16)
  /-- PIXELS (R203): A PIXELS parcel writes a segment of a line. -/
  | pixels (n : TileId) (lane : TxLane) (p : Parcel)
  /-- PROBES (R204): A PROBES parcel gives a line's fired probe entries. -/
  | probes (n : TileId) (lane : TxLane) (p : Parcel)
  /-- CLOSE (R205): A CLOSE parcel gives the delivered-line map, set-points and flags of a frame. -/
  | close (n : TileId) (lane : TxLane) (p : Parcel)
  /-- RETIME (R218): A RETIME notice, confirm or cancel drives the tile's rate change. -/
  | retime (n : TileId) (lane : TxLane) (p : Parcel)
  /-- ADMIT (R223): An ADMIT parcel configures the tile and is answered with ADMIT_ACK. -/
  | admitParcel (n : TileId) (lane : TxLane) (p : Parcel)
  /-- RETIRE (R224): A RETIRE parcel darkens the tile, releases its slots and is answered with RETIRE_ACK. -/
  | retire (n : TileId) (lane : TxLane) (p : Parcel)
  /-- FALLBACK (R217): A FALLBACK parcel contributes to a set, adopted when all 8 are held. -/
  | fallback (n : TileId) (lane : TxLane) (p : Parcel)
  /-- FLASH (R228): A FLASH parcel writes a chunk, commits or reads the tile's flash. -/
  | flash (n : TileId) (lane : TxLane) (p : Parcel)
  /-- LANE (R206): A LANE parcel requests LS2 entry, a test start or a resync. A parcel of an unknown type (R202) comes as this row too. -/
  | lane (n : TileId) (tx : TxLane) (p : Parcel)
  /-- DIAG_PASS_END (R238): A pass ends, REF is updated, the map header rewritten and pass faults raised. -/
  | diagPassEnd (n : TileId)
  /-- FMAP_INIT_END (R248): The 64 visits of a fault map initialisation end and INIT_RUN clears. -/
  | fmapInitEnd (n : TileId)
  /-- FMAP_INIT (R248): A write of FMAP_INIT initialises the fault map at the next cut. -/
  | fmapInit (m : Master) (n : TileId) (value : Word)
  /-- PEND_FLUSH (R242): A write of PEND_FLUSH empties the pending probe list at the next cut. -/
  | pendFlush (m : Master) (n : TileId) (value : Word)
  /-- LOOP_MODE_TIMEOUT (R257): A LOOP_MODE waiting 1,000 ms for fresh inputs completes TIMEOUT. -/
  | loopModeTimeout (l : LoopId)
  /-- HANDOVER_WINDOW_END (R266): After 8 sample ticks the slew limit becomes that of the new mode. -/
  | handoverWindowEnd (l : LoopId)
  /-- RESIDUAL_TRIP (R262): A residual counter reaching RES_N trips the input, raises LOOP_RESIDUAL and may hand over to HOLD. -/
  | residualTrip (l : LoopId) (input : Fin 4)
  /-- TRACE_ARM (R277): A write of ARM clears and arms a trace channel. -/
  | traceArm (m : Master) (c : Fin 4) (value : Word)
  /-- TRACE_STOP (R277): A write of STOP ends recording at the next sample tick. -/
  | traceStop (m : Master) (c : Fin 4) (value : Word)
  /-- TRACE_POST_END (R277): A one-shot channel stops after POST entries after its trigger. -/
  | tracePostEnd (c : Fin 4)
  /-- MILK_ROUND_END (R279): A 16 ms milk round ends, storing corrected codes and checking supplies. `conv`: its conversions, 16 a slot. -/
  | milkRoundEnd (conv : List Nat)
  /-- THERMAL_EVALUATION (R292): At the end of slot 7 the thermal monitor judges warn, throttle, trip and over-temperature. -/
  | thermalEvaluation (conv : List Nat)
  /-- THROTTLE_LEVEL_APPLY (R292): A new throttle level takes effect at the start of slot 8. -/
  | throttleLevelApply
  /-- CAL_RUN_DECISION (R286): At the end of run 2 each item agrees or disagrees and CAL_RUN completes. -/
  | calRunDecision
  /-- TRIM_ENTRY_COMPLETE (R287): At round D + 16 the new trim alone is in force and COUNT increases. -/
  | trimEntryComplete
  /-- SAVE (R291): A write of SAVE writes the save image of the trims in force. -/
  | save (m : Master) (value : Word)
  /-- RESTORE (R291): A write of RESTORE reads and checks a save image and starts trim entry. -/
  | restore (m : Master) (value : Word)
  /-- DRAM_REFRESH_RATE_READ (R375): Every 32 ms the controller reads the refresh-rate mode register and applies it. -/
  | dramRefreshRateRead (multipliers : List Nat)
  /-- PWM_PERIOD_START (R301): At each period start a channel latches its level, dithers its on-time and samples detection. -/
  | pwmPeriodStart (samples : List PinSample)
  /-- FADE_TICK (R303): Every 1 ms fades advance, binning applies and channels are judged. -/
  | fadeTick (offChecks : List PinSample)
  /-- TARGET (R303): A write of TARGET starts a fade from the present index. -/
  | target (m : Master) (c : Fin 48) (value : Word)
  /-- SCAN_SLOT_START (R305): A matrix scan slot drives its gate and column pulses. -/
  | scanSlotStart (samples : List PinSample)
  /-- MSYNC_LOST (R306): No SYNC_IN edge within 1.5 P starts a scan frame and sets MSYNC_LOST. -/
  | msyncLost
  /-- MSWAP (R307): A write of MSWAP requests a frame-buffer exchange at the next scan frame start. -/
  | mswap (m : Master) (value : Word)
  /-- CLR (R310): A write of CLR returns the channel to UNTESTED at the next fade tick. -/
  | clr (m : Master) (c : Fin 48) (value : Word)
  /-- FAULT_INPUT_RAISE (R318): An input raise acts by its class and may enter FATAL or start the reaction timer. -/
  | faultInputRaise (input : Fin 128) (detail : BitVec 16)
  /-- BROKEN_PAIR (R316): Invalid readings at 2 consecutive samples raise the input as broken. -/
  | brokenPair (input : Fin 128)
  /-- FLT_INJECT (R318): A write to FLT_INJECT raises an injected fault. -/
  | fltInject (m : Master) (value : Word)
  /-- VALID (R319): A write of 1 to FLT_FIRST.VALID clears the latch. -/
  | valid (m : Master) (value : Word)
  /-- FAULT_PEND_CLEAR (R320): A W1C write to FLT_PENDw clears pending bits and may stop the reaction timer. -/
  | faultPendClear (m : Master) (w : Fin 4) (value : Word)
  /-- REACTION_TIMER_EXPIRY (R320): Expiry of the reaction timer posts EXPIRY and enters SAFE_LIGHT from LIT or HOLD. -/
  | reactionTimerExpiry
  /-- PTN_NOT_FOUND (R328): No partner-link lock within 64 frames of DEALT sets MISSING. -/
  | ptnNotFound
  /-- PARTNER_MESSAGE (R331): A partner message delivers a parcel plan, digest, schedule, output or notice. -/
  | partnerMessage (msg : PartnerMsg)
  /-- PARTNER_LOSS (R335): Loss of the partner makes the survivor ALONE and take over. -/
  | partnerLoss (cause : LossCause)
  /-- PARTNER_JOIN_TIMEOUT (R329): Join steps not complete within 1,000 ms complete TIMEOUT. -/
  | partnerJoinTimeout
  /-- PARTNER_REDEAL_TIMEOUT (R334): No paired image within 1,000 ms completes a pair re-deal TIMEOUT. -/
  | partnerRedealTimeout
  /-- WINDOW_TIMEOUT (R346): A coalescing window closes after TIME µs and notifies its hand. -/
  | windowTimeout (src : Nat)
  /-- HOLDOFF_EXPIRY (R347): At the end of a hold-off the waiting notification is issued once. -/
  | holdoffExpiry (g : Fin 3) (h : Fin 8)
  /-- CLAIM_READ (R349): A read of INTC_HANDh_CLAIM claims the selected source. -/
  | claimRead (m : Master) (h : Fin 2)
  /-- CLAIM_WRITE (R350): A write of a source ID completes the top claim and pops RUN. -/
  | claimWrite (m : Master) (h : Fin 2) (value : Word)
  /-- PENDING_WITHDRAW (R355): A W1C write to INTC_HANDh_PENDw withdraws pending bits. -/
  | pendingWithdraw (m : Master) (h : Fin 2) (w : Fin 12) (value : Word)
  /-- EVQ_ENABLE (R351): Setting ENABLE resets PROD, CONS and FREE and arms the queue. -/
  | evqEnable (m : Master) (q : QueueId) (value : Word)
  /-- CONS (R352): A CONS write frees slots and lets staged records be written. -/
  | cons (m : Master) (q : QueueId) (value : Word)
  /-- ARM (R353): A write of ARM sets ARMED and may send a message at once. -/
  | arm (m : Master) (q : QueueId) (value : Word)
  /-- WRITE_ERR_CLEAR (R352): Clearing WRITE_ERR resumes writing staged records to the queue. -/
  | writeErrClear (m : Master) (q : QueueId) (value : Word)
  /-- VIDEO_LINE (R371): A VIDEO_LINE packet is checked and written to DRAM with its fence word. -/
  | videoLine (payload : Bytes) (room : Bool)
  /-- TS_REQUEST (R87): A TS_REQUEST is stamped and answered with a TS_REPLY. -/
  | tsRequest (payload : Bytes)
  /-- FEED_PACKET_ERROR (R369): A packet with a CRC or format error is discarded and counted. -/
  | feedPacketError (kind : PacketError)
  /-- FEED_UNKNOWN_PACKET (R369): A good packet of unknown type is discarded and counted. -/
  | feedUnknownPacket (type : Byte)
  /-- FEED_LANE_LOCK (R367): An enabled feed lane gains block and marker lock, bringing the port UP. -/
  | feedLaneLock (lane : Fin 4) (marker : Bool) (skew : Nat)
  /-- FEED_LANE_LOCK_LOST (R368): Loss of lock returns the port to ALIGNING and discards the packet. -/
  | feedLaneLockLost (lane : Fin 4) (marker : Bool)
  /-- SELF_REFRESH_ENTRY (R378): The memory controller enters self-refresh when idle and MIN_TOL allows. -/
  | selfRefreshEntry (minTol : Nat)
  /-- SELF_REFRESH_EXIT (R378): A request or MIN_TOL reaching EXIT_LEAD takes the controller out of self-refresh. -/
  | selfRefreshExit (minTol : Nat)
  /-- SCALER_CFG_WRITE (R143): A write to SCLn_CFG is checked against taps and the line-buffer rule or discarded. -/
  | scalerCfgWrite (m : Master) (k : Fin 8) (value : Word)
  /-- TABLE_WR (R143): A write of TABLE_WR makes scaler tables writable unless a slot claims the scaler. -/
  | tableWr (m : Master) (k : Fin 8) (value : Word)
  /-- DEAL_VERIFY_DONE (R43): Verification of a DEAL_LOAD or REDEAL_GROUP image ends, putting the Deal in force or fixing the re-deal's cut C, and completes DEAL_LOAD. -/
  | dealVerifyDone (image : HostRead)
  /-- CAL_CHECKS_COMPLETE (R183): The read and check of a TILE_CAL_LOAD table ends, so that the first cut after it sets entry step j to 1. -/
  | calChecksComplete (n : TileId)
  /-- LOOP_LOAD_DONE (R270): A LOOP_LOAD finishes writing its bank, marks it valid, clears LOAD_BUSY and completes OK. -/
  | loopLoadDone (l : LoopId)
  /-- FW_STAGE_DONE (R396): The staged firmware slot is written, read back and verified, becomes valid and FW_STAGE completes. -/
  | fwStageDone
  /-- CRC_SCAN_DONE (R402): A check-value unit ends its scan, completes CRC_SCAN, clears BUSY and posts a SCAN record. -/
  | crcScanDone (u : Fin 2)
  /-- EFUSE_PROGRAMMING_DONE (R393): The eFuse operations and life-cycle state of a LIFECYCLE_ADVANCE are programmed and PASTEURISE follows. -/
  | efuseProgrammingDone
  /-- DUMP_FETCH_DONE (R401): The Dealer's copy of dump bytes to host memory ends and DUMP_FETCH completes. -/
  | dumpFetchDone
  /-- SUMMARY_WRITTEN (R75): The SYNC summary write to host memory ends, SYNC completes and REARM raises ring completion interrupts. -/
  | summaryWritten
  /-- SAVE_DONE (R291): A calibration save image write ends, SAVE_BUSY clears and SR_RESULT becomes 1. -/
  | saveDone
  /-- RESTORE_READ_DONE (R291): A calibration restore read ends and is checked, starting trim entry or setting a failure SR_RESULT. -/
  | restoreReadDone
  /-- DRAM_TRAINING_DONE (R376): Memory training at BOOT ends, reporting TRAINED, rate, ranks and size in MEMC_STAT. -/
  | dramTrainingDone (result : Option TrainResult)
  /-- PATROL_SCRUB (R21): The patrol scrubber reads and corrects SRAM and DRAM words on its own schedule, raising ECC faults and counting passes. -/
  | patrolScrub (found : ScrubFinding)
  /-- SYNC_OUT_PULSE (R85): SYNC_OUT starts a high pulse TICK_SYNC_OUT_LEAD counts before each qualifying frame tick and ends it after OUT_WIDTH. -/
  | syncOutPulse (rising : Bool)
  /-- LS1_EXIT (R229): The chip begins to take a transmit lane out of LS1 by sending IDLE 2 µs before the next tick. -/
  | ls1Exit (n : TileId) (lane : TxLane)
  /-- PARTNER_LINK_LOCK (R329): The partner-link lanes gain block and marker lock and deskew, letting a PARTNER_JOIN proceed and stopping the not-found count. -/
  | partnerLinkLock (lane : Fin 2) (delay : BitVec 16)
  /-- BUS_MASTER_ENABLE (R364): Bus Master Enable set by the host releases the waiting host-memory commands and the staged records and completions. -/
  | busMasterEnable
  /-- SOURCE_ROUTING_WRITE (R354): A write to a source's PRIORITY, MASK or ROUTE, or a hand's ENABLE or THRESHOLD, changes eligibility, closing windows or routing staged records. -/
  | sourceRoutingWrite (m : Master) (offset : BitVec 24) (value : Word)
  /-- EVQ_DISABLE (R352): Clearing an event queue's ENABLE routes the records that wait in staging for it to other hands. -/
  | evqDisable (m : Master) (q : QueueId) (value : Word)
  /-- LANE_EN (R368): A change of FEED_CFG.LANE_EN restarts feed-port alignment or takes the port DOWN. -/
  | laneEn (m : Master) (value : Word)
  /-- TILE_ACK_SEND (R210): The tile sends an ACK record at least every 2 µs with news and every 100 µs otherwise. -/
  | tileAckSend (n : TileId)
  /-- TILE_SENSOR_SEND (R227): The tile sends a SENSOR record every P/8 from subframe 0. -/
  | tileSensorSend (n : TileId) (reading : SensorReading)
deriving DecidableEq, Repr

end Sys2Proof
end

