-- ==== Sys2Proof/Decode.lean ====
section
/-! DEFINITION. Decoding of table words. No row of the table of operations gives bits: the block takes commands, not encoded words. -/

namespace Sys2Proof

/-- The command a word spells by the table's bits: no row gives bits, so no word spells one. -/
def decodeTableWord (nbits w : Nat) : Option Instr :=
  match nbits, w with
  | _, _ => none

end Sys2Proof
end

