-- ==== Sys2Proof/Config.lean ====
section
/-! DEFINITION. What one implementation fixes and the free values the spec leaves open.
Every constant here is opaque: no proof can see its value, so a statement holds for every value. -/

namespace Sys2Proof

/-- The value of an open result, taken with a fresh index each time (log 2). -/
opaque Config.freeValue : Nat → Nat
/-- The factory content of trim `w` (12 R289), a 16-bit pattern (log 7). -/
opaque Config.factoryTrim : Nat → BitVec 16
/-- The factory slope of die temperature sensor `k` (12 R282) (log 7). -/
opaque Config.tempSlope : Nat → Nat
/-- The factory intercept of die temperature sensor `k` (12 R282) (log 7). -/
opaque Config.tempIcept : Nat → Int
/-- The self-reference factor PTAT of the die temperature sensors (12 R285) (log 7). -/
opaque Config.ptat : Nat

/-- DIE_UID of this die (12 R290, 17 R392) (log 7). -/
opaque Config.dieUid : BitVec 64
/-- SHA-256 of the Quembe root key in the boot ROM (17 R391) (log 7). -/
opaque Config.rootKeyHash : BitVec 256
/-- SHA-256 of the firmware key in the boot ROM (17 R394) (log 7). -/
opaque Config.firmwareKeyHash : BitVec 256
/-- How a built-in windowed-sinc coefficient is rounded: by taps, phase and tap, one of three ways (06 R139) (log 9). -/
opaque Config.lanczosRound : Nat → Nat → Nat → Nat
/-- Deviation of a mapped skim coordinate before bounding to 1/32 pixel, by tile coefficients and direction (07 R158) (log 10). -/
opaque Config.skimMapErr : List Int → Int × Int
/-- Deviation of a skim distance before bounding to 1/32 pixel, by point and hulls (07 R161) (log 10). -/
opaque Config.skimDistErr : List Int → Int
/-- Whether a fence word written between CUT_FENCE and the cut is seen (05 R105) (log 11). -/
opaque Config.fenceSeen : Nat → Bool

/-- Length of the test access port's instruction register and of the boundary register, and the instruction that a pattern of
the instruction register selects, 0 BYPASS to 5 HIGHZ in the order of 19 R427 (log 87). -/
opaque Config.tapIrLength : Nat
opaque Config.boundaryLength : Nat
opaque Config.tapSelect : List Bool → Nat

/-- A tile's own limit of I_REF, by serial (09 R205) (log 27). -/
opaque Config.tileIRefLimit : Nat → Nat
/-- A tile's own limit of V_HR, by serial (09 R205) (log 27). -/
opaque Config.tileVHrLimit : Nat → Nat

end Sys2Proof
end

