-- ==== Sys2Proof/Machine/Bytes.lean ====
section
/-! DEFINITION. Little-endian fields, check values and sparse maps: the helpers of every record layout. -/

namespace Sys2Proof.Machine

open Sys2Proof

/-- `n` bytes of `v`, least significant first (00, "Registers": records are little-endian). -/
def le : Nat → Nat → Bytes
  | 0, _ => []
  | n + 1, v => BitVec.ofNat 8 v :: le n (v / 256)

/-- The value of little-endian bytes. -/
def leVal : Bytes → Nat
  | [] => 0
  | b :: bs => b.toNat + 256 * leVal bs

/-- The value of big-endian bytes (02: public keys and signatures). -/
def beVal (b : Bytes) : Nat := leVal b.reverse

/-- Bytes `off` to `off + len - 1`; shorter where the record ends. -/
def slice (b : Bytes) (off len : Nat) : Bytes := (b.drop off).take len

/-- The little-endian field of `len` bytes at `off`. -/
def rd (b : Bytes) (off len : Nat) : Nat := leVal (slice b off len)

/-- `n` zero bytes. -/
def zeros (n : Nat) : Bytes := List.replicate n 0#8

/-- `b` cut or zero-padded to exactly `n` bytes. -/
def padTo (n : Nat) (b : Bytes) : Bytes := b.take n ++ zeros (n - b.length)

/-- The offset of the first byte that is not 0, counted from `at0`. -/
def firstNonZero : Nat → Bytes → Option Nat
  | _, [] => none
  | at0, b :: bs => if b = 0#8 then firstNonZero (at0 + 1) bs else some at0

/-- The offset of the first byte in which two strings differ. -/
def firstDiff : Nat → Bytes → Bytes → Option Nat
  | _, [], _ => none
  | _, _, [] => none
  | at0, a :: as, b :: bs => if a = b then firstDiff (at0 + 1) as bs else some at0

/-- `k` shift steps of a reflected check register. -/
def crcBitsR (poly : Nat) : Nat → Nat → Nat
  | 0, c => c
  | k + 1, c => crcBitsR poly k (if c % 2 = 1 then (c >>> 1) ^^^ poly else c >>> 1)

/-- A reflected CRC over bytes, from register value `c`. -/
def crcR (poly c : Nat) (b : Bytes) : Nat :=
  b.foldl (fun c x => crcBitsR poly 8 (c ^^^ x.toNat)) c

/-- CRC-32 of 17 R402. -/
def crc32 (b : Bytes) : Nat := crcR 0xEDB88320 0xFFFFFFFF b ^^^ 0xFFFFFFFF
/-- CRC-32C of 17 R402. -/
def crc32c (b : Bytes) : Nat := crcR 0x82F63B78 0xFFFFFFFF b ^^^ 0xFFFFFFFF

/-- `k` shift steps of the unreflected 16-bit check register of polynomial 0x1021. -/
def crcBits16 : Nat → Nat → Nat
  | 0, c => c
  | k + 1, c => crcBits16 k (if c / 0x8000 % 2 = 1 then (c * 2 % 0x10000) ^^^ 0x1021 else c * 2 % 0x10000)

/-- CRC-16/CCITT-FALSE of 17 R402. -/
def crc16 (b : Bytes) : Nat :=
  b.foldl (fun c x => crcBits16 8 (c ^^^ (x.toNat * 256))) 0xFFFF

/-! Sparse maps: sorted lists of key and value that list no entry equal to its default. -/

/-- The value at key `k`, `d k` where none is listed. -/
def Sparse.get {α : Type} (d : Nat → α) : List (Nat × α) → Nat → α
  | [], k => d k
  | (a, v) :: m, k => if a = k then v else Sparse.get d m k

/-- The listed value at key `k`. -/
def Sparse.find? {α : Type} : List (Nat × α) → Nat → Option α
  | [], _ => none
  | (a, v) :: m, k => if a = k then some v else Sparse.find? m k

/-- Removes key `k`. -/
def Sparse.erase {α : Type} (k : Nat) : List (Nat × α) → List (Nat × α)
  | [] => []
  | (a, v) :: m => if a = k then Sparse.erase k m else (a, v) :: Sparse.erase k m

/-- Sets key `k` in sorted place. -/
def Sparse.put {α : Type} (k : Nat) (v : α) : List (Nat × α) → List (Nat × α)
  | [] => [(k, v)]
  | (a, w) :: m =>
    if k < a then (k, v) :: (a, w) :: m
    else if a = k then (k, v) :: m
    else (a, w) :: Sparse.put k v m

/-- Sets key `k`; a default value is not listed. -/
def Sparse.set {α : Type} [DecidableEq α] (d : Nat → α) (m : List (Nat × α)) (k : Nat) (v : α) :
    List (Nat × α) :=
  if v = d k then Sparse.erase k m else Sparse.put k v m

/-- Every key of `m` is above `k`, rising strictly. -/
def Sparse.above {α : Type} : Nat → List (Nat × α) → Bool
  | _, [] => true
  | k, (a, _) :: m => decide (k < a) && Sparse.above a m

/-- The canonical form: keys rise strictly and no entry equals its default. -/
def Sparse.wf {α : Type} [DecidableEq α] (d : Nat → α) : List (Nat × α) → Bool
  | [] => true
  | (a, v) :: m => !decide (v = d a) && Sparse.above a m && m.all (fun e => !decide (e.2 = d e.1))

end Sys2Proof.Machine
end

