-- ==== Sys2Proof/Machine/Curves.lean ====
section
/-! DEFINITION. The reset contents of the curve tables, computed exactly in whole numbers. -/

namespace Sys2Proof.Machine

/-- The largest number of at most `k` bits, added to `acc`, that passes a test failing from some point on. -/
def searchTop (ok : Nat → Bool) : Nat → Nat → Nat
  | 0, acc => acc
  | k + 1, acc => searchTop ok k (if ok (acc + 2 ^ k) then acc + 2 ^ k else acc)

/-- round(65,535 × (i / 1,023)^(a/5)). -/
def powerCurve (a i : Nat) : Nat :=
  searchTop (fun v => decide ((2 * v - 1) ^ 5 * 1023 ^ a ≤ 32 * 65535 ^ 5 * i ^ a)) 16 0

/-- LIN[i] = round(65,535 × (i / 1,023)^2.4) (06 R141). -/
def linReset (i : Nat) : Nat := powerCurve 12 i

/-- Fade table 1, entry i = round(65,535 × (i / 1,023)^2.2) (13 R303). -/
def fadeGammaReset (i : Nat) : Nat := powerCurve 11 i

/-- Fade table 0, entry 0 is 0 and entry i is round(65,535 × 2^((i − 1,023) / 64)) (13 R303). -/
def fadeLogReset (i : Nat) : Nat :=
  if i = 0 then 0
  else searchTop (fun v => decide ((2 * v - 1) ^ 64 * 2 ^ (1023 - i) ≤ (2 * 65535) ^ 64)) 16 0

/-- Transfer-curve knot T[i] = floor((i × 65,520 + 128) / 256) (08 R186). -/
def curveReset (i : Nat) : Nat := (i * 65520 + 128) / 256

end Sys2Proof.Machine
end

