-- ==== Sys2Proof/Machine/Fixed.lean ====
section
/-! DEFINITION. Fixed-point trigonometry and plane geometry of the skim engine (07 R158 to R161). -/

namespace Sys2Proof.Machine

open Sys2Proof

/-- One in the fixed-point format with 80 fractional bits. -/
def fxOne : Int := 2 ^ 80
/-- π in that format. -/
def fxPi : Int := 3797952473636338580787993
def fxMul (a b : Int) : Int := a * b / fxOne
def fxDiv (a b : Int) : Int := a * fxOne / b

/-- Sum of a sine or cosine series from its term of index `n` on. -/
def fxSeries (x2 : Int) : Nat → Nat → Int → Int
  | 0, _, _ => 0
  | k + 1, n, term => term + fxSeries x2 k (n + 2) (-(fxMul term x2) / (((n + 1) * (n + 2) : Nat) : Int))
/-- Sine and cosine of a fixed-point angle in radians of at most a turn. -/
def fxSin (x : Int) : Int := fxSeries (fxMul x x) 40 1 x
def fxCos (x : Int) : Int := fxSeries (fxMul x x) 40 0 fxOne

/-- Angle units of 2^-20 degree in 180 degrees. -/
def halfTurn : Int := 188743680
/-- Radians of a fixed-point number of angle units (07 R150). -/
def fxRad (v : Int) : Int := v * fxPi / (halfTurn * fxOne)

/-- The largest integer whose square is at most `n`. -/
def isqrt (n : Nat) : Nat := searchTop (fun v => decide (v * v ≤ n)) 64 0

/-- The Lanczos kernel of window a at x = n/32, in Q2.14 and rounded to nearest: sinc(x) sinc(x/a) (06 R139). -/
def lanczosAt (a : Nat) (n : Int) : Int :=
  if n = 0 then 16384
  else
    let num := fxMul (fxSin (n * fxPi / 32)) (fxSin (n * fxPi / (32 * (a : Int)))) * ((a * 16777216 : Nat) : Int)
    let den := fxMul fxPi fxPi * (n * n)
    (2 * num + den) / (2 * den)

/-! ### Convex hulls in sixteenths of a pixel -/

/-- Points in the plane. -/
abbrev Pt := Int × Int

/-- Lexicographic order. -/
def ptLe (a b : Pt) : Bool := decide (a.1 < b.1) || (decide (a.1 = b.1) && decide (a.2 ≤ b.2))
def insertPt (p : Pt) : List Pt → List Pt
  | [] => [p]
  | q :: r => if p = q then q :: r else if ptLe p q then p :: q :: r else q :: insertPt p r
def cross (o a b : Pt) : Int := (a.1 - o.1) * (b.2 - o.2) - (a.2 - o.2) * (b.1 - o.1)

/-- Pushes a point on a half hull held with its last point first. -/
def hullPush : List Pt → Pt → List Pt
  | b :: a :: r, p => if cross a b p ≤ 0 then hullPush (a :: r) p else p :: b :: a :: r
  | st, p => p :: st

/-- The convex hull of points, counter-clockwise; a segment or a point where it degenerates (07 R161). -/
def convexHull (l : List Pt) : List Pt :=
  let s := l.foldr insertPt []
  match s with
  | [] => []
  | [p] => [p]
  | _ => ((s.foldl hullPush []).tail).reverse ++ ((s.reverse.foldl hullPush []).tail).reverse

/-- The edges of a hull. -/
def hullEdges (h : List Pt) : List (Pt × Pt) := h.zip (h.tail ++ h.take 1)

/-- Signed distance of a point from an edge's line, in sixteenths with 20 fractional bits. -/
def lineDist (e : Pt × Pt) (p : Pt) : Int :=
  let ex := e.2.1 - e.1.1
  let ey := e.2.2 - e.1.2
  let len := isqrt ((ex * ex + ey * ey).toNat * 2 ^ 40)
  ((p.1 - e.1.1) * ey - (p.2 - e.1.2) * ex) * 2 ^ 40 / (len : Int)

/-- Euclidean length of a vector in sixteenths with 20 fractional bits. -/
def vecLen (dx dy : Int) : Int := (isqrt ((dx * dx + dy * dy).toNat * 2 ^ 40) : Nat)

/-- Distance of a point from a segment, in sixteenths with 20 fractional bits. -/
def segDist (a b p : Pt) : Int :=
  let ex := b.1 - a.1
  let ey := b.2 - a.2
  let t := (p.1 - a.1) * ex + (p.2 - a.2) * ey
  if t ≤ 0 then vecLen (p.1 - a.1) (p.2 - a.2)
  else if ex * ex + ey * ey ≤ t then vecLen (p.1 - b.1) (p.2 - b.2)
  else
    let d := lineDist (a, b) p
    if d < 0 then -d else d

/-- A hull's distance at a point (07 R161), in sixteenths with 20 fractional bits. -/
def hullDist (h : List Pt) (p : Pt) : Int :=
  match h with
  | [] => 2 ^ 60
  | [a] => vecLen (p.1 - a.1) (p.2 - a.2)
  | [a, b] => segDist a b p
  | _ => (hullEdges h).foldl (fun (m : Int) e => max m (lineDist e p)) (-(2 ^ 60))

/-- The distance e16 of several hulls at a point: the smallest, within 1/32 pixel, in whole sixteenths (07 R161). -/
def e16 (hulls : List (List Pt)) (p : Pt) : Int :=
  let d := hulls.foldl (fun (m : Int) h => min m (hullDist h p)) (2 ^ 60)
  let key := p.1 :: p.2 :: hulls.flatMap (fun h => h.flatMap fun q => [q.1, q.2])
  (d + clampInt (-(2 ^ 19)) (2 ^ 19) (Config.skimDistErr key) + 2 ^ 19) / 2 ^ 20

/-! ### Whether a grown hull reaches the window, and how far it extends (07 R166), without rounding -/

/-- The sign of a + b√p. -/
def sign1 (a b : Int) (p : Nat) : Int :=
  if 0 ≤ a * b then a.sign + b.sign * (if p = 0 then 0 else 1)
  else a.sign * (a * a - b * b * p).sign
/-- The sign of a + b√p + c√q. -/
def sign2 (a b : Int) (p : Nat) (c : Int) (q : Nat) : Int :=
  let x := (sign1 a b p).sign
  let y := sign1 0 c q
  if 0 ≤ x * y then x + y
  else x * (sign1 (a * a + b * b * p - c * c * q) (2 * a * b) p).sign

/-- A vertex of a hull of at least three vertices with the edges before and after it. -/
structure Corner where
  v : Pt
  e1 : Pt
  e2 : Pt
deriving DecidableEq, Repr

/-- The corners of a hull. -/
def hullCorners (h : List Pt) : List Corner :=
  (h.zip ((h.drop (h.length - 1) ++ h).zip (h.tail ++ h.take 1))).map fun p =>
    ⟨p.1, (p.1.1 - p.2.1.1, p.1.2 - p.2.1.2), (p.2.2.1 - p.1.1, p.2.2.2 - p.1.2)⟩

/-- Squared length of a vector. -/
def sqLen (e : Pt) : Nat := (e.1 * e.1 + e.2 * e.2).toNat
/-- The sign of a coordinate, the first or the second, of a corner moved out by `r` on both its edges' lines, less `k`. -/
def Corner.compare (r : Int) (first : Bool) (k : Int) (c : Corner) : Int :=
  let det := c.e1.1 * c.e2.2 - c.e1.2 * c.e2.1
  if first then sign2 ((c.v.1 - k) * det) (-(r * c.e2.1)) (sqLen c.e1) (r * c.e1.1) (sqLen c.e2)
  else sign2 ((c.v.2 - k) * det) (-(r * c.e2.2)) (sqLen c.e1) (r * c.e1.2) (sqLen c.e2)

/-- A point lies at least `r` outside an edge's line. -/
def beyondLine (r : Int) (e : Pt × Pt) (p : Pt) : Bool :=
  decide (0 ≤ sign1 (-(cross e.1 e.2 p)) (-r) (sqLen (e.2.1 - e.1.1, e.2.2 - e.1.2)))

/-- The corners of the window with corners (0, 0) and (w, h). -/
def windowCorners (w h : Int) : List Pt := [(0, 0), (w, 0), (w, h), (0, h)]

/-- A point is less than `r` from a segment. -/
def segCloser (r : Int) (a b p : Pt) : Bool :=
  let e : Pt := (b.1 - a.1, b.2 - a.2)
  let t := (p.1 - a.1) * e.1 + (p.2 - a.2) * e.2
  if t ≤ 0 then decide ((sqLen (p.1 - a.1, p.2 - a.2) : Int) < r * r)
  else if (sqLen e : Int) ≤ t then decide ((sqLen (p.1 - b.1, p.2 - b.2) : Int) < r * r)
  else decide (cross a b p * cross a b p < r * r * sqLen e)

/-- A segment or a point, grown by `r`, overlaps the window, its edge apart. -/
def segReaches (r w h : Int) (a b : Pt) : Bool :=
  let cs := windowCorners w h
  let side := cs.map (cross a b)
  let apart := decide (a.1 ≤ 0 ∧ b.1 ≤ 0) || decide (w ≤ a.1 ∧ w ≤ b.1) || decide (a.2 ≤ 0 ∧ b.2 ≤ 0) || decide (h ≤ a.2 ∧ h ≤ b.2) ||
    (decide (a ≠ b) && ((side.all fun x => decide (x ≤ 0)) || side.all fun x => decide (0 ≤ x)))
  !apart || cs.any (segCloser r a b) ||
    [a, b].any fun p => decide ((sqLen (p.1 - clampInt 0 w p.1, p.2 - clampInt 0 h p.2) : Int) < r * r)

/-- A hull grown by `r` sixteenths overlaps the window, its edge apart (07 R166): no edge of either lies between them. -/
def hullReaches (r w h : Int) (hull : List Pt) : Bool :=
  match hull with
  | [] => false
  | [a] => segReaches r w h a a
  | [a, b] => segReaches r w h a b
  | _ =>
    let cs := hullCorners hull
    !((hullEdges hull).any (fun e => (windowCorners w h).all (beyondLine r e)) ||
      cs.all (fun c => decide (c.compare r true 0 ≤ 0)) || cs.all (fun c => decide (0 ≤ c.compare r true w)) ||
      cs.all (fun c => decide (c.compare r false 0 ≤ 0)) || cs.all (fun c => decide (0 ≤ c.compare r false h)))

/-- The largest whole pixel boundary, in sixteenths, at or below a corner's coordinate; `up`: the smallest at or above it. -/
def Corner.pixel (r : Int) (first up : Bool) (c : Corner) : Int :=
  let det := c.e1.1 * c.e2.2 - c.e1.2 * c.e2.1
  let root := fun (e : Pt) => ((isqrt (sqLen e * 2 ^ 40) : Nat) : Int)
  let shift := if first then root c.e2 * c.e1.1 - root c.e1 * c.e2.1 else root c.e2 * c.e1.2 - root c.e1 * c.e2.2
  let v := if first then c.v.1 else c.v.2
  let k := (v * (det * 2 ^ 20) + r * shift) / (16 * (det * 2 ^ 20))
  let below := ([k + 1, k].find? fun k => decide (0 ≤ c.compare r first (16 * k))).getD (k - 1)
  16 * (if up && decide (c.compare r first (16 * below) ≠ 0) then below + 1 else below)

/-- The extent of a hull grown by `r`, on whole pixel boundaries, in sixteenths: left, top, right, bottom (07 R166). -/
def hullExtent (r : Int) (hull : List Pt) : List (Int × Int × Int × Int) :=
  let dn := fun (x : Int) => x / 16 * 16
  let up := fun (x : Int) => -(-x / 16) * 16
  match hull with
  | [] => []
  | [a] => [(dn (a.1 - r), dn (a.2 - r), up (a.1 + r), up (a.2 + r))]
  | [a, b] => [a, b].map fun p => (dn (p.1 - r), dn (p.2 - r), up (p.1 + r), up (p.2 + r))
  | _ => (hullCorners hull).map fun c => (c.pixel r true false, c.pixel r false false, c.pixel r true true, c.pixel r false true)

end Sys2Proof.Machine
end

