-- ==== Sys2Proof/Machine/Regs.lean ====
section
/-! DEFINITION. The register map: offsets, fields, access codes and reset values of every register table
of the spec (18 R408, R410, R413; access codes 00 R7). -/

namespace Sys2Proof.Machine

open Sys2Proof

/-- Access codes of 00 R7. -/
inductive Access where
  | rw | ro | wo | w1c | w1s | rws
deriving DecidableEq, Repr

/-- One field: bits `hi:lo`, access code, reset value. -/
structure Fld where
  hi : Nat
  lo : Nat
  acc : Access
  reset : Nat
deriving DecidableEq, Repr

/-- One row of the register index: base offset, (count, stride) of each index, fields. -/
structure RegRow where
  base : Nat
  dims : List (Nat × Nat)
  flds : List Fld
deriving DecidableEq, Repr

/-! Offsets, named as the spec names the registers with the index letters taken as arguments. -/

/-- DEV_AUDIT_STAT (01 R27). -/
abbrev Reg.DEV_AUDIT_STAT : Nat := 0x000080
/-- DEV_DEAL_STAT (02 R49). -/
abbrev Reg.DEV_DEAL_STAT : Nat := 0x000100
/-- DEV_DEAL_SEQ (02 R49). -/
abbrev Reg.DEV_DEAL_SEQ : Nat := 0x000104
/-- DEV_DEAL_MISMATCH (02 R49). -/
abbrev Reg.DEV_DEAL_MISMATCH : Nat := 0x000108
/-- DEV_IDENT (03 R56). -/
abbrev Reg.DEV_IDENT : Nat := 0x000000
/-- DEV_STATE (03 R56). -/
abbrev Reg.DEV_STATE : Nat := 0x000004
/-- DEV_RINGn_BASE_LO (03 R62). -/
abbrev Reg.DEV_RING_BASE_LO (n : Nat) : Nat := 0x000200 + n * 0x40
/-- DEV_RINGn_BASE_HI (03 R62). -/
abbrev Reg.DEV_RING_BASE_HI (n : Nat) : Nat := 0x000204 + n * 0x40
/-- DEV_RINGn_CFG (03 R62). -/
abbrev Reg.DEV_RING_CFG (n : Nat) : Nat := 0x000208 + n * 0x40
/-- DEV_RINGn_SQ_TAIL (03 R62). -/
abbrev Reg.DEV_RING_SQ_TAIL (n : Nat) : Nat := 0x00020C + n * 0x40
/-- DEV_RINGn_CQ_HEAD (03 R62). -/
abbrev Reg.DEV_RING_CQ_HEAD (n : Nat) : Nat := 0x000210 + n * 0x40
/-- DEV_RINGn_PTR (03 R62). -/
abbrev Reg.DEV_RING_PTR (n : Nat) : Nat := 0x000214 + n * 0x40
/-- DEV_RINGn_STAT (03 R62). -/
abbrev Reg.DEV_RING_STAT (n : Nat) : Nat := 0x000218 + n * 0x40
/-- TICK_MODE (04 R94). -/
abbrev Reg.TICK_MODE : Nat := 0x010000
/-- TICK_FRAME (04 R94). -/
abbrev Reg.TICK_FRAME : Nat := 0x010004
/-- TICK_POS (04 R94). -/
abbrev Reg.TICK_POS : Nat := 0x010008
/-- TICK_COUNTS (04 R94). -/
abbrev Reg.TICK_COUNTS : Nat := 0x01000C
/-- TICK_LAMP_LO (04 R94). -/
abbrev Reg.TICK_LAMP_LO : Nat := 0x010010
/-- TICK_LAMP_HI (04 R94). -/
abbrev Reg.TICK_LAMP_HI : Nat := 0x010014
/-- TICK_LAST_LO (04 R94). -/
abbrev Reg.TICK_LAST_LO : Nat := 0x010018
/-- TICK_LAST_HI (04 R94). -/
abbrev Reg.TICK_LAST_HI : Nat := 0x01001C
/-- TICK_PERIOD (04 R94). -/
abbrev Reg.TICK_PERIOD : Nat := 0x010020
/-- TICK_SYNC_CFG (04 R94). -/
abbrev Reg.TICK_SYNC_CFG : Nat := 0x010030
/-- TICK_SYNC_IN_OFS (04 R94). -/
abbrev Reg.TICK_SYNC_IN_OFS : Nat := 0x010034
/-- TICK_SYNC_OUT_LEAD (04 R94). -/
abbrev Reg.TICK_SYNC_OUT_LEAD : Nat := 0x010038
/-- TICK_SYNC_STAT (04 R94). -/
abbrev Reg.TICK_SYNC_STAT : Nat := 0x01003C
/-- TICK_TS_LAT (04 R94). -/
abbrev Reg.TICK_TS_LAT : Nat := 0x010040
/-- TICK_RETIME_STAT (04 R94). -/
abbrev Reg.TICK_RETIME_STAT : Nat := 0x010044
/-- CHNn_STAT (05 R126). -/
abbrev Reg.CHN_STAT (n : Nat) : Nat := 0x100000 + n * 0x10000
/-- CHNn_BG (05 R126). -/
abbrev Reg.CHN_BG (n : Nat) : Nat := 0x100004 + n * 0x10000
/-- CHNn_ORDER (05 R126). -/
abbrev Reg.CHN_ORDER (n : Nat) : Nat := 0x100008 + n * 0x10000
/-- CHNn_EVT (05 R126). -/
abbrev Reg.CHN_EVT (n : Nat) : Nat := 0x10000C + n * 0x10000
/-- CHNn_REPEAT_CNT (05 R126). -/
abbrev Reg.CHN_REPEAT_CNT (n : Nat) : Nat := 0x100010 + n * 0x10000
/-- CHNn_REPEAT_LAST (05 R126). -/
abbrev Reg.CHN_REPEAT_LAST (n : Nat) : Nat := 0x100014 + n * 0x10000
/-- CHNn_COMP_END (05 R126). -/
abbrev Reg.CHN_COMP_END (n : Nat) : Nat := 0x100018 + n * 0x10000
/-- CHNn_TRUMP_STAT (05 R126). -/
abbrev Reg.CHN_TRUMP_STAT (n : Nat) : Nat := 0x100020 + n * 0x10000
/-- CHNn_TRUMP_SEQ (05 R126). -/
abbrev Reg.CHN_TRUMP_SEQ (n : Nat) : Nat := 0x100024 + n * 0x10000
/-- CHNn_TRUMP_SUM (05 R126). -/
abbrev Reg.CHN_TRUMP_SUM (n : Nat) : Nat := 0x100028 + n * 0x10000
/-- CHNn_SLOTs_CFG (05 R126). -/
abbrev Reg.CHN_SLOT_CFG (n : Nat) (s : Nat) : Nat := 0x100100 + n * 0x10000 + s * 0x20
/-- CHNn_SLOTs_SURF_LO (05 R126). -/
abbrev Reg.CHN_SLOT_SURF_LO (n : Nat) (s : Nat) : Nat := 0x100104 + n * 0x10000 + s * 0x20
/-- CHNn_SLOTs_SURF_HI (05 R126). -/
abbrev Reg.CHN_SLOT_SURF_HI (n : Nat) (s : Nat) : Nat := 0x100108 + n * 0x10000 + s * 0x20
/-- CHNn_SLOTs_GEN (05 R126). -/
abbrev Reg.CHN_SLOT_GEN (n : Nat) (s : Nat) : Nat := 0x10010C + n * 0x10000 + s * 0x20
/-- CHNn_SLOTs_POS (05 R126). -/
abbrev Reg.CHN_SLOT_POS (n : Nat) (s : Nat) : Nat := 0x100110 + n * 0x10000 + s * 0x20
/-- CHNn_SLOTs_SIZE (05 R126). -/
abbrev Reg.CHN_SLOT_SIZE (n : Nat) (s : Nat) : Nat := 0x100114 + n * 0x10000 + s * 0x20
/-- CHNn_SLOTs_ALPHA (05 R126). -/
abbrev Reg.CHN_SLOT_ALPHA (n : Nat) (s : Nat) : Nat := 0x100118 + n * 0x10000 + s * 0x20
/-- CHNn_SLOTs_PEND (05 R126). -/
abbrev Reg.CHN_SLOT_PEND (n : Nat) (s : Nat) : Nat := 0x10011C + n * 0x10000 + s * 0x20
/-- SCLn_CFG (06 R145). -/
abbrev Reg.SCL_CFG (n : Nat) : Nat := 0x300000 + n * 0x1000
/-- SCLn_CFG_ACTIVE (06 R145). -/
abbrev Reg.SCL_CFG_ACTIVE (n : Nat) : Nat := 0x300004 + n * 0x1000
/-- SCLn_STAT (06 R145). -/
abbrev Reg.SCL_STAT (n : Nat) : Nat := 0x300008 + n * 0x1000
/-- SCLn_TABLE_CTL (06 R145). -/
abbrev Reg.SCL_TABLE_CTL (n : Nat) : Nat := 0x30000C + n * 0x1000
/-- SCLn_USERS (06 R145). -/
abbrev Reg.SCL_USERS (n : Nat) : Nat := 0x300010 + n * 0x1000
/-- SCLn_COEFw (06 R145). -/
abbrev Reg.SCL_COEF (n : Nat) (w : Nat) : Nat := 0x300400 + n * 0x1000 + w * 0x4
/-- SCLn_LINw (06 R145). -/
abbrev Reg.SCL_LIN (n : Nat) (w : Nat) : Nat := 0x300800 + n * 0x1000 + w * 0x4
/-- SKM_CTL (07 R172). -/
abbrev Reg.SKM_CTL : Nat := 0x0C0000
/-- SKM_PRED (07 R172). -/
abbrev Reg.SKM_PRED : Nat := 0x0C0004
/-- SKM_BLIND_ATTEN (07 R172). -/
abbrev Reg.SKM_BLIND_ATTEN : Nat := 0x0C0008
/-- SKM_LIST_STAT (07 R172). -/
abbrev Reg.SKM_LIST_STAT : Nat := 0x0C000C
/-- SKM_EVT (07 R172). -/
abbrev Reg.SKM_EVT : Nat := 0x0C0010
/-- SKM_COUNTS (07 R172). -/
abbrev Reg.SKM_COUNTS : Nat := 0x0C0014
/-- SKM_SETUP (07 R172). -/
abbrev Reg.SKM_SETUP : Nat := 0x0C0018
/-- SKM_ZONE_STAT (07 R172). -/
abbrev Reg.SKM_ZONE_STAT : Nat := 0x0C001C
/-- SKM_LAT_TOL (07 R172). -/
abbrev Reg.SKM_LAT_TOL : Nat := 0x0C0020
/-- SKM_TILEn_Hj (07 R172). -/
abbrev Reg.SKM_TILE_H (n : Nat) (j : Nat) : Nat := 0x0C1000 + n * 0x40 + j * 0x4
/-- SKM_TILEn_CX (07 R172). -/
abbrev Reg.SKM_TILE_CX (n : Nat) : Nat := 0x0C1024 + n * 0x40
/-- SKM_TILEn_CY (07 R172). -/
abbrev Reg.SKM_TILE_CY (n : Nat) : Nat := 0x0C1028 + n * 0x40
/-- SKM_TILEn_Kj (07 R172). -/
abbrev Reg.SKM_TILE_K (n : Nat) (j : Nat) : Nat := 0x0C102C + n * 0x40 + j * 0x4
/-- SKM_TILEn_EMIT_LAT (07 R172). -/
abbrev Reg.SKM_TILE_EMIT_LAT (n : Nat) : Nat := 0x0C1038 + n * 0x40
/-- SKM_TILEn_BLIND (07 R172). -/
abbrev Reg.SKM_TILE_BLIND (n : Nat) : Nat := 0x0C103C + n * 0x40
/-- SKM_TILEn_STAT (07 R172). -/
abbrev Reg.SKM_TILE_STAT (n : Nat) : Nat := 0x0C2000 + n * 0x10
/-- CHNn_PHOT_CFG (08 R191). -/
abbrev Reg.CHN_PHOT_CFG (n : Nat) : Nat := 0x100040 + n * 0x10000
/-- CHNn_POT_CTL (08 R191). -/
abbrev Reg.CHN_POT_CTL (n : Nat) : Nat := 0x100044 + n * 0x10000
/-- CHNn_NB_GAIN (08 R191). -/
abbrev Reg.CHN_NB_GAIN (n : Nat) : Nat := 0x100048 + n * 0x10000
/-- CHNn_POT_STAT (08 R191). -/
abbrev Reg.CHN_POT_STAT (n : Nat) : Nat := 0x10004C + n * 0x10000
/-- CHNn_POT_LASTw (08 R191). -/
abbrev Reg.CHN_POT_LAST (n : Nat) (w : Nat) : Nat := 0x100050 + n * 0x10000 + w * 0x4
/-- CHNn_POT_LEDGERw (08 R191). -/
abbrev Reg.CHN_POT_LEDGER (n : Nat) (w : Nat) : Nat := 0x100060 + n * 0x10000 + w * 0x4
/-- CHNn_PROBE_LEDGERw (08 R191). -/
abbrev Reg.CHN_PROBE_LEDGER (n : Nat) (w : Nat) : Nat := 0x100080 + n * 0x10000 + w * 0x4
/-- CHNn_PROBE_SCHED (08 R191). -/
abbrev Reg.CHN_PROBE_SCHED (n : Nat) : Nat := 0x100090 + n * 0x10000
/-- CHNn_PROBE_STAT (08 R191). -/
abbrev Reg.CHN_PROBE_STAT (n : Nat) : Nat := 0x100094 + n * 0x10000
/-- CHNn_CAL_STAT (08 R191). -/
abbrev Reg.CHN_CAL_STAT (n : Nat) : Nat := 0x100098 + n * 0x10000
/-- CHNn_CAL_ADDR_LO (08 R191). -/
abbrev Reg.CHN_CAL_ADDR_LO (n : Nat) : Nat := 0x10009C + n * 0x10000
/-- CHNn_CAL_ADDR_HI (08 R191). -/
abbrev Reg.CHN_CAL_ADDR_HI (n : Nat) : Nat := 0x1000A0 + n * 0x10000
/-- CHNn_TCb_w (08 R191). -/
abbrev Reg.CHN_TC (n : Nat) (b : Nat) (w : Nat) : Nat := 0x100400 + n * 0x10000 + b * 0x400 + w * 0x4
/-- DEV_POT_CHIP_CAP (08 R192). -/
abbrev Reg.DEV_POT_CHIP_CAP : Nat := 0x000180
/-- DEV_POT_CHIP_STAT (08 R192). -/
abbrev Reg.DEV_POT_CHIP_STAT : Nat := 0x000184
/-- DEV_POT_CHIP_DEBT (08 R192). -/
abbrev Reg.DEV_POT_CHIP_DEBT : Nat := 0x000188
/-- DEV_POT_LEDGERw (08 R192). -/
abbrev Reg.DEV_POT_LEDGER (w : Nat) : Nat := 0x000190 + w * 0x4
/-- TLn_CFG (09 R232). -/
abbrev Reg.TL_CFG (n : Nat) : Nat := 0x200000 + n * 0x10000
/-- TLn_STAT (09 R232). -/
abbrev Reg.TL_STAT (n : Nat) : Nat := 0x200004 + n * 0x10000
/-- TLn_LANE_STAT (09 R232). -/
abbrev Reg.TL_LANE_STAT (n : Nat) : Nat := 0x200008 + n * 0x10000
/-- TLn_LANE_PWR (09 R232). -/
abbrev Reg.TL_LANE_PWR (n : Nat) : Nat := 0x20000C + n * 0x10000
/-- TLn_CREDIT (09 R232). -/
abbrev Reg.TL_CREDIT (n : Nat) : Nat := 0x200010 + n * 0x10000
/-- TLn_CREDIT2 (09 R232). -/
abbrev Reg.TL_CREDIT2 (n : Nat) : Nat := 0x200014 + n * 0x10000
/-- TLn_SEQ (09 R232). -/
abbrev Reg.TL_SEQ (n : Nat) : Nat := 0x200018 + n * 0x10000
/-- TLn_LAST_FRAME (09 R232). -/
abbrev Reg.TL_LAST_FRAME (n : Nat) : Nat := 0x20001C + n * 0x10000
/-- TLn_CRC (09 R232). -/
abbrev Reg.TL_CRC (n : Nat) : Nat := 0x200020 + n * 0x10000
/-- TLn_RET_ERR (09 R232). -/
abbrev Reg.TL_RET_ERR (n : Nat) : Nat := 0x200024 + n * 0x10000
/-- TLn_REPEAT_CNT (09 R232). -/
abbrev Reg.TL_REPEAT_CNT (n : Nat) : Nat := 0x200028 + n * 0x10000
/-- TLn_EVT (09 R232). -/
abbrev Reg.TL_EVT (n : Nat) : Nat := 0x20002C + n * 0x10000
/-- TLn_IDENT (09 R232). -/
abbrev Reg.TL_IDENT (n : Nat) : Nat := 0x200030 + n * 0x10000
/-- TLn_IDENT_SERIAL (09 R232). -/
abbrev Reg.TL_IDENT_SERIAL (n : Nat) : Nat := 0x200034 + n * 0x10000
/-- TLn_IDENT_ARRAY (09 R232). -/
abbrev Reg.TL_IDENT_ARRAY (n : Nat) : Nat := 0x200038 + n * 0x10000
/-- TLn_SETPOINT (09 R232). -/
abbrev Reg.TL_SETPOINT (n : Nat) : Nat := 0x20003C + n * 0x10000
/-- TLn_DIAG_CFG (10 R252). -/
abbrev Reg.TL_DIAG_CFG (n : Nat) : Nat := 0x200100 + n * 0x10000
/-- TLn_DIAG_THR (10 R252). -/
abbrev Reg.TL_DIAG_THR (n : Nat) : Nat := 0x200104 + n * 0x10000
/-- TLn_DIAG_FMAP (10 R252). -/
abbrev Reg.TL_DIAG_FMAP (n : Nat) : Nat := 0x200108 + n * 0x10000
/-- TLn_DIAG_CTL (10 R252). -/
abbrev Reg.TL_DIAG_CTL (n : Nat) : Nat := 0x20010C + n * 0x10000
/-- TLn_DIAG_STAT (10 R252). -/
abbrev Reg.TL_DIAG_STAT (n : Nat) : Nat := 0x200110 + n * 0x10000
/-- TLn_DIAG_EVT (10 R252). -/
abbrev Reg.TL_DIAG_EVT (n : Nat) : Nat := 0x200114 + n * 0x10000
/-- TLn_DIAG_DEFER (10 R252). -/
abbrev Reg.TL_DIAG_DEFER (n : Nat) : Nat := 0x200118 + n * 0x10000
/-- TLn_DIAG_LATE (10 R252). -/
abbrev Reg.TL_DIAG_LATE (n : Nat) : Nat := 0x20011C + n * 0x10000
/-- TLn_DIAG_CNTc (10 R252). -/
abbrev Reg.TL_DIAG_CNT (n : Nat) (c : Nat) : Nat := 0x200120 + n * 0x10000 + c * 0x4
/-- CTL_STAT (11 R278). -/
abbrev Reg.CTL_STAT : Nat := 0x060000
/-- CTL_EVT (11 R278). -/
abbrev Reg.CTL_EVT : Nat := 0x060004
/-- CTL_MISSED (11 R278). -/
abbrev Reg.CTL_MISSED : Nat := 0x060008
/-- CTL_TRCc_CFG (11 R278). -/
abbrev Reg.CTL_TRC_CFG (c : Nat) : Nat := 0x060040 + c * 0x20
/-- CTL_TRCc_POST (11 R278). -/
abbrev Reg.CTL_TRC_POST (c : Nat) : Nat := 0x060044 + c * 0x20
/-- CTL_TRCc_CTL (11 R278). -/
abbrev Reg.CTL_TRC_CTL (c : Nat) : Nat := 0x060048 + c * 0x20
/-- CTL_TRCc_STAT (11 R278). -/
abbrev Reg.CTL_TRC_STAT (c : Nat) : Nat := 0x06004C + c * 0x20
/-- CTL_TRCc_TRIG_FRAME (11 R278). -/
abbrev Reg.CTL_TRC_TRIG_FRAME (c : Nat) : Nat := 0x060050 + c * 0x20
/-- CTL_LOOPn_CFG (11 R278). -/
abbrev Reg.CTL_LOOP_CFG (n : Nat) : Nat := 0x060100 + n * 0x40
/-- CTL_LOOPn_STAT (11 R278). -/
abbrev Reg.CTL_LOOP_STAT (n : Nat) : Nat := 0x060104 + n * 0x40
/-- CTL_LOOPn_EVT (11 R278). -/
abbrev Reg.CTL_LOOP_EVT (n : Nat) : Nat := 0x060108 + n * 0x40
/-- CTL_LOOPn_TARGET (11 R278). -/
abbrev Reg.CTL_LOOP_TARGET (n : Nat) : Nat := 0x06010C + n * 0x40
/-- CTL_LOOPn_MANk (11 R278). -/
abbrev Reg.CTL_LOOP_MAN (n : Nat) (k : Nat) : Nat := 0x060110 + n * 0x40 + k * 0x4
/-- CTL_LOOPn_OUTk (11 R278). -/
abbrev Reg.CTL_LOOP_OUT (n : Nat) (k : Nat) : Nat := 0x060120 + n * 0x40 + k * 0x4
/-- CTL_LOOPn_SETPT (11 R278). -/
abbrev Reg.CTL_LOOP_SETPT (n : Nat) : Nat := 0x060130 + n * 0x40
/-- CTL_LOOPn_RESCNT (11 R278). -/
abbrev Reg.CTL_LOOP_RESCNT (n : Nat) : Nat := 0x060134 + n * 0x40
/-- CTL_LOOPn_ZSEL (11 R278). -/
abbrev Reg.CTL_LOOP_ZSEL (n : Nat) : Nat := 0x060138 + n * 0x40
/-- CTL_LOOPn_Z (11 R278). -/
abbrev Reg.CTL_LOOP_Z (n : Nat) : Nat := 0x06013C + n * 0x40
/-- HK_STAT (12 R297). -/
abbrev Reg.HK_STAT : Nat := 0x070000
/-- HK_CAL_TOL (12 R297). -/
abbrev Reg.HK_CAL_TOL : Nat := 0x070004
/-- HK_CAL_CTL (12 R297). -/
abbrev Reg.HK_CAL_CTL : Nat := 0x070008
/-- HK_CAL_RES (12 R297). -/
abbrev Reg.HK_CAL_RES : Nat := 0x07000C
/-- HK_CALSAVE_LO (12 R297). -/
abbrev Reg.HK_CALSAVE_LO : Nat := 0x070010
/-- HK_CALSAVE_HI (12 R297). -/
abbrev Reg.HK_CALSAVE_HI : Nat := 0x070014
/-- HK_CALi_STAT (12 R297). -/
abbrev Reg.HK_CAL_STAT (i : Nat) : Nat := 0x070020 + i * 0x8
/-- HK_CALi_LAST (12 R297). -/
abbrev Reg.HK_CAL_LAST (i : Nat) : Nat := 0x070024 + i * 0x8
/-- HK_THERM_STAT (12 R297). -/
abbrev Reg.HK_THERM_STAT : Nat := 0x070060
/-- HK_THERM_RATE (12 R297). -/
abbrev Reg.HK_THERM_RATE : Nat := 0x070064
/-- HK_THERM_CFG (12 R297). -/
abbrev Reg.HK_THERM_CFG : Nat := 0x070068
/-- HK_THERM_EVT (12 R297). -/
abbrev Reg.HK_THERM_EVT : Nat := 0x07006C
/-- HK_THERM_CNT (12 R297). -/
abbrev Reg.HK_THERM_CNT : Nat := 0x070070
/-- HK_TEMPk (12 R297). -/
abbrev Reg.HK_TEMP (k : Nat) : Nat := 0x070080 + k * 0x4
/-- HK_TRIMw (12 R297). -/
abbrev Reg.HK_TRIM (w : Nat) : Nat := 0x070200 + w * 0x4
/-- HK_CHc (12 R297). -/
abbrev Reg.HK_CH (c : Nat) : Nat := 0x070400 + c * 0x4
/-- ACC_STAT (13 R314). -/
abbrev Reg.ACC_STAT : Nat := 0x080000
/-- ACC_CFG (13 R314). -/
abbrev Reg.ACC_CFG : Nat := 0x080004
/-- ACC_EVT (13 R314). -/
abbrev Reg.ACC_EVT : Nat := 0x080008
/-- ACC_GROUPg (13 R314). -/
abbrev Reg.ACC_GROUP (g : Nat) : Nat := 0x080010 + g * 0x4
/-- ACC_PWR (13 R314). -/
abbrev Reg.ACC_PWR : Nat := 0x080020
/-- ACC_MCTL (13 R314). -/
abbrev Reg.ACC_MCTL : Nat := 0x080024
/-- ACC_CHc_CFG (13 R314). -/
abbrev Reg.ACC_CH_CFG (c : Nat) : Nat := 0x080100 + c * 0x10
/-- ACC_CHc_FADE (13 R314). -/
abbrev Reg.ACC_CH_FADE (c : Nat) : Nat := 0x080104 + c * 0x10
/-- ACC_CHc_STAT (13 R314). -/
abbrev Reg.ACC_CH_STAT (c : Nat) : Nat := 0x080108 + c * 0x10
/-- ACC_CHc_CTL (13 R314). -/
abbrev Reg.ACC_CH_CTL (c : Nat) : Nat := 0x08010C + c * 0x10
/-- ACC_BINl_w (13 R314). -/
abbrev Reg.ACC_BIN (l : Nat) (w : Nat) : Nat := 0x080400 + l * 0x20 + w * 0x4
/-- ACC_MFRAMEw (13 R314). -/
abbrev Reg.ACC_MFRAME (w : Nat) : Nat := 0x080600 + w * 0x4
/-- ACC_FADEt_w (13 R314). -/
abbrev Reg.ACC_FADETAB (t : Nat) (w : Nat) : Nat := 0x081000 + t * 0x800 + w * 0x4
/-- FLT_STAT (14 R340). -/
abbrev Reg.FLT_STAT : Nat := 0x050000
/-- FLT_CFG (14 R340). -/
abbrev Reg.FLT_CFG : Nat := 0x050004
/-- FLT_FIRST (14 R340). -/
abbrev Reg.FLT_FIRST : Nat := 0x050008
/-- FLT_FIRST_TIME_LO (14 R340). -/
abbrev Reg.FLT_FIRST_TIME_LO : Nat := 0x05000C
/-- FLT_FIRST_TIME_HI (14 R340). -/
abbrev Reg.FLT_FIRST_TIME_HI : Nat := 0x050010
/-- FLT_TIMER (14 R340). -/
abbrev Reg.FLT_TIMER : Nat := 0x050014
/-- FLT_COUNTS (14 R340). -/
abbrev Reg.FLT_COUNTS : Nat := 0x050018
/-- FLT_INJECT (14 R340). -/
abbrev Reg.FLT_INJECT : Nat := 0x05001C
/-- FLT_PENDw (14 R340). -/
abbrev Reg.FLT_PEND (w : Nat) : Nat := 0x050020 + w * 0x4
/-- FLT_BROKENw (14 R340). -/
abbrev Reg.FLT_BROKEN (w : Nat) : Nat := 0x050030 + w * 0x4
/-- PTN_STAT (14 R341). -/
abbrev Reg.PTN_STAT : Nat := 0x0B0000
/-- PTN_EVT (14 R341). -/
abbrev Reg.PTN_EVT : Nat := 0x0B0004
/-- PTN_DELAY (14 R341). -/
abbrev Reg.PTN_DELAY : Nat := 0x0B0008
/-- PTN_DIVERGE (14 R341). -/
abbrev Reg.PTN_DIVERGE : Nat := 0x0B000C
/-- PTN_COUNTS (14 R341). -/
abbrev Reg.PTN_COUNTS : Nat := 0x0B0010
/-- PTN_PAIR_LO (14 R341). -/
abbrev Reg.PTN_PAIR_LO : Nat := 0x0B0014
/-- PTN_PAIR_HI (14 R341). -/
abbrev Reg.PTN_PAIR_HI : Nat := 0x0B0018
/-- INTC_STAT (15 R358). -/
abbrev Reg.INTC_STAT : Nat := 0x040000
/-- INTC_COUNTS (15 R358). -/
abbrev Reg.INTC_COUNTS : Nat := 0x040004
/-- INTC_HOLDOFFg (15 R358). -/
abbrev Reg.INTC_HOLDOFF (g : Nat) : Nat := 0x040010 + g * 0x4
/-- INTC_HANDh_CFG (15 R358). -/
abbrev Reg.INTC_HAND_CFG (h : Nat) : Nat := 0x040040 + h * 0x10
/-- INTC_HANDh_CLAIM (15 R358). -/
abbrev Reg.INTC_HAND_CLAIM (h : Nat) : Nat := 0x040044 + h * 0x10
/-- INTC_HANDh_RUN (15 R358). -/
abbrev Reg.INTC_HAND_RUN (h : Nat) : Nat := 0x040048 + h * 0x10
/-- INTC_HANDh_PENDw (15 R358). -/
abbrev Reg.INTC_HAND_PEND (h : Nat) (w : Nat) : Nat := 0x040100 + h * 0x40 + w * 0x4
/-- INTC_SRCs_CFG (15 R358). -/
abbrev Reg.INTC_SRC_CFG (s : Nat) : Nat := 0x041000 + s * 0x8
/-- INTC_SRCs_COAL (15 R358). -/
abbrev Reg.INTC_SRC_COAL (s : Nat) : Nat := 0x041004 + s * 0x8
/-- EVQq_BASE_LO (15 R359). -/
abbrev Reg.EVQ_BASE_LO (q : Nat) : Nat := 0x042000 + q * 0x40
/-- EVQq_BASE_HI (15 R359). -/
abbrev Reg.EVQ_BASE_HI (q : Nat) : Nat := 0x042004 + q * 0x40
/-- EVQq_CFG (15 R359). -/
abbrev Reg.EVQ_CFG (q : Nat) : Nat := 0x042008 + q * 0x40
/-- EVQq_PROD (15 R359). -/
abbrev Reg.EVQ_PROD (q : Nat) : Nat := 0x04200C + q * 0x40
/-- EVQq_CONS (15 R359). -/
abbrev Reg.EVQ_CONS (q : Nat) : Nat := 0x042010 + q * 0x40
/-- EVQq_CTL (15 R359). -/
abbrev Reg.EVQ_CTL (q : Nat) : Nat := 0x042014 + q * 0x40
/-- EVQq_STAT (15 R359). -/
abbrev Reg.EVQ_STAT (q : Nat) : Nat := 0x042018 + q * 0x40
/-- EVQq_FREE (15 R359). -/
abbrev Reg.EVQ_FREE (q : Nat) : Nat := 0x04201C + q * 0x40
/-- FEED_CFG (16 R383). -/
abbrev Reg.FEED_CFG : Nat := 0x020000
/-- FEED_STAT (16 R383). -/
abbrev Reg.FEED_STAT : Nat := 0x020004
/-- FEED_EVT (16 R383). -/
abbrev Reg.FEED_EVT : Nat := 0x020008
/-- FEED_CNT (16 R383). -/
abbrev Reg.FEED_CNT : Nat := 0x02000C
/-- FEED_ERR (16 R383). -/
abbrev Reg.FEED_ERR : Nat := 0x020010
/-- FEED_DROP (16 R383). -/
abbrev Reg.FEED_DROP : Nat := 0x020014
/-- FEED_DROP2 (16 R383). -/
abbrev Reg.FEED_DROP2 : Nat := 0x020018
/-- MEMC_STAT (16 R384). -/
abbrev Reg.MEMC_STAT : Nat := 0x030000
/-- MEMC_SR_CFG (16 R384). -/
abbrev Reg.MEMC_SR_CFG : Nat := 0x030004
/-- MEMC_SR_STAT (16 R384). -/
abbrev Reg.MEMC_SR_STAT : Nat := 0x030008
/-- MEMC_SR_TIME (16 R384). -/
abbrev Reg.MEMC_SR_TIME : Nat := 0x03000C
/-- MEMC_BAR2_BASE (16 R384). -/
abbrev Reg.MEMC_BAR2_BASE : Nat := 0x030010
/-- MEMC_ECC_CNT (16 R384). -/
abbrev Reg.MEMC_ECC_CNT : Nat := 0x030014
/-- MEMC_ECC_LAST (16 R384). -/
abbrev Reg.MEMC_ECC_LAST : Nat := 0x030018
/-- MEMC_ECC_REQ (16 R384). -/
abbrev Reg.MEMC_ECC_REQ : Nat := 0x03001C
/-- MEMC_FW_STAT (16 R384). -/
abbrev Reg.MEMC_FW_STAT : Nat := 0x030020
/-- MEMC_FW_ADDR (16 R384). -/
abbrev Reg.MEMC_FW_ADDR : Nat := 0x030024
/-- MEMC_SCRUB (16 R384). -/
abbrev Reg.MEMC_SCRUB : Nat := 0x030028
/-- MEMC_HOST_STAT (16 R384). -/
abbrev Reg.MEMC_HOST_STAT : Nat := 0x030030
/-- PWR_DOMAIN_STAT (17 R405). -/
abbrev Reg.PWR_DOMAIN_STAT : Nat := 0x0A0000
/-- PWR_RESET (17 R405). -/
abbrev Reg.PWR_RESET : Nat := 0x0A0004
/-- PWR_RESET_CAUSE (17 R405). -/
abbrev Reg.PWR_RESET_CAUSE : Nat := 0x0A0008
/-- PWR_PASTE_STAT (17 R405). -/
abbrev Reg.PWR_PASTE_STAT : Nat := 0x0A000C
/-- PWR_LIFECYCLE (17 R405). -/
abbrev Reg.PWR_LIFECYCLE : Nat := 0x0A0010
/-- PWR_FW (17 R405). -/
abbrev Reg.PWR_FW : Nat := 0x0A0018
/-- PWR_FW_VER (17 R405). -/
abbrev Reg.PWR_FW_VER : Nat := 0x0A001C
/-- PWR_FW_ALIVE (17 R405). -/
abbrev Reg.PWR_FW_ALIVE : Nat := 0x0A0020
/-- PWR_FW_ABSENT (17 R405). -/
abbrev Reg.PWR_FW_ABSENT : Nat := 0x0A0024
/-- PWR_WDOG_CFG (17 R405). -/
abbrev Reg.PWR_WDOG_CFG : Nat := 0x0A0028
/-- PWR_WDOG_KICK (17 R405). -/
abbrev Reg.PWR_WDOG_KICK : Nat := 0x0A002C
/-- PWR_DUMP_STAT (17 R405). -/
abbrev Reg.PWR_DUMP_STAT : Nat := 0x0A0030
/-- PWR_DUMP_CFG (17 R405). -/
abbrev Reg.PWR_DUMP_CFG : Nat := 0x0A0034
/-- PWR_CLK_STAT (17 R405). -/
abbrev Reg.PWR_CLK_STAT : Nat := 0x0A0038
/-- CRCu_STAT (17 R406). -/
abbrev Reg.CRC_STAT (u : Nat) : Nat := 0x090000 + u * 0x20
/-- CRCu_RESULT (17 R406). -/
abbrev Reg.CRC_RESULT (u : Nat) : Nat := 0x090004 + u * 0x20
/-- CRCu_DONE (17 R406). -/
abbrev Reg.CRC_DONE (u : Nat) : Nat := 0x090008 + u * 0x20

/-- Register rows of block 00, part 1. -/
def regRows00p1 : List RegRow := [
  -- DEV_AUDIT_STAT
  ⟨0x000080, [], [⟨0, 0, .w1c, 0x0⟩, ⟨1, 1, .w1c, 0x0⟩, ⟨2, 2, .w1c, 0x0⟩, ⟨3, 3, .w1c, 0x0⟩, ⟨4, 4, .w1c, 0x0⟩, ⟨8, 8, .ro, 0x0⟩, ⟨31, 16, .ro, 0x0⟩]⟩,
  -- DEV_DEAL_STAT
  ⟨0x000100, [], [⟨0, 0, .ro, 0x0⟩, ⟨1, 1, .ro, 0x0⟩, ⟨3, 2, .ro, 0x0⟩, ⟨5, 4, .ro, 0x0⟩, ⟨9, 8, .ro, 0x0⟩, ⟨15, 12, .ro, 0x0⟩, ⟨22, 16, .ro, 0x0⟩]⟩,
  -- DEV_DEAL_SEQ
  ⟨0x000104, [], [⟨31, 0, .ro, 0x0⟩]⟩,
  -- DEV_DEAL_MISMATCH
  ⟨0x000108, [], [⟨15, 0, .w1c, 0x0⟩, ⟨31, 16, .w1c, 0x0⟩]⟩,
  -- DEV_IDENT
  ⟨0x000000, [], [⟨31, 0, .ro, 0x51543216⟩]⟩,
  -- DEV_STATE
  ⟨0x000004, [], [⟨3, 0, .ro, 0x1⟩, ⟨7, 4, .ro, 0x0⟩, ⟨15, 8, .ro, 0x0⟩, ⟨16, 16, .ro, 0x0⟩]⟩,
  -- DEV_RINGn_BASE_LO
  ⟨0x000200, [(4, 0x40)], [⟨31, 12, .rw, 0x0⟩]⟩,
  -- DEV_RINGn_BASE_HI
  ⟨0x000204, [(4, 0x40)], [⟨31, 0, .rw, 0x0⟩]⟩,
  -- DEV_RINGn_CFG
  ⟨0x000208, [(4, 0x40)], [⟨3, 0, .rw, 0x4⟩, ⟨8, 8, .rw, 0x0⟩, ⟨9, 9, .rw, 0x0⟩, ⟨16, 16, .wo, 0x0⟩]⟩,
  -- DEV_RINGn_SQ_TAIL
  ⟨0x00020C, [(4, 0x40)], [⟨15, 0, .rw, 0x0⟩]⟩,
  -- DEV_RINGn_CQ_HEAD
  ⟨0x000210, [(4, 0x40)], [⟨15, 0, .rw, 0x0⟩]⟩,
  -- DEV_RINGn_PTR
  ⟨0x000214, [(4, 0x40)], [⟨15, 0, .ro, 0x0⟩, ⟨31, 16, .ro, 0x0⟩]⟩]

/-- Register rows of block 00, part 2. -/
def regRows00p2 : List RegRow := [
  -- DEV_RINGn_STAT
  ⟨0x000218, [(4, 0x40)], [⟨0, 0, .w1c, 0x0⟩, ⟨1, 1, .w1c, 0x0⟩, ⟨2, 2, .w1c, 0x0⟩, ⟨3, 3, .w1c, 0x0⟩, ⟨4, 4, .ro, 0x0⟩, ⟨15, 8, .ro, 0x0⟩, ⟨23, 16, .ro, 0x0⟩]⟩,
  -- DEV_POT_CHIP_CAP
  ⟨0x000180, [], [⟨23, 0, .rws, 0xFFFFFF⟩]⟩,
  -- DEV_POT_CHIP_STAT
  ⟨0x000184, [], [⟨16, 0, .ro, 0x10000⟩, ⟨24, 24, .w1c, 0x0⟩, ⟨25, 25, .ro, 0x0⟩]⟩,
  -- DEV_POT_CHIP_DEBT
  ⟨0x000188, [], [⟨31, 0, .ro, 0x0⟩]⟩,
  -- DEV_POT_LEDGERw
  ⟨0x000190, [(8, 0x4)], [⟨31, 0, .ro, 0x0⟩]⟩]

/-- Register rows of block 00. -/
def regRows00 : List RegRow :=
  regRows00p1 ++ regRows00p2

/-- Register rows of block 01, part 1. -/
def regRows01p1 : List RegRow := [
  -- TICK_MODE
  ⟨0x010000, [], [⟨2, 0, .ro, 0x2⟩, ⟨3, 3, .ro, 0x0⟩, ⟨4, 4, .ro, 0x0⟩, ⟨8, 8, .ro, 0x0⟩, ⟨11, 9, .ro, 0x0⟩, ⟨12, 12, .ro, 0x0⟩, ⟨17, 16, .ro, 0x0⟩]⟩,
  -- TICK_FRAME
  ⟨0x010004, [], [⟨31, 0, .ro, 0x0⟩]⟩,
  -- TICK_POS
  ⟨0x010008, [], [⟨2, 0, .ro, 0x0⟩, ⟨3, 3, .ro, 0x0⟩]⟩,
  -- TICK_COUNTS
  ⟨0x01000C, [], [⟨15, 0, .ro, 0x0⟩, ⟨31, 16, .ro, 0x0⟩]⟩,
  -- TICK_LAMP_LO
  ⟨0x010010, [], [⟨31, 0, .ro, 0x0⟩]⟩,
  -- TICK_LAMP_HI
  ⟨0x010014, [], [⟨31, 0, .ro, 0x0⟩]⟩,
  -- TICK_LAST_LO
  ⟨0x010018, [], [⟨31, 0, .ro, 0x0⟩]⟩,
  -- TICK_LAST_HI
  ⟨0x01001C, [], [⟨31, 0, .ro, 0x0⟩]⟩,
  -- TICK_PERIOD
  ⟨0x010020, [], [⟨23, 0, .ro, 0x65B9A⟩]⟩,
  -- TICK_SYNC_CFG
  ⟨0x010030, [], [⟨1, 0, .rws, 0x0⟩, ⟨2, 2, .rws, 0x0⟩, ⟨8, 8, .rws, 0x0⟩, ⟨10, 9, .rws, 0x0⟩, ⟨23, 16, .rws, 0xA⟩]⟩,
  -- TICK_SYNC_IN_OFS
  ⟨0x010034, [], [⟨31, 0, .rws, 0x0⟩]⟩,
  -- TICK_SYNC_OUT_LEAD
  ⟨0x010038, [], [⟨16, 0, .rws, 0x0⟩]⟩]

/-- Register rows of block 01, part 2. -/
def regRows01p2 : List RegRow := [
  -- TICK_SYNC_STAT
  ⟨0x01003C, [], [⟨1, 0, .ro, 0x0⟩, ⟨2, 2, .w1c, 0x0⟩, ⟨31, 16, .ro, 0x0⟩]⟩,
  -- TICK_TS_LAT
  ⟨0x010040, [], [⟨7, 0, .rw, 0x34⟩, ⟨15, 8, .rw, 0x1F⟩, ⟨31, 16, .ro, 0x0⟩]⟩,
  -- TICK_RETIME_STAT
  ⟨0x010044, [], [⟨1, 0, .ro, 0x0⟩, ⟨31, 16, .ro, 0x0⟩]⟩]

/-- Register rows of block 01. -/
def regRows01 : List RegRow :=
  regRows01p1 ++ regRows01p2

/-- Register rows of block 02, part 1. -/
def regRows02p1 : List RegRow := [
  -- FEED_CFG
  ⟨0x020000, [], [⟨3, 0, .rw, 0xF⟩, ⟨8, 8, .rw, 0x1⟩, ⟨9, 9, .rw, 0x1⟩]⟩,
  -- FEED_STAT
  ⟨0x020004, [], [⟨1, 0, .ro, 0x1⟩, ⟨7, 4, .ro, 0x0⟩, ⟨11, 8, .ro, 0x0⟩, ⟨22, 16, .ro, 0x0⟩]⟩,
  -- FEED_EVT
  ⟨0x020008, [], [⟨0, 0, .w1c, 0x0⟩, ⟨1, 1, .w1c, 0x0⟩, ⟨2, 2, .w1c, 0x0⟩, ⟨3, 3, .w1c, 0x0⟩, ⟨4, 4, .w1c, 0x0⟩, ⟨5, 5, .w1c, 0x0⟩, ⟨6, 6, .w1c, 0x0⟩]⟩,
  -- FEED_CNT
  ⟨0x02000C, [], [⟨31, 0, .ro, 0x0⟩]⟩,
  -- FEED_ERR
  ⟨0x020010, [], [⟨15, 0, .ro, 0x0⟩, ⟨31, 16, .ro, 0x0⟩]⟩,
  -- FEED_DROP
  ⟨0x020014, [], [⟨15, 0, .ro, 0x0⟩, ⟨31, 16, .ro, 0x0⟩]⟩,
  -- FEED_DROP2
  ⟨0x020018, [], [⟨15, 0, .ro, 0x0⟩, ⟨31, 16, .ro, 0x0⟩]⟩]

/-- Register rows of block 02. -/
def regRows02 : List RegRow :=
  regRows02p1

/-- Register rows of block 03, part 1. -/
def regRows03p1 : List RegRow := [
  -- MEMC_STAT
  ⟨0x030000, [], [⟨0, 0, .ro, 0x0⟩, ⟨2, 1, .ro, 0x0⟩, ⟨3, 3, .ro, 0x0⟩, ⟨4, 4, .ro, 0x0⟩, ⟨12, 8, .ro, 0x0⟩]⟩,
  -- MEMC_SR_CFG
  ⟨0x030004, [], [⟨0, 0, .rw, 0x1⟩, ⟨15, 8, .rw, 0x14⟩, ⟨23, 16, .rw, 0x5⟩]⟩,
  -- MEMC_SR_STAT
  ⟨0x030008, [], [⟨9, 0, .ro, 0x0⟩, ⟨31, 16, .ro, 0x0⟩]⟩,
  -- MEMC_SR_TIME
  ⟨0x03000C, [], [⟨31, 0, .ro, 0x0⟩]⟩,
  -- MEMC_BAR2_BASE
  ⟨0x030010, [], [⟨13, 0, .rw, 0x0⟩]⟩,
  -- MEMC_ECC_CNT
  ⟨0x030014, [], [⟨15, 0, .ro, 0x0⟩, ⟨31, 16, .ro, 0x0⟩]⟩,
  -- MEMC_ECC_LAST
  ⟨0x030018, [], [⟨27, 0, .ro, 0x0⟩]⟩,
  -- MEMC_ECC_REQ
  ⟨0x03001C, [], [⟨7, 0, .ro, 0x0⟩]⟩,
  -- MEMC_FW_STAT
  ⟨0x030020, [], [⟨0, 0, .w1c, 0x0⟩, ⟨3, 1, .ro, 0x0⟩, ⟨15, 8, .ro, 0x0⟩, ⟨31, 16, .ro, 0x0⟩]⟩,
  -- MEMC_FW_ADDR
  ⟨0x030024, [], [⟨27, 0, .ro, 0x0⟩]⟩,
  -- MEMC_SCRUB
  ⟨0x030028, [], [⟨0, 0, .rw, 0x1⟩, ⟨31, 16, .ro, 0x0⟩]⟩,
  -- MEMC_HOST_STAT
  ⟨0x030030, [], [⟨0, 0, .ro, 0x0⟩, ⟨2, 1, .ro, 0x0⟩, ⟨4, 3, .ro, 0x0⟩, ⟨5, 5, .ro, 0x0⟩, ⟨6, 6, .ro, 0x0⟩, ⟨7, 7, .ro, 0x0⟩, ⟨31, 16, .ro, 0x0⟩]⟩]

/-- Register rows of block 03. -/
def regRows03 : List RegRow :=
  regRows03p1

/-- Register rows of block 04, part 1. -/
def regRows04p1 : List RegRow := [
  -- INTC_STAT
  ⟨0x040000, [], [⟨12, 0, .ro, 0x0⟩, ⟨25, 16, .ro, 0x200⟩]⟩,
  -- INTC_COUNTS
  ⟨0x040004, [], [⟨15, 0, .ro, 0x0⟩, ⟨31, 16, .ro, 0x0⟩]⟩,
  -- INTC_HOLDOFFg
  ⟨0x040010, [(3, 0x4)], [⟨15, 0, .rw, 0x0⟩]⟩,
  -- INTC_HANDh_CFG
  ⟨0x040040, [(8, 0x10)], [⟨0, 0, .rw, 0x0⟩, ⟨7, 4, .rw, 0x0⟩]⟩,
  -- INTC_HANDh_CLAIM
  ⟨0x040044, [(2, 0x10)], [⟨9, 0, .rw, 0x0⟩]⟩,
  -- INTC_HANDh_RUN
  ⟨0x040048, [(2, 0x10)], [⟨3, 0, .ro, 0x0⟩, ⟨7, 4, .ro, 0x0⟩, ⟨8, 8, .w1c, 0x0⟩, ⟨25, 16, .ro, 0x0⟩]⟩,
  -- INTC_HANDh_PENDw
  ⟨0x040100, [(2, 0x40), (12, 0x4)], [⟨31, 0, .w1c, 0x0⟩]⟩,
  -- INTC_SRCs_CFG
  ⟨0x041000, [(384, 0x8)], [⟨3, 0, .rw, 0x0⟩, ⟨8, 8, .rw, 0x0⟩, ⟨9, 9, .ro, 0x0⟩, ⟨23, 16, .rw, 0x0⟩]⟩,
  -- INTC_SRCs_COAL
  ⟨0x041004, [(384, 0x8)], [⟨7, 0, .rw, 0x1⟩, ⟨31, 16, .rw, 0x64⟩]⟩,
  -- EVQq_BASE_LO
  ⟨0x042000, [(8, 0x40)], [⟨31, 12, .rw, 0x0⟩]⟩,
  -- EVQq_BASE_HI
  ⟨0x042004, [(8, 0x40)], [⟨31, 0, .rw, 0x0⟩]⟩,
  -- EVQq_CFG
  ⟨0x042008, [(8, 0x40)], [⟨4, 0, .rw, 0x6⟩, ⟨8, 8, .rw, 0x0⟩, ⟨9, 9, .rw, 0x0⟩, ⟨15, 12, .rw, 0x0⟩]⟩]

/-- Register rows of block 04, part 2. -/
def regRows04p2 : List RegRow := [
  -- EVQq_PROD
  ⟨0x04200C, [(8, 0x40)], [⟨31, 0, .ro, 0x0⟩]⟩,
  -- EVQq_CONS
  ⟨0x042010, [(8, 0x40)], [⟨31, 0, .rw, 0x0⟩]⟩,
  -- EVQq_CTL
  ⟨0x042014, [(8, 0x40)], [⟨0, 0, .w1s, 0x0⟩]⟩,
  -- EVQq_STAT
  ⟨0x042018, [(8, 0x40)], [⟨0, 0, .ro, 0x0⟩, ⟨1, 1, .ro, 0x0⟩, ⟨2, 2, .ro, 0x0⟩, ⟨3, 3, .w1c, 0x0⟩, ⟨4, 4, .w1c, 0x0⟩, ⟨5, 5, .w1c, 0x0⟩, ⟨28, 16, .ro, 0x0⟩]⟩,
  -- EVQq_FREE
  ⟨0x04201C, [(8, 0x40)], [⟨16, 0, .ro, 0x0⟩]⟩]

/-- Register rows of block 04. -/
def regRows04 : List RegRow :=
  regRows04p1 ++ regRows04p2

/-- Register rows of block 05, part 1. -/
def regRows05p1 : List RegRow := [
  -- FLT_STAT
  ⟨0x050000, [], [⟨0, 0, .ro, 0x0⟩, ⟨1, 1, .ro, 0x0⟩, ⟨2, 2, .ro, 0x1⟩, ⟨7, 4, .ro, 0x0⟩, ⟨15, 8, .ro, 0x0⟩, ⟨23, 16, .ro, 0x0⟩]⟩,
  -- FLT_CFG
  ⟨0x050004, [], [⟨9, 0, .rw, 0x14⟩, ⟨10, 10, .rw, 0x0⟩, ⟨11, 11, .rw, 0x0⟩, ⟨12, 12, .rw, 0x0⟩, ⟨19, 16, .rw, 0x0⟩]⟩,
  -- FLT_FIRST
  ⟨0x050008, [], [⟨6, 0, .ro, 0x0⟩, ⟨10, 8, .ro, 0x0⟩, ⟨12, 12, .w1c, 0x0⟩, ⟨13, 13, .ro, 0x0⟩, ⟨14, 14, .ro, 0x0⟩, ⟨15, 15, .ro, 0x0⟩, ⟨31, 16, .ro, 0x0⟩]⟩,
  -- FLT_FIRST_TIME_LO
  ⟨0x05000C, [], [⟨31, 0, .ro, 0x0⟩]⟩,
  -- FLT_FIRST_TIME_HI
  ⟨0x050010, [], [⟨31, 0, .ro, 0x0⟩]⟩,
  -- FLT_TIMER
  ⟨0x050014, [], [⟨9, 0, .ro, 0x0⟩]⟩,
  -- FLT_COUNTS
  ⟨0x050018, [], [⟨15, 0, .ro, 0x0⟩, ⟨31, 16, .ro, 0x0⟩]⟩,
  -- FLT_INJECT
  ⟨0x05001C, [], [⟨6, 0, .wo, 0x0⟩, ⟨31, 16, .wo, 0x0⟩]⟩,
  -- FLT_PENDw
  ⟨0x050020, [(4, 0x4)], [⟨31, 0, .w1c, 0x0⟩]⟩,
  -- FLT_BROKENw
  ⟨0x050030, [(4, 0x4)], [⟨31, 0, .w1c, 0x0⟩]⟩]

/-- Register rows of block 05. -/
def regRows05 : List RegRow :=
  regRows05p1

/-- Register rows of block 06, part 1. -/
def regRows06p1 : List RegRow := [
  -- CTL_STAT
  ⟨0x060000, [], [⟨0, 0, .ro, 0x0⟩, ⟨3, 1, .ro, 0x0⟩, ⟨15, 8, .ro, 0x0⟩, ⟨17, 16, .ro, 0x0⟩]⟩,
  -- CTL_EVT
  ⟨0x060004, [], [⟨0, 0, .w1c, 0x0⟩, ⟨1, 1, .w1c, 0x0⟩, ⟨2, 2, .w1c, 0x0⟩, ⟨3, 3, .w1c, 0x0⟩, ⟨4, 4, .w1c, 0x0⟩, ⟨5, 5, .w1c, 0x0⟩]⟩,
  -- CTL_MISSED
  ⟨0x060008, [], [⟨31, 0, .ro, 0x0⟩]⟩,
  -- CTL_TRCc_CFG
  ⟨0x060040, [(4, 0x20)], [⟨5, 0, .rws, 0x0⟩, ⟨10, 8, .rws, 0x0⟩, ⟨14, 12, .rws, 0x0⟩, ⟨19, 16, .rws, 0x0⟩, ⟨26, 24, .rws, 0x0⟩, ⟨28, 28, .rws, 0x0⟩]⟩,
  -- CTL_TRCc_POST
  ⟨0x060044, [(4, 0x20)], [⟨13, 0, .rws, 0x2000⟩, ⟨18, 16, .ro, 0x0⟩]⟩,
  -- CTL_TRCc_CTL
  ⟨0x060048, [(4, 0x20)], [⟨0, 0, .w1s, 0x0⟩, ⟨1, 1, .w1s, 0x0⟩]⟩,
  -- CTL_TRCc_STAT
  ⟨0x06004C, [(4, 0x20)], [⟨13, 0, .ro, 0x0⟩, ⟨14, 14, .ro, 0x0⟩, ⟨15, 15, .ro, 0x0⟩, ⟨16, 16, .ro, 0x0⟩, ⟨31, 18, .ro, 0x0⟩]⟩,
  -- CTL_TRCc_TRIG_FRAME
  ⟨0x060050, [(4, 0x20)], [⟨31, 0, .ro, 0x0⟩]⟩,
  -- CTL_LOOPn_CFG
  ⟨0x060100, [(64, 0x40)], [⟨0, 0, .ro, 0x0⟩, ⟨7, 4, .ro, 0x0⟩, ⟨10, 8, .ro, 0x0⟩, ⟨14, 12, .ro, 0x0⟩, ⟨18, 16, .ro, 0x0⟩, ⟨23, 20, .ro, 0xF⟩]⟩,
  -- CTL_LOOPn_STAT
  ⟨0x060104, [(64, 0x40)], [⟨1, 0, .ro, 0x0⟩, ⟨2, 2, .ro, 0x1⟩, ⟨3, 3, .ro, 0x0⟩, ⟨4, 4, .ro, 0x0⟩, ⟨5, 5, .ro, 0x0⟩, ⟨6, 6, .ro, 0x0⟩, ⟨7, 7, .ro, 0x0⟩, ⟨11, 8, .ro, 0x0⟩, ⟨15, 12, .ro, 0x0⟩, ⟨19, 16, .ro, 0x0⟩, ⟨23, 20, .ro, 0x0⟩]⟩,
  -- CTL_LOOPn_EVT
  ⟨0x060108, [(64, 0x40)], [⟨0, 0, .w1c, 0x0⟩, ⟨1, 1, .w1c, 0x0⟩, ⟨2, 2, .w1c, 0x0⟩, ⟨3, 3, .w1c, 0x0⟩, ⟨4, 4, .w1c, 0x0⟩, ⟨5, 5, .w1c, 0x0⟩]⟩,
  -- CTL_LOOPn_TARGET
  ⟨0x06010C, [(64, 0x40)], [⟨31, 0, .rws, 0x0⟩]⟩]

/-- Register rows of block 06, part 2. -/
def regRows06p2 : List RegRow := [
  -- CTL_LOOPn_MANk
  ⟨0x060110, [(64, 0x40), (4, 0x4)], [⟨31, 0, .rws, 0x0⟩]⟩,
  -- CTL_LOOPn_OUTk
  ⟨0x060120, [(64, 0x40), (4, 0x4)], [⟨31, 0, .ro, 0x0⟩]⟩,
  -- CTL_LOOPn_SETPT
  ⟨0x060130, [(64, 0x40)], [⟨31, 0, .ro, 0x0⟩]⟩,
  -- CTL_LOOPn_RESCNT
  ⟨0x060134, [(64, 0x40)], [⟨31, 0, .ro, 0x0⟩]⟩,
  -- CTL_LOOPn_ZSEL
  ⟨0x060138, [(64, 0x40)], [⟨1, 0, .rw, 0x0⟩]⟩,
  -- CTL_LOOPn_Z
  ⟨0x06013C, [(64, 0x40)], [⟨31, 0, .ro, 0x0⟩]⟩]

/-- Register rows of block 06. -/
def regRows06 : List RegRow :=
  regRows06p1 ++ regRows06p2

/-- Register rows of block 07, part 1. -/
def regRows07p1 : List RegRow := [
  -- HK_STAT
  ⟨0x070000, [], [⟨15, 0, .ro, 0x0⟩, ⟨16, 16, .ro, 0x0⟩, ⟨17, 17, .ro, 0x0⟩, ⟨18, 18, .ro, 0x0⟩, ⟨19, 19, .ro, 0x0⟩]⟩,
  -- HK_CAL_TOL
  ⟨0x070004, [], [⟨5, 0, .rw, 0x2⟩, ⟨11, 6, .rw, 0x20⟩, ⟨17, 12, .rw, 0x1⟩, ⟨23, 18, .rw, 0x5⟩, ⟨29, 24, .rw, 0x2⟩]⟩,
  -- HK_CAL_CTL
  ⟨0x070008, [], [⟨0, 0, .w1s, 0x0⟩, ⟨1, 1, .w1s, 0x0⟩]⟩,
  -- HK_CAL_RES
  ⟨0x07000C, [], [⟨7, 0, .ro, 0x0⟩, ⟨15, 8, .ro, 0x0⟩, ⟨19, 16, .ro, 0x0⟩, ⟨20, 20, .w1c, 0x0⟩, ⟨28, 24, .ro, 0x0⟩]⟩,
  -- HK_CALSAVE_LO
  ⟨0x070010, [], [⟨31, 6, .rw, 0x0⟩]⟩,
  -- HK_CALSAVE_HI
  ⟨0x070014, [], [⟨31, 0, .rw, 0x0⟩]⟩,
  -- HK_CALi_STAT
  ⟨0x070020, [(8, 0x8)], [⟨15, 0, .ro, 0x0⟩, ⟨17, 16, .ro, 0x0⟩, ⟨18, 18, .ro, 0x0⟩]⟩,
  -- HK_CALi_LAST
  ⟨0x070024, [(8, 0x8)], [⟨31, 0, .ro, 0xFFFFFFFF⟩]⟩,
  -- HK_THERM_STAT
  ⟨0x070060, [], [⟨15, 0, .ro, 0x0⟩, ⟨17, 16, .ro, 0x0⟩, ⟨18, 18, .ro, 0x0⟩, ⟨19, 19, .ro, 0x0⟩, ⟨20, 20, .ro, 0x0⟩, ⟨23, 21, .ro, 0x0⟩, ⟨31, 24, .ro, 0x0⟩]⟩,
  -- HK_THERM_RATE
  ⟨0x070064, [], [⟨15, 0, .ro, 0x0⟩, ⟨31, 16, .ro, 0x0⟩]⟩,
  -- HK_THERM_CFG
  ⟨0x070068, [], [⟨7, 0, .rw, 0x28⟩, ⟨8, 8, .rw, 0x1⟩]⟩,
  -- HK_THERM_EVT
  ⟨0x07006C, [], [⟨0, 0, .w1c, 0x0⟩, ⟨1, 1, .w1c, 0x0⟩, ⟨2, 2, .w1c, 0x0⟩, ⟨3, 3, .w1c, 0x0⟩, ⟨4, 4, .w1c, 0x0⟩, ⟨5, 5, .w1c, 0x0⟩]⟩]

/-- Register rows of block 07, part 2. -/
def regRows07p2 : List RegRow := [
  -- HK_THERM_CNT
  ⟨0x070070, [], [⟨15, 0, .ro, 0x0⟩, ⟨31, 16, .ro, 0x0⟩]⟩,
  -- HK_TEMPk
  ⟨0x070080, [(8, 0x4)], [⟨15, 0, .ro, 0x0⟩, ⟨16, 16, .ro, 0x0⟩]⟩,
  -- HK_TRIMw
  ⟨0x070200, [(30, 0x4)], [⟨15, 0, .ro, 0x0⟩, ⟨31, 16, .ro, 0x0⟩]⟩,
  -- HK_CHc
  ⟨0x070400, [(96, 0x4)], [⟨11, 0, .ro, 0x0⟩, ⟨31, 16, .ro, 0x0⟩]⟩]

/-- Register rows of block 07. -/
def regRows07 : List RegRow :=
  regRows07p1 ++ regRows07p2

/-- Register rows of block 08, part 1. -/
def regRows08p1 : List RegRow := [
  -- ACC_STAT
  ⟨0x080000, [], [⟨7, 0, .ro, 0x0⟩, ⟨8, 8, .ro, 0x0⟩, ⟨9, 9, .ro, 0x0⟩, ⟨10, 10, .ro, 0x0⟩]⟩,
  -- ACC_CFG
  ⟨0x080004, [], [⟨0, 0, .rw, 0x1⟩, ⟨1, 1, .rw, 0x0⟩, ⟨2, 2, .rw, 0x1⟩, ⟨12, 8, .rw, 0x14⟩, ⟨23, 16, .rw, 0x50⟩]⟩,
  -- ACC_EVT
  ⟨0x080008, [], [⟨0, 0, .w1c, 0x0⟩, ⟨1, 1, .w1c, 0x0⟩, ⟨2, 2, .w1c, 0x0⟩, ⟨3, 3, .w1c, 0x0⟩, ⟨4, 4, .w1c, 0x0⟩, ⟨5, 5, .w1c, 0x0⟩, ⟨6, 6, .w1c, 0x0⟩]⟩,
  -- ACC_GROUPg
  ⟨0x080010, [(4, 0x4)], [⟨6, 0, .rw, 0x0⟩, ⟨7, 7, .rw, 0x0⟩]⟩,
  -- ACC_PWR
  ⟨0x080020, [], [⟨12, 0, .rw, 0xFA0⟩, ⟨31, 16, .ro, 0x0⟩]⟩,
  -- ACC_MCTL
  ⟨0x080024, [], [⟨0, 0, .w1s, 0x0⟩, ⟨1, 1, .ro, 0x0⟩]⟩,
  -- ACC_CHc_CFG
  ⟨0x080100, [(48, 0x10)], [⟨7, 0, .rw, 0x0⟩, ⟨13, 8, .rw, 0x0⟩, ⟨14, 14, .rw, 0x0⟩, ⟨15, 15, .rw, 0x0⟩]⟩,
  -- ACC_CHc_FADE
  ⟨0x080104, [(48, 0x10)], [⟨9, 0, .rw, 0x0⟩, ⟨27, 16, .rw, 0x0⟩]⟩,
  -- ACC_CHc_STAT
  ⟨0x080108, [(48, 0x10)], [⟨15, 0, .ro, 0x0⟩, ⟨18, 16, .ro, 0x0⟩, ⟨21, 20, .ro, 0x0⟩, ⟨22, 22, .ro, 0x0⟩, ⟨31, 24, .ro, 0x0⟩]⟩,
  -- ACC_CHc_CTL
  ⟨0x08010C, [(48, 0x10)], [⟨0, 0, .w1s, 0x0⟩]⟩,
  -- ACC_BINl_w
  ⟨0x080400, [(16, 0x20), (5, 0x4)], [⟨15, 0, .rw, 0x0⟩, ⟨31, 16, .rw, 0x0⟩]⟩,
  -- ACC_MFRAMEw
  ⟨0x080600, [(192, 0x4)], [⟨15, 0, .rw, 0x0⟩, ⟨31, 16, .rw, 0x0⟩]⟩]

/-- Register rows of block 08, part 2. -/
def regRows08p2 : List RegRow := [
  -- ACC_FADEt_w
  ⟨0x081000, [(2, 0x800), (512, 0x4)], [⟨15, 0, .rw, 0x0⟩, ⟨31, 16, .rw, 0x0⟩]⟩]

/-- Register rows of block 08. -/
def regRows08 : List RegRow :=
  regRows08p1 ++ regRows08p2

/-- Register rows of block 09, part 1. -/
def regRows09p1 : List RegRow := [
  -- CRCu_STAT
  ⟨0x090000, [(2, 0x20)], [⟨0, 0, .ro, 0x0⟩, ⟨2, 1, .ro, 0x0⟩, ⟨15, 8, .ro, 0x0⟩, ⟨31, 16, .ro, 0x0⟩]⟩,
  -- CRCu_RESULT
  ⟨0x090004, [(2, 0x20)], [⟨31, 0, .ro, 0x0⟩]⟩,
  -- CRCu_DONE
  ⟨0x090008, [(2, 0x20)], [⟨31, 0, .ro, 0x0⟩]⟩]

/-- Register rows of block 09. -/
def regRows09 : List RegRow :=
  regRows09p1

/-- Register rows of block 0A, part 1. -/
def regRows0Ap1 : List RegRow := [
  -- PWR_DOMAIN_STAT
  ⟨0x0A0000, [], [⟨14, 0, .ro, 0x7FFF⟩, ⟨30, 16, .ro, 0x0⟩]⟩,
  -- PWR_RESET
  ⟨0x0A0004, [], [⟨0, 0, .wo, 0x0⟩, ⟨31, 16, .wo, 0x0⟩]⟩,
  -- PWR_RESET_CAUSE
  ⟨0x0A0008, [], [⟨2, 0, .ro, 0x0⟩, ⟨31, 16, .ro, 0x0⟩]⟩,
  -- PWR_PASTE_STAT
  ⟨0x0A000C, [], [⟨15, 0, .ro, 0x0⟩, ⟨31, 16, .ro, 0x0⟩]⟩,
  -- PWR_LIFECYCLE
  ⟨0x0A0010, [], [⟨1, 0, .ro, 0x0⟩, ⟨11, 8, .ro, 0x0⟩, ⟨15, 12, .ro, 0x0⟩, ⟨22, 16, .ro, 0x0⟩, ⟨29, 24, .ro, 0x0⟩]⟩,
  -- PWR_FW
  ⟨0x0A0018, [], [⟨0, 0, .ro, 0x0⟩, ⟨1, 1, .ro, 0x0⟩, ⟨2, 2, .ro, 0x0⟩, ⟨3, 3, .ro, 0x1⟩, ⟨4, 4, .ro, 0x0⟩, ⟨5, 5, .ro, 0x0⟩]⟩,
  -- PWR_FW_VER
  ⟨0x0A001C, [], [⟨31, 0, .ro, 0x0⟩]⟩,
  -- PWR_FW_ALIVE
  ⟨0x0A0020, [], [⟨15, 0, .wo, 0x0⟩]⟩,
  -- PWR_FW_ABSENT
  ⟨0x0A0024, [], [⟨15, 0, .ro, 0x0⟩, ⟨31, 16, .ro, 0x0⟩]⟩,
  -- PWR_WDOG_CFG
  ⟨0x0A0028, [], [⟨13, 0, .rw, 0x3E8⟩, ⟨16, 16, .rw, 0x1⟩]⟩,
  -- PWR_WDOG_KICK
  ⟨0x0A002C, [], [⟨15, 0, .wo, 0x0⟩]⟩,
  -- PWR_DUMP_STAT
  ⟨0x0A0030, [], [⟨0, 0, .ro, 0x0⟩, ⟨1, 1, .ro, 0x0⟩]⟩]

/-- Register rows of block 0A, part 2. -/
def regRows0Ap2 : List RegRow := [
  -- PWR_DUMP_CFG
  ⟨0x0A0034, [], [⟨7, 0, .rw, 0x0⟩]⟩,
  -- PWR_CLK_STAT
  ⟨0x0A0038, [], [⟨0, 0, .ro, 0x1⟩, ⟨1, 1, .ro, 0x0⟩, ⟨2, 2, .ro, 0x0⟩]⟩]

/-- Register rows of block 0A. -/
def regRows0A : List RegRow :=
  regRows0Ap1 ++ regRows0Ap2

/-- Register rows of block 0B, part 1. -/
def regRows0Bp1 : List RegRow := [
  -- PTN_STAT
  ⟨0x0B0000, [], [⟨2, 0, .ro, 0x0⟩, ⟨5, 4, .ro, 0x0⟩, ⟨7, 6, .ro, 0x0⟩, ⟨8, 8, .ro, 0x0⟩, ⟨9, 9, .ro, 0x0⟩]⟩,
  -- PTN_EVT
  ⟨0x0B0004, [], [⟨0, 0, .w1c, 0x0⟩, ⟨1, 1, .w1c, 0x0⟩, ⟨2, 2, .w1c, 0x0⟩, ⟨3, 3, .w1c, 0x0⟩, ⟨4, 4, .w1c, 0x0⟩]⟩,
  -- PTN_DELAY
  ⟨0x0B0008, [], [⟨15, 0, .ro, 0x0⟩, ⟨31, 16, .ro, 0x0⟩]⟩,
  -- PTN_DIVERGE
  ⟨0x0B000C, [], [⟨31, 0, .ro, 0x0⟩]⟩,
  -- PTN_COUNTS
  ⟨0x0B0010, [], [⟨15, 0, .ro, 0x0⟩, ⟨31, 16, .ro, 0x0⟩]⟩,
  -- PTN_PAIR_LO
  ⟨0x0B0014, [], [⟨31, 0, .ro, 0x0⟩]⟩,
  -- PTN_PAIR_HI
  ⟨0x0B0018, [], [⟨31, 0, .ro, 0x0⟩]⟩]

/-- Register rows of block 0B. -/
def regRows0B : List RegRow :=
  regRows0Bp1

/-- Register rows of block 0C, part 1. -/
def regRows0Cp1 : List RegRow := [
  -- SKM_CTL
  ⟨0x0C0000, [], [⟨15, 0, .rws, 0x0⟩, ⟨19, 16, .rws, 0x3⟩]⟩,
  -- SKM_PRED
  ⟨0x0C0004, [], [⟨9, 0, .rws, 0x64⟩]⟩,
  -- SKM_BLIND_ATTEN
  ⟨0x0C0008, [], [⟨15, 0, .rws, 0x0⟩]⟩,
  -- SKM_LIST_STAT
  ⟨0x0C000C, [], [⟨15, 0, .ro, 0x0⟩, ⟨24, 16, .ro, 0x0⟩, ⟨28, 25, .ro, 0x0⟩, ⟨29, 29, .ro, 0x1⟩, ⟨30, 30, .ro, 0x0⟩]⟩,
  -- SKM_EVT
  ⟨0x0C0010, [], [⟨0, 0, .w1c, 0x0⟩, ⟨1, 1, .w1c, 0x0⟩, ⟨2, 2, .w1c, 0x0⟩, ⟨3, 3, .w1c, 0x0⟩, ⟨4, 4, .w1c, 0x0⟩, ⟨5, 5, .w1c, 0x0⟩, ⟨6, 6, .w1c, 0x0⟩, ⟨7, 7, .w1c, 0x0⟩, ⟨8, 8, .w1c, 0x0⟩]⟩,
  -- SKM_COUNTS
  ⟨0x0C0014, [], [⟨15, 0, .ro, 0x0⟩, ⟨31, 16, .ro, 0x0⟩]⟩,
  -- SKM_SETUP
  ⟨0x0C0018, [], [⟨15, 0, .ro, 0x0⟩, ⟨17, 16, .ro, 0x0⟩, ⟨18, 18, .ro, 0x0⟩]⟩,
  -- SKM_ZONE_STAT
  ⟨0x0C001C, [], [⟨5, 0, .ro, 0x0⟩, ⟨8, 8, .ro, 0x0⟩]⟩,
  -- SKM_LAT_TOL
  ⟨0x0C0020, [], [⟨9, 0, .ro, 0x3FF⟩]⟩,
  -- SKM_TILEn_Hj
  ⟨0x0C1000, [(16, 0x40), (9, 0x4)], [⟨31, 0, .rws, 0x0⟩]⟩,
  -- SKM_TILEn_CX
  ⟨0x0C1024, [(16, 0x40)], [⟨31, 0, .rws, 0x0⟩]⟩,
  -- SKM_TILEn_CY
  ⟨0x0C1028, [(16, 0x40)], [⟨31, 0, .rws, 0x0⟩]⟩]

/-- Register rows of block 0C, part 2. -/
def regRows0Cp2 : List RegRow := [
  -- SKM_TILEn_Kj
  ⟨0x0C102C, [(16, 0x40), (3, 0x4)], [⟨31, 0, .rws, 0x0⟩]⟩,
  -- SKM_TILEn_EMIT_LAT
  ⟨0x0C1038, [(16, 0x40)], [⟨15, 0, .rws, 0x0⟩]⟩,
  -- SKM_TILEn_BLIND
  ⟨0x0C103C, [(16, 0x40)], [⟨10, 0, .rws, 0x0⟩, ⟨26, 16, .rws, 0x3FF⟩]⟩,
  -- SKM_TILEn_STAT
  ⟨0x0C2000, [(16, 0x10)], [⟨6, 0, .ro, 0x0⟩, ⟨7, 7, .ro, 0x0⟩, ⟨8, 8, .ro, 0x0⟩, ⟨9, 9, .ro, 0x0⟩, ⟨10, 10, .ro, 0x0⟩, ⟨27, 16, .ro, 0x0⟩]⟩]

/-- Register rows of block 0C. -/
def regRows0C : List RegRow :=
  regRows0Cp1 ++ regRows0Cp2

/-- Register rows of block CHN, part 1. -/
def regRowsCHNp1 : List RegRow := [
  -- CHNn_STAT
  ⟨0x100000, [(16, 0x10000)], [⟨0, 0, .ro, 0x0⟩, ⟨18, 8, .ro, 0x7FF⟩]⟩,
  -- CHNn_BG
  ⟨0x100004, [(16, 0x10000)], [⟨15, 0, .rws, 0x0⟩, ⟨31, 16, .ro, 0x0⟩]⟩,
  -- CHNn_ORDER
  ⟨0x100008, [(16, 0x10000)], [⟨27, 0, .ro, 0x7654321⟩]⟩,
  -- CHNn_EVT
  ⟨0x10000C, [(16, 0x10000)], [⟨0, 0, .w1c, 0x0⟩, ⟨1, 1, .w1c, 0x0⟩, ⟨2, 2, .w1c, 0x0⟩, ⟨3, 3, .w1c, 0x0⟩]⟩,
  -- CHNn_REPEAT_CNT
  ⟨0x100010, [(16, 0x10000)], [⟨31, 0, .ro, 0x0⟩]⟩,
  -- CHNn_REPEAT_LAST
  ⟨0x100014, [(16, 0x10000)], [⟨10, 0, .ro, 0x0⟩, ⟨23, 16, .ro, 0x0⟩, ⟨31, 24, .ro, 0x0⟩]⟩,
  -- CHNn_COMP_END
  ⟨0x100018, [(16, 0x10000)], [⟨23, 0, .ro, 0x0⟩]⟩,
  -- CHNn_TRUMP_STAT
  ⟨0x100020, [(16, 0x10000)], [⟨3, 0, .ro, 0x0⟩, ⟨7, 4, .ro, 0x0⟩, ⟨8, 8, .ro, 0x0⟩, ⟨9, 9, .ro, 0x0⟩, ⟨10, 10, .ro, 0x0⟩]⟩,
  -- CHNn_TRUMP_SEQ
  ⟨0x100024, [(16, 0x10000)], [⟨31, 0, .ro, 0x0⟩]⟩,
  -- CHNn_TRUMP_SUM
  ⟨0x100028, [(16, 0x10000)], [⟨31, 0, .ro, 0x0⟩]⟩,
  -- CHNn_SLOTs_CFG
  ⟨0x100100, [(16, 0x10000), (8, 0x20)], [⟨0, 0, .ro, 0x0⟩, ⟨3, 1, .ro, 0x0⟩, ⟨6, 4, .ro, 0x0⟩, ⟨11, 8, .ro, 0x0⟩, ⟨16, 16, .ro, 0x0⟩, ⟨19, 17, .ro, 0x0⟩, ⟨20, 20, .w1c, 0x0⟩, ⟨31, 24, .ro, 0x0⟩]⟩,
  -- CHNn_SLOTs_SURF_LO
  ⟨0x100104, [(16, 0x10000), (8, 0x20)], [⟨31, 0, .ro, 0x0⟩]⟩]

/-- Register rows of block CHN, part 2. -/
def regRowsCHNp2 : List RegRow := [
  -- CHNn_SLOTs_SURF_HI
  ⟨0x100108, [(16, 0x10000), (8, 0x20)], [⟨31, 0, .ro, 0x0⟩]⟩,
  -- CHNn_SLOTs_GEN
  ⟨0x10010C, [(16, 0x10000), (8, 0x20)], [⟨31, 0, .ro, 0x0⟩]⟩,
  -- CHNn_SLOTs_POS
  ⟨0x100110, [(16, 0x10000), (8, 0x20)], [⟨15, 0, .ro, 0x0⟩, ⟨31, 16, .ro, 0x0⟩]⟩,
  -- CHNn_SLOTs_SIZE
  ⟨0x100114, [(16, 0x10000), (8, 0x20)], [⟨12, 0, .ro, 0x0⟩, ⟨28, 16, .ro, 0x0⟩]⟩,
  -- CHNn_SLOTs_ALPHA
  ⟨0x100118, [(16, 0x10000), (8, 0x20)], [⟨15, 0, .ro, 0x0⟩]⟩,
  -- CHNn_SLOTs_PEND
  ⟨0x10011C, [(16, 0x10000), (8, 0x20)], [⟨15, 0, .ro, 0x0⟩, ⟨17, 16, .ro, 0x0⟩, ⟨19, 18, .ro, 0x0⟩]⟩,
  -- CHNn_PHOT_CFG
  ⟨0x100040, [(16, 0x10000)], [⟨0, 0, .rws, 0x0⟩, ⟨1, 1, .rws, 0x1⟩, ⟨7, 4, .rws, 0x8⟩, ⟨31, 16, .rws, 0x1400⟩]⟩,
  -- CHNn_POT_CTL
  ⟨0x100044, [(16, 0x10000)], [⟨16, 0, .rws, 0x400⟩]⟩,
  -- CHNn_NB_GAIN
  ⟨0x100048, [(16, 0x10000)], [⟨15, 0, .rws, 0x5000⟩]⟩,
  -- CHNn_POT_STAT
  ⟨0x10004C, [(16, 0x10000)], [⟨16, 0, .ro, 0x10000⟩, ⟨24, 24, .w1c, 0x0⟩, ⟨25, 25, .ro, 0x0⟩, ⟨26, 26, .w1c, 0x0⟩, ⟨27, 27, .ro, 0x0⟩]⟩,
  -- CHNn_POT_LASTw
  ⟨0x100050, [(16, 0x10000), (4, 0x4)], [⟨31, 0, .ro, 0x0⟩]⟩,
  -- CHNn_POT_LEDGERw
  ⟨0x100060, [(16, 0x10000), (8, 0x4)], [⟨31, 0, .ro, 0x0⟩]⟩]

/-- Register rows of block CHN, part 3. -/
def regRowsCHNp3 : List RegRow := [
  -- CHNn_PROBE_LEDGERw
  ⟨0x100080, [(16, 0x10000), (4, 0x4)], [⟨31, 0, .ro, 0x0⟩]⟩,
  -- CHNn_PROBE_SCHED
  ⟨0x100090, [(16, 0x10000)], [⟨31, 0, .ro, 0x0⟩]⟩,
  -- CHNn_PROBE_STAT
  ⟨0x100094, [(16, 0x10000)], [⟨11, 0, .ro, 0x0⟩, ⟨23, 12, .ro, 0x0⟩]⟩,
  -- CHNn_CAL_STAT
  ⟨0x100098, [(16, 0x10000)], [⟨0, 0, .ro, 0x0⟩, ⟨1, 1, .ro, 0x0⟩, ⟨8, 2, .ro, 0x0⟩, ⟨9, 9, .w1c, 0x0⟩, ⟨10, 10, .w1c, 0x0⟩]⟩,
  -- CHNn_CAL_ADDR_LO
  ⟨0x10009C, [(16, 0x10000)], [⟨31, 0, .ro, 0x0⟩]⟩,
  -- CHNn_CAL_ADDR_HI
  ⟨0x1000A0, [(16, 0x10000)], [⟨31, 0, .ro, 0x0⟩]⟩,
  -- CHNn_TCb_w
  ⟨0x100400, [(16, 0x10000), (2, 0x400), (129, 0x4)], [⟨15, 0, .rw, 0x0⟩, ⟨31, 16, .rw, 0x0⟩]⟩]

/-- Register rows of block CHN. -/
def regRowsCHN : List RegRow :=
  regRowsCHNp1 ++ regRowsCHNp2 ++ regRowsCHNp3

/-- Register rows of block SCL, part 1. -/
def regRowsSCLp1 : List RegRow := [
  -- SCLn_CFG
  ⟨0x300000, [(8, 0x1000)], [⟨1, 0, .rws, 0x1⟩, ⟨3, 2, .rws, 0x1⟩, ⟨11, 8, .rws, 0x2⟩, ⟨15, 12, .rws, 0x2⟩]⟩,
  -- SCLn_CFG_ACTIVE
  ⟨0x300004, [(8, 0x1000)], [⟨15, 0, .ro, 0x2205⟩]⟩,
  -- SCLn_STAT
  ⟨0x300008, [(8, 0x1000)], [⟨17, 0, .ro, 0x0⟩, ⟨19, 18, .ro, 0x0⟩, ⟨24, 24, .w1c, 0x0⟩, ⟨25, 25, .ro, 0x0⟩]⟩,
  -- SCLn_TABLE_CTL
  ⟨0x30000C, [(8, 0x1000)], [⟨0, 0, .rw, 0x0⟩]⟩,
  -- SCLn_USERS
  ⟨0x300010, [(8, 0x1000)], [⟨3, 0, .ro, 0x0⟩, ⟨4, 4, .ro, 0x0⟩, ⟨7, 7, .ro, 0x0⟩, ⟨11, 8, .ro, 0x0⟩, ⟨12, 12, .ro, 0x0⟩, ⟨15, 15, .ro, 0x0⟩]⟩,
  -- SCLn_COEFw
  ⟨0x300400, [(8, 0x1000), (256, 0x4)], [⟨15, 0, .rw, 0x0⟩, ⟨31, 16, .rw, 0x0⟩]⟩,
  -- SCLn_LINw
  ⟨0x300800, [(8, 0x1000), (512, 0x4)], [⟨15, 0, .rw, 0x0⟩, ⟨31, 16, .rw, 0x0⟩]⟩]

/-- Register rows of block SCL. -/
def regRowsSCL : List RegRow :=
  regRowsSCLp1

/-- Register rows of block TL, part 1. -/
def regRowsTLp1 : List RegRow := [
  -- TLn_CFG
  ⟨0x200000, [(16, 0x10000)], [⟨0, 0, .rws, 0x1⟩, ⟨15, 8, .rws, 0x14⟩]⟩,
  -- TLn_STAT
  ⟨0x200004, [(16, 0x10000)], [⟨3, 0, .ro, 0x0⟩, ⟨4, 4, .ro, 0x0⟩, ⟨5, 5, .ro, 0x0⟩, ⟨6, 6, .ro, 0x0⟩, ⟨11, 8, .ro, 0x0⟩]⟩,
  -- TLn_LANE_STAT
  ⟨0x200008, [(16, 0x10000)], [⟨0, 0, .ro, 0x0⟩, ⟨1, 1, .ro, 0x0⟩, ⟨2, 2, .ro, 0x0⟩, ⟨5, 4, .ro, 0x0⟩, ⟨7, 6, .ro, 0x0⟩, ⟨9, 8, .ro, 0x0⟩, ⟨16, 16, .w1c, 0x0⟩, ⟨17, 17, .w1c, 0x0⟩, ⟨18, 18, .w1c, 0x0⟩, ⟨20, 20, .ro, 0x0⟩, ⟨21, 21, .ro, 0x0⟩, ⟨22, 22, .ro, 0x0⟩]⟩,
  -- TLn_LANE_PWR
  ⟨0x20000C, [(16, 0x10000)], [⟨0, 0, .rw, 0x0⟩, ⟨8, 8, .w1c, 0x0⟩]⟩,
  -- TLn_CREDIT
  ⟨0x200010, [(16, 0x10000)], [⟨7, 0, .ro, 0x0⟩, ⟨15, 8, .ro, 0x0⟩, ⟨23, 16, .ro, 0x0⟩, ⟨31, 24, .ro, 0x0⟩]⟩,
  -- TLn_CREDIT2
  ⟨0x200014, [(16, 0x10000)], [⟨7, 0, .ro, 0x0⟩, ⟨15, 8, .ro, 0x90⟩]⟩,
  -- TLn_SEQ
  ⟨0x200018, [(16, 0x10000)], [⟨15, 0, .ro, 0x0⟩, ⟨31, 16, .ro, 0x0⟩]⟩,
  -- TLn_LAST_FRAME
  ⟨0x20001C, [(16, 0x10000)], [⟨11, 0, .ro, 0x0⟩, ⟨22, 12, .ro, 0x0⟩, ⟨23, 23, .ro, 0x0⟩, ⟨31, 24, .ro, 0x0⟩]⟩,
  -- TLn_CRC
  ⟨0x200020, [(16, 0x10000)], [⟨15, 0, .ro, 0x0⟩, ⟨31, 16, .ro, 0x0⟩]⟩,
  -- TLn_RET_ERR
  ⟨0x200024, [(16, 0x10000)], [⟨15, 0, .ro, 0x0⟩, ⟨31, 16, .ro, 0x0⟩]⟩,
  -- TLn_REPEAT_CNT
  ⟨0x200028, [(16, 0x10000)], [⟨31, 0, .ro, 0x0⟩]⟩,
  -- TLn_EVT
  ⟨0x20002C, [(16, 0x10000)], [⟨0, 0, .w1c, 0x0⟩, ⟨1, 1, .w1c, 0x0⟩, ⟨2, 2, .w1c, 0x0⟩, ⟨3, 3, .w1c, 0x0⟩, ⟨4, 4, .w1c, 0x0⟩, ⟨5, 5, .w1c, 0x0⟩, ⟨6, 6, .w1c, 0x0⟩]⟩]

/-- Register rows of block TL, part 2. -/
def regRowsTLp2 : List RegRow := [
  -- TLn_IDENT
  ⟨0x200030, [(16, 0x10000)], [⟨15, 0, .ro, 0x0⟩, ⟨23, 16, .ro, 0x0⟩]⟩,
  -- TLn_IDENT_SERIAL
  ⟨0x200034, [(16, 0x10000)], [⟨31, 0, .ro, 0x0⟩]⟩,
  -- TLn_IDENT_ARRAY
  ⟨0x200038, [(16, 0x10000)], [⟨11, 0, .ro, 0x0⟩, ⟨27, 16, .ro, 0x0⟩]⟩,
  -- TLn_SETPOINT
  ⟨0x20003C, [(16, 0x10000)], [⟨15, 0, .ro, 0x0⟩, ⟨31, 16, .ro, 0x0⟩]⟩,
  -- TLn_DIAG_CFG
  ⟨0x200100, [(16, 0x10000)], [⟨0, 0, .rws, 0x1⟩, ⟨1, 1, .rws, 0x1⟩, ⟨12, 8, .rws, 0x14⟩, ⟨27, 16, .rws, 0x800⟩]⟩,
  -- TLn_DIAG_THR
  ⟨0x200104, [(16, 0x10000)], [⟨7, 0, .rws, 0xC⟩, ⟨15, 8, .rws, 0x30⟩, ⟨23, 16, .rws, 0x30⟩]⟩,
  -- TLn_DIAG_FMAP
  ⟨0x200108, [(16, 0x10000)], [⟨31, 16, .rws, 0x0⟩]⟩,
  -- TLn_DIAG_CTL
  ⟨0x20010C, [(16, 0x10000)], [⟨0, 0, .w1s, 0x0⟩, ⟨1, 1, .w1s, 0x0⟩]⟩,
  -- TLn_DIAG_STAT
  ⟨0x200110, [(16, 0x10000)], [⟨7, 0, .ro, 0x0⟩, ⟨13, 8, .ro, 0x0⟩, ⟨14, 14, .ro, 0x0⟩, ⟨15, 15, .ro, 0x0⟩, ⟨28, 16, .ro, 0x0⟩, ⟨29, 29, .ro, 0x0⟩]⟩,
  -- TLn_DIAG_EVT
  ⟨0x200114, [(16, 0x10000)], [⟨0, 0, .w1c, 0x0⟩, ⟨1, 1, .w1c, 0x0⟩, ⟨2, 2, .w1c, 0x0⟩, ⟨3, 3, .w1c, 0x0⟩, ⟨4, 4, .w1c, 0x0⟩, ⟨5, 5, .w1c, 0x0⟩]⟩,
  -- TLn_DIAG_DEFER
  ⟨0x200118, [(16, 0x10000)], [⟨31, 0, .ro, 0x0⟩]⟩,
  -- TLn_DIAG_LATE
  ⟨0x20011C, [(16, 0x10000)], [⟨15, 0, .ro, 0x0⟩, ⟨31, 16, .ro, 0x0⟩]⟩]

/-- Register rows of block TL, part 3. -/
def regRowsTLp3 : List RegRow := [
  -- TLn_DIAG_CNTc
  ⟨0x200120, [(16, 0x10000), (8, 0x4)], [⟨21, 0, .ro, 0x0⟩]⟩]

/-- Register rows of block TL. -/
def regRowsTL : List RegRow :=
  regRowsTLp1 ++ regRowsTLp2 ++ regRowsTLp3

/-- The register rows of the block that holds an offset (18 R408); none in a reserved range (18 R409). -/
def regBlock (off : Nat) : List RegRow :=
  match off / 0x100000 with
  | 0 =>
    match off / 0x10000 with
    | 0 => regRows00
    | 1 => regRows01
    | 2 => regRows02
    | 3 => regRows03
    | 4 => regRows04
    | 5 => regRows05
    | 6 => regRows06
    | 7 => regRows07
    | 8 => regRows08
    | 9 => regRows09
    | 10 => regRows0A
    | 11 => regRows0B
    | 12 => regRows0C
    | _ => []
  | 1 => regRowsCHN
  | 2 => regRowsTL
  | 3 => if off < 0x308000 then regRowsSCL else []
  | _ => []

/-- The indices by which offset distance `d` falls on an instance of a row. -/
def rowIndices : List (Nat × Nat) → Nat → Option (List Nat)
  | [], d => if d = 0 then some [] else none
  | (c, st) :: ds, d =>
    if d / st < c then
      match rowIndices ds (d % st) with
      | some is => some (d / st :: is)
      | none => none
    else none

/-- The row whose register lies at an offset, with its indices. -/
def findRow : List RegRow → Nat → Option (RegRow × List Nat)
  | [], _ => none
  | r :: rs, off =>
    if off < r.base then findRow rs off
    else
      match rowIndices r.dims (off - r.base) with
      | some is => some (r, is)
      | none => findRow rs off

/-- The register at a word-aligned offset; `none` for a reserved offset (00 R6, 18 R409). Source 0 has no register (15 R342). -/
def regAt (off : Nat) : Option (RegRow × List Nat) :=
  if off = 0x041000 ∨ off = 0x041004 then none else findRow (regBlock off) off

/-- The literal reset value of a row's fields. -/
def rowReset (fs : List Fld) : Nat := fs.foldl (fun v f => v + f.reset * 2 ^ f.lo) 0

/-- The reset value of the register at an offset, with the resets the spec gives by formula. -/
def resetNat (off : Nat) : Nat :=
  match regAt off with
  | none => 0
  | some (r, is) =>
    let i0 := is.getD 0 0
    let i1 := is.getD 1 0
    let i2 := is.getD 2 0
    if r.base = 0x100100 then i1 * 2                                            -- ORDER_POS of slot s is s (05 R126)
    else if r.base = 0x300800 then linReset (2 * i1) + linReset (2 * i1 + 1) * 65536
    else if r.base = 0x100400 then
      curveReset (2 * i2) + (if i2 = 128 then 0 else curveReset (2 * i2 + 1) * 65536)
    else if r.base = 0x081000 then
      if i0 = 0 then fadeLogReset (2 * i1) + fadeLogReset (2 * i1 + 1) * 65536
      else fadeGammaReset (2 * i1) + fadeGammaReset (2 * i1 + 1) * 65536
    else if r.base = 0x070200 then (Config.factoryTrim i0).toNat * 0x10001
    else if r.base = 0x080100 then i0 * 0x100                                   -- PHASE of channel c is c (13 R314)
    else if r.base = 0x080400 then if i1 % 2 = 0 then 0x4000 else 0
    else if r.base = 0x040010 then if i0 = 1 then 0x3E8 else 0x64
    else if r.base = 0x041000 then if 1 ≤ i0 ∧ i0 ≤ 6 then 0x00FF0001 else 0   -- no Deal in force (15 R343)
    else if r.base = 0x042008 then 0x6 + i0 * 0x1000                            -- VECTOR of queue q is q (15 R359)
    else rowReset r.flds

/-- The reset value as a word. -/
def resetWord (off : Nat) : Word := BitVec.ofNat 32 (resetNat off)

end Sys2Proof.Machine
end

