-- ==== Sys2Proof/Machine/State.lean ====
section
/-! DEFINITION. The machine's state as plain data, all of it, and the state after reset.
Fields that are the model's own and not the spec's say MODEL. -/

namespace Sys2Proof.Machine

open Sys2Proof

/-! ## Device, Deal and command types (02, 03) -/

/-- Device states of 00 "State names" and 03 R50. -/
inductive DevState where
  | off | pasteurise | boot | undealt | dealt | lit | hold | safeLight | fatal
deriving DecidableEq, Repr

/-- The code of a device state in DEV_STATE.STATE (03 R56). -/
def DevState.code : DevState → Nat
  | .off => 0 | .pasteurise => 1 | .boot => 2 | .undealt => 3 | .dealt => 4
  | .lit => 5 | .hold => 6 | .safeLight => 7 | .fatal => 8

/-- Completion statuses (03 R65). -/
inductive Status where
  | ok | state | invalid | busy | linebuf | timeout | auth | range | noresource | disagree | thermal | aborted
deriving DecidableEq, Repr

/-- The code of a status (03 R65). -/
def Status.code : Status → Nat
  | .ok => 0 | .state => 1 | .invalid => 2 | .busy => 3 | .linebuf => 4 | .timeout => 5
  | .auth => 6 | .range => 7 | .noresource => 8 | .disagree => 9 | .thermal => 10 | .aborted => 11

/-- A TILE entry (02 R32). -/
structure TileEntry where
  present : Bool := false
  type : Nat := 0
  width : Nat := 0
  height : Nat := 0
  serial : Nat := 0
  head : Nat := 0
  phaseSlot : Nat := 0
  holdFrames : Nat := 0
  mirrorX : Bool := false
  mirrorY : Bool := false
  hotSwap : Bool := false
  potCap : Nat := 0
  calPart : Nat := 0
  fmapPart : Nat := 0
deriving DecidableEq, Repr

/-- A SLOT entry (02 R33). -/
structure SlotEntry where
  churn : Nat
  slot : Nat
  role : Nat
  ringMask : Nat
  maxW : Nat
  maxH : Nat
  formatMask : Nat
  scaler : Nat
  part : Nat
deriving DecidableEq, Repr

/-- A SCALER entry (02 R34). -/
structure ScalerEntry where
  scaler : Nat
  churnMask : Nat
  maxSrcW : Nat
  maxVtaps : Nat
  maxHtaps : Nat
deriving DecidableEq, Repr

/-- A LOOP entry (02 R35). -/
structure LoopEntry where
  loop : Nat
  order : Nat
  kind : Nat
  ins : List Nat
  outs : List Nat
deriving DecidableEq, Repr

/-- An IRQMAP entry (02 R37). -/
structure IrqEntry where
  src : Nat
  prio : Nat
  handMask : Nat
deriving DecidableEq, Repr

/-- A MEMPART entry (02 R38). -/
structure PartEntry where
  part : Nat
  kind : Nat
  group : Nat
  access : Nat
  base : Nat
  size : Nat
deriving DecidableEq, Repr

/-- A FALLBACK entry (02 R42). -/
structure FallbackEntry where
  tile : Nat
  levels : Bytes
deriving DecidableEq, Repr

/-- A verified Deal image, parsed (02 R29 to R42). -/
structure Deal where
  seq : Nat
  secVer : Nat
  keySlot : Nat
  sectionCount : Nat
  luminaireId : Nat
  rateMask : Nat
  defaultRate : Nat
  hostPresent : Bool
  dramMib : Nat
  tiles : List TileEntry
  slots : List SlotEntry
  scalers : List ScalerEntry
  loops : List LoopEntry
  irqs : List IrqEntry
  parts : List PartEntry
  domainEn : Nat
  /-- ACCENT bytes 0-3 and MATRIX; `none` where the section is absent. -/
  accent : Option (List Nat × Nat)
  role : Nat
  lane : Nat
  pairId : Nat
  fallbacks : List FallbackEntry
  pubkey : Bytes
  /-- SHA-256 with the ROLE byte, the LANE byte and the signature taken as 0 (14 R329). -/
  matchDigest : Nat
deriving DecidableEq, Repr

/-- A command on its way from acceptance to completion (03 R64, R72). -/
structure CmdRef where
  ring : RingId
  tag : Nat
  opcode : Nat
  sqIndex : Nat
  quiet : Bool
  /-- Number of the command in the order the Dealer checked commands (MODEL, log 2). -/
  id : Nat
deriving DecidableEq, Repr

/-- A completion record without its PHASE bit (03 R64). -/
structure Completion where
  tag : Nat
  status : Status
  replayed : Bool
  opcode : Nat
  detail : Nat
  sqIndex : Nat
  frame : Nat
  result : Nat
  quiet : Bool
deriving DecidableEq, Repr

/-- One entry of a replay window (03 R69): the 64 bytes, and the completion once there is one. -/
structure WindowEntry where
  id : Nat
  cmd : Cmd
  opcode : Nat
  done : Option Completion
deriving DecidableEq, Repr

/-- A command the Dealer has read that waits at step 3 of 03 R66 (R73). -/
structure WaitingCmd where
  ref : CmdRef
  cmd : Cmd
  since : Nat
  /-- It has passed step 4 and waits for Bus Master Enable to read host memory (16 R364). -/
  reading : Bool := false
deriving DecidableEq, Repr

/-- A submission ring and its completion queue (03 R57 to R62). -/
structure Ring where
  enable : Bool := false
  isLocal : Bool := false
  sizeLog2 : Nat := 4
  base : Nat := 0
  sqHead : Nat := 0
  sqTail : Nat := 0
  cqHead : Nat := 0
  cqTail : Nat := 0
  phase : Bool := true
  stopped : Bool := false
  fetchErr : Bool := false
  postErr : Bool := false
  tailErr : Bool := false
  cfgErr : Bool := false
  /-- Completions held in Dealer staging, oldest first. -/
  held : List Completion := []
  /-- How many of them, the oldest, were held when ENABLE was set: they are posted with HELD 1 (R62). -/
  heldOld : Nat := 0
  /-- Replay window, oldest first, at most 256. -/
  window : List WindowEntry := []
  /-- Duplicates that wait for a pending original: its id, their submission index and QUIET (R69). -/
  dups : List (Nat × Nat × Bool) := []
  /-- Commands accepted and not completed, oldest first. -/
  accepted : List CmdRef := []
  waiting : Option WaitingCmd := none
  /-- Commands accepted since reset (03 R76 ACCEPTED). -/
  acceptedCount : Nat := 0
  /-- Surface tokens taken by accepted commits and returned by RETIRE records (01 R24). -/
  tokensTaken : Nat := 0
  tokensReturned : Nat := 0
  /-- Surfaces of commits that entry to FATAL ended: the chip's until the reset that ends FATAL (05 R108). -/
  kept : Nat := 0
deriving DecidableEq, Repr

/-- A state command accepted and waiting for its cut (03 R54). -/
structure StateCmd where
  ref : CmdRef
  mask : Nat
deriving DecidableEq, Repr

/-- DEV_STATE and the lit set (03 R50, R51, R54, R56), and the audit bookkeeping of 01 R25, R26. -/
structure Dev where
  state : DevState := .pasteurise
  prev : Nat := 0
  cause : Nat := 0
  stateCmd : Option StateCmd := none
  litSet : BitVec 16 := 0
  /-- The audits have started: a first cut has passed with a Deal in force (01 R26). -/
  auditOn : Bool := false
  /-- Ledgers reported broken and not re-armed: (count 0-4, index) (01 R25). -/
  reported : List (Nat × Nat) := []
deriving DecidableEq, Repr

/-- A DEAL_LOAD or REDEAL_GROUP whose image is still to be verified (02 R43, R45, R46). -/
structure DealJob where
  ref : CmdRef
  /-- `none` for DEAL_LOAD, the group for REDEAL_GROUP. -/
  group : Option Nat
  addr : Nat
  len : Nat
deriving DecidableEq, Repr

/-- A verified re-deal waiting for its cut C (02 R47) or, taken, for the tick after it. -/
structure Redeal where
  ref : CmdRef
  group : Nat
  deal : Deal
  /-- Lamp time of the end of verification; C is the first cut at least 1 ms later. -/
  verified : Nat
  /-- Set at C: the command completes OK at the next tick. -/
  taken : Bool
  /-- In a locked pair, the partner's image is verified too and C is named (14 R334). -/
  paired : Bool
deriving DecidableEq, Repr

/-- The Deal store (02) and what the PWR block keeps of it (17 R388, R389). -/
structure DealStore where
  inForce : Option Deal := none
  source : Nat := 0
  lastResult : Nat := 0
  jobs : List DealJob := []
  redeal : Option Redeal := none
  /-- No Deal has come into force since power-on (17 R389). -/
  firstPending : Bool := true
  /-- Chip-private ranges for the next PASTEURISE, kept by PWR (17 R388): base and size. -/
  privateRanges : List (Nat × Nat) := []
deriving DecidableEq, Repr

/-- A running SURFACE_COPY_IN (06 R135). -/
structure CopyJob where
  ref : CmdRef
  src : Nat
  dst : Nat
  len : Nat
  since : Nat
deriving DecidableEq, Repr

/-- A SYNC whose summary is still to be written (03 R75). -/
structure SyncJob where
  ref : CmdRef
  addr : Nat
  summary : Bytes
  rearm : Bool
  lampLow : Nat
deriving DecidableEq, Repr

/-- A running DUMP_FETCH (17 R401). -/
structure FetchJob where
  ref : CmdRef
  dst : Nat
  off : Nat
  len : Nat
deriving DecidableEq, Repr

/-- A check-value unit's scan (17 R402). -/
structure ScanJob where
  ref : CmdRef
  alg : Nat
  start : Nat
  len : Nat
deriving DecidableEq, Repr

/-- A running FW_STAGE (17 R396). -/
structure StageJob where
  ref : CmdRef
  slot : Nat
  version : Nat
  secVer : Nat
deriving DecidableEq, Repr

/-- A held FW_SWITCH (17 R397). -/
structure SwitchJob where
  ref : CmdRef
  slot : Nat
  prevActive : Nat
  since : Nat
  /-- The status the command completes with once the previous firmware is back. -/
  failed : Option Status
deriving DecidableEq, Repr

/-- A fuse operation of an authorisation (17 R392): KIND, SLOT, COUNT, HASH. -/
structure FuseOp where
  kind : Nat
  slot : Nat
  count : Nat
  hash : Nat
deriving DecidableEq, Repr

/-- An accepted LIFECYCLE_ADVANCE (17 R393). `begun`: the firmware has it, and it is carried to its end (12 R295). -/
structure FuseJob where
  ref : CmdRef
  target : Nat
  ops : List FuseOp
  begun : Bool
deriving DecidableEq, Repr

/-- The Dealer's own state (03) beside the rings. -/
structure Dealer where
  /-- Number of commands checked so far (MODEL, log 2). -/
  nextId : Nat := 0
  /-- The ring served last (R74). -/
  last : Option RingId := none
  copies : List CopyJob := []
  syncs : List SyncJob := []
  fetches : List FetchJob := []
  scans : Vector (Option ScanJob) 2 := Vector.replicate 2 none
deriving DecidableEq, Repr

/-! ## Timing (04) -/

/-- The SYNC_IN follower of 04 R83. -/
structure Lock where
  /-- 0 SEEK, 1 CAPTURED, 2 LOCKED. -/
  state : Nat := 0
  lastEdge : Option Nat := none
  validRun : Nat := 0
  /-- Measured interval between the last two valid edges, divided by DIV. -/
  measured : Nat := 0
  /-- Valid edges in a row with |e| at most 100 counts. -/
  inWindow : Nat := 0
  /-- Last phase error e. -/
  err : Int := 0
  /-- Phase error still to be removed, at most 200 counts a frame. -/
  remaining : Int := 0
deriving DecidableEq, Repr

/-- An accepted TIMING_SET (04 R89, R90). -/
structure Retime where
  /-- Its command; `none` once a device reset has ended it while the decided change goes on (R93). -/
  ref : Option CmdRef
  rate : Nat
  src : Nat
  /-- Frame k of R90, set at the cut before tick k. -/
  frameK : Option Nat
  noticed : BitVec 16
  acked : BitVec 16
  /-- `some true` once CUT(k) decides to proceed, `some false` once it abandons. -/
  decided : Option Bool
deriving DecidableEq, Repr

/-- The timing generator (04). -/
structure Timing where
  /-- A frame tick has been placed since the device left OFF (R79). -/
  started : Bool := false
  rate : Nat := 2
  syncSrc : Bool := false
  epoch : Nat := 0
  /-- Frames since the epoch, m of R78. -/
  m : Nat := 0
  frame : Nat := 0
  lastTick : Nat := 0
  /-- Length of the present frame as placed (TICK_PERIOD). -/
  period : Nat := 416666
  sample : Nat := 0
  nextSample : Nat := 0
  pastCut : Bool := false
  fenced : Bool := false
  pastHorizon : Bool := false
  sampleCnt : Nat := 0
  cutCnt : Nat := 0
  lock : Lock := {}
  retime : Option Retime := none
  /-- End of the re-phase window of R92, and the rate before it (07 R157). -/
  rephaseEnd : Option Nat := none
  oldRate : Nat := 2
  lastResult : Nat := 0
  nackMask : Nat := 0
  /-- A Deal's DEFAULT_RATE is to be taken at the next cut (R88). -/
  takeUp : Bool := false
  lampHi : Nat := 0
  lastHi : Nat := 0
  /-- A time-stamp reply is pending until this lamp time (R87). -/
  tsBusyUntil : Nat := 0
  syncOut : Bool := false
  /-- TICK_SYNC_IN_OFS in force, clamped at the cut that copied it (R94). -/
  syncOfs : Int := 0
  /-- Lamp time at which SYNC_OUT last rose. -/
  syncOutAt : Nat := 0
  /-- Losses of lock (R83). -/
  lossCount : Nat := 0
deriving DecidableEq, Repr

/-! ## Faults and partner (14) -/

/-- The reaction timer (14 R320): start and length in ms. -/
structure ReactTimer where
  start : Nat
  ms : Nat
deriving DecidableEq, Repr

/-- The first-error latch (14 R319). -/
structure FirstErr where
  input : Nat
  cls : Nat
  detail : Nat
  broken : Bool
  injected : Bool
  time : Nat
  overflow : Bool
deriving DecidableEq, Repr

/-- The fault collector (14 R315 to R324, R340). -/
structure Faults where
  pend : BitVec 128 := 0
  /-- Pending bits set by a raise that was not injected (R320). -/
  real : BitVec 128 := 0
  broken : BitVec 128 := 0
  /-- When each broken pair last read invalid, by input (R316). -/
  brokenAt : List (Nat × Nat) := []
  first : Option FirstErr := none
  timeHi : Nat := 0
  cntC : Nat := 0
  cntD : Nat := 0
  timer : Option ReactTimer := none
  expired : Bool := false
  /-- Groups local in SAFE_LIGHT, groups that become local at the next frame tick, and the groups that are local in the
  present frame (R324). -/
  localGroups : BitVec 4 := 0
  localNext : BitVec 4 := 0
  localFrame : BitVec 4 := 0
  /-- Entries made at the end of the present command: to SAFE_LIGHT with a cause, to FATAL with a cause (MODEL, log 39). -/
  safeDue : Option Nat := none
  fatalDue : Option Nat := none
  /-- FAULT is signalled on the pins (R322). -/
  pinFault : Bool := true
deriving DecidableEq, Repr

/-- A composed line that the secondary of a locked pair holds until the primary's plan and digest for it have come
(14 R331, R332). -/
structure HeldLine where
  tile : TileId
  frame : Nat
  line : Nat
  /-- Its own digest and PIXELS parcels: ADDR and payload; and its fired probes. -/
  own : Option (Nat × List (Nat × Bytes)) := none
  fired : List (Nat × Nat) := []
  peer : Option Nat := none
  /-- The plan's SEQ of each ADDR. -/
  plan : List (Nat × Nat) := []
  /-- ADDRs whose parcels the tile has acknowledged from the primary's lane. -/
  acked : List Nat := []
  /-- The digests differ: the line is divergent. -/
  divergent : Bool := false
deriving DecidableEq, Repr

/-- What the primary sends at a cut for a tile (14 R333): probe schedule, class list, pot scale and debt. -/
structure PeerCut where
  tile : TileId
  sched : List (Nat × Nat)
  classes : List ((Nat × Nat) × Nat)
  scale : Nat
  debt : Nat
deriving DecidableEq, Repr

/-- The partner block (14 R328 to R341). -/
structure Partner where
  /-- 0 SOLO, 1 JOINING, 2 LOCKED, 3 ALONE, 4 RELEASED. -/
  state : Nat := 0
  laneLock : BitVec 2 := 0
  fromPartner : Bool := false
  missing : Bool := false
  join : Option (CmdRef × Nat) := none
  /-- Join steps done: 1 link, 2 identity, 3 lit sets, 4 timing taken, 5 lit set adopted. -/
  joinStep : Nat := 0
  peer : Option PeerInfo := none
  /-- The lit set and state to adopt at the next cut (R329 step 4). -/
  adopt : Option (BitVec 16 × Nat) := none
  /-- Tiles the partner has admitted on its own lane, and those this chip had admitted at the last frame tick. -/
  peerAdmitted : BitVec 16 := 0
  ownAdmitted : BitVec 16 := 0
  /-- This chip is the adopting one of the join, and has adopted: it admits every declared tile (R329 step 5). -/
  adopted : Bool := false
  leave : Option CmdRef := none
  /-- Frames since DEALT without lock, for PTN_NOT_FOUND; `none` once found or reported (R328). -/
  waitFrames : Option Nat := none
  delay : Nat := 0
  /-- PTN_DELAY.OFFSET as a 16-bit pattern: a free value within 2 counts (R333, log 61). -/
  offset : Nat := 0
  divergeLines : Nat := 0
  /-- Tile of the first divergent line of the frame (R332). -/
  divergeTile : Option Nat := none
  takeovers : Nat := 0
  laneErrFrames : Nat := 0
  /-- Transmit lanes turned off (R336, R337). -/
  lanesOff : Bool := false
  held : List HeldLine := []
  /-- The primary's values for the next frame, and its tile outputs, by code (R333). -/
  cuts : List PeerCut := []
  outs : List (Nat × Int) := []
  /-- Commands of the primary to be carried out here (R334). -/
  cmds : List (Nat × Cmd) := []
  /-- The partner's verified image for a re-deal: group and digest; the lamp time this chip's was verified. -/
  redealReady : Option (Nat × Nat) := none
  /-- Frame whose cut is C, as the primary named it. -/
  redealCut : Option Nat := none
  /-- The partner hands over its ports at the next frame tick (R337). -/
  leaveDue : Bool := false
  /-- The timing to take at the coming frame tick (R329 step 4). -/
  timing : Option PeerTick := none
deriving DecidableEq, Repr

/-! ## Interrupts and event queues (15) -/

/-- An event record before it is written (15 R344). -/
structure Event where
  type : Nat
  src : Nat
  frame : Nat
  sub : Nat
  time : Nat
  payload : Bytes
deriving DecidableEq, Repr

/-- A record in event staging (15 R348, R352, R357). -/
structure StagedRec where
  ev : Event
  /-- The hand it is routed to, if it is. -/
  hand : Option Nat
  /-- It holds an entry of the RETIRE reserve. -/
  reserve : Bool
  /-- It was counted against FREE when it landed in D3hot (R357). -/
  slot : Bool
deriving DecidableEq, Repr

/-- An open coalescing window (15 R346); `left` is the frozen remainder in D3hot (R357). -/
structure Window where
  src : Nat
  hand : Nat
  count : Nat
  closesAt : Nat
  left : Option Nat
deriving DecidableEq, Repr

/-- A hold-off of a privileged group towards a hand (15 R347). -/
structure Holdoff where
  group : Nat
  hand : Nat
  endsAt : Nat
  left : Option Nat
  /-- Sources whose records arrived during the hold-off. -/
  waiting : List Nat
deriving DecidableEq, Repr

/-- A core hand (15 R349, R350). -/
structure CoreHand where
  pend : BitVec 384 := 0
  /-- Claims not completed, newest first: source and priority. -/
  stack : List (Nat × Nat) := []
  selected : Nat := 0
  completeErr : Bool := false
deriving DecidableEq, Repr

/-- An event queue or core ring (15 R351 to R353, R359). -/
structure Evq where
  prod : Nat := 0
  cons : Nat := 0
  free : Nat := 0
  armed : Bool := false
  notifyPend : Bool := false
  stalled : Bool := false
  consErr : Bool := false
  writeErr : Bool := false
  lost : Bool := false
  lostBefore : Bool := false
deriving DecidableEq, Repr

/-- The interrupt controller (15). -/
structure Intc where
  windows : List Window := []
  /-- Hand of each source's last window or record (R346): source and hand. -/
  lastHand : List (Nat × Nat) := []
  holdoffs : List Holdoff := []
  cores : Vector CoreHand 2 := Vector.replicate 2 {}
  queues : Vector Evq 8 := Vector.replicate 8 {}
  staging : List StagedRec := []
  discarded : Nat := 0
  lost : Nat := 0
  /-- Staging has been below 2,048 since it last exceeded 3,072 (R348). -/
  lowWater : Bool := true
  /-- Queues whose ledger is to be audited at the end of the present command (01 R24). -/
  auditDue : List Nat := []
deriving DecidableEq, Repr

/-! ## Host, feed, memory (16) -/

/-- An MSI-X table entry (16 R361, R364; layout PRESUMED from PCI Express, log 8). -/
structure MsixEntry where
  addrLo : Word := 0
  addrHi : Word := 0
  data : Word := 0
  control : Word := 1
deriving DecidableEq, Repr

/-- The host port (16 R360 to R365). -/
structure HostPort where
  linkUp : Bool := false
  speed : Nat := 0
  width : Nat := 0
  bme : Bool := false
  d3hot : Bool := false
  inL1 : Bool := false
  linkDownCnt : Nat := 0
  pmeEn : Bool := false
  pmeStatus : Bool := false
  msix : Vector MsixEntry 16 := Vector.replicate 16 {}
  pba : BitVec 16 := 0
deriving DecidableEq, Repr

/-- The feed port (16 R366 to R374, R383). -/
structure Feed where
  /-- 0 DOWN, 1 ALIGNING, 2 UP. -/
  state : Nat := 1
  blockLock : BitVec 4 := 0
  markerLock : BitVec 4 := 0
  skew : Nat := 0
  /-- CRC and format discards since the previous FEED_STATUS (R373). -/
  errors : Nat := 0
  /-- The port left UP in this frame: the first lane that lost lock (R374). -/
  leftUp : Option Nat := none
  /-- A packet was discarded for CRC or format in this frame (R374). -/
  badPacket : Bool := false
deriving DecidableEq, Repr

/-- The memory controller and its firewall (16 R375 to R379, R384). -/
structure MemCtl where
  trained : Bool := false
  rate : Nat := 0
  ranks : Nat := 0
  sizeGib : Nat := 0
  /-- In self-refresh since this lamp time. -/
  srSince : Option Nat := none
  srCounts : Nat := 0
  minTol : Nat := 0
  srEntries : Nat := 0
  eccCorr : Nat := 0
  eccUncorr : Nat := 0
  eccLast : Nat := 0
  eccReq : Nat := 0
  viol : Bool := false
  violSrc : Nat := 0
  violPart : Nat := 0
  violAddr : Nat := 0
  denials : Nat := 0
  /-- A denial fell in this frame (R379). -/
  deniedInFrame : Bool := false
  scrubPasses : Nat := 0
  /-- Refresh multipliers in force, one per device (R375). -/
  refresh : List Nat := []
deriving DecidableEq, Repr

/-! ## Power, reset, life cycle, firmware (17) -/

/-- A key slot in eFuse (17 R391, R392). -/
structure KeySlot where
  hash : Option Nat := none
  revoked : Bool := false
deriving DecidableEq, Repr

/-- The programmable eFuse content (17 R391 to R393). -/
structure Efuse where
  lifecycle : Nat := 0
  keys : Vector KeySlot 4 := Vector.replicate 4 {}
  dealRb : Nat := 0
  fwRb : Nat := 0
deriving DecidableEq, Repr

/-- A firmware slot of the boot flash as last judged (17 R394, R396). -/
structure FwSlot where
  valid : Bool := false
  version : Nat := 0
  secVer : Nat := 0
deriving DecidableEq, Repr

/-- Power domains, resets, life cycle, firmware and dump (17). -/
structure Power where
  /-- READY bits (R386). -/
  ready : BitVec 15 := 0
  resetKind : Nat := 0
  resetCount : Nat := 0
  pasteStart : Nat := 0
  lastMs : Nat := 0
  /-- eFuse as programmed, and as read at the last reset (R393). -/
  efuse : Efuse := {}
  efuseShown : Efuse := {}
  /-- LIFECYCLE_ADVANCE commands accepted, the one being programmed first. -/
  fuseJobs : List FuseJob := []
  slots : Vector FwSlot 2 := Vector.replicate 2 {}
  /-- Slots that an FW_STAGE has marked not valid in the boot flash and not made valid again (R396). -/
  marked : BitVec 2 := 0
  active : Nat := 0
  /-- No core start has happened since power-on (R395). -/
  firstStart : Bool := true
  /-- The slot the boot ROM started last, if any. -/
  started : Option Nat := none
  /-- A core start is due, and the slot it is to start where FW_SWITCH or the absence limit names one. -/
  startDue : Bool := true
  nextSlot : Option Nat := none
  absent : Bool := true
  absentSince : Nat := 0
  lastAbsentMs : Nat := 0
  /-- VERSION of the firmware that the boot ROM has started. -/
  version : Nat := 0
  stage : Option StageJob := none
  switch : Option SwitchJob := none
  wdogSince : Nat := 0
  dumpDone : Bool := false
  dumpNone : Bool := false
  dumpSince : Nat := 0
  /-- Lamp time, frame, state and FLT_FIRST at the entry to FATAL (R400). -/
  fatalAt : Option (Nat × Nat × Nat × Nat × Nat) := none
  dumpSize : Nat := 0
  refOk : Bool := true
  churnLock : Bool := false
  fabricLock : Bool := false
  /-- Commands held by the firmware that its restart aborts (03 R55). -/
  abortAtAlive : List CmdRef := []
deriving DecidableEq, Repr

/-- States of the test access port's controller (19 R427; IEEE 1149.1, PRESUMED, log 87). -/
inductive TapCtl where
  | testLogicReset | runTestIdle
  | selectDr | captureDr | shiftDr | exit1Dr | pauseDr | exit2Dr | updateDr
  | selectIr | captureIr | shiftIr | exit1Ir | pauseIr | exit2Ir | updateIr
deriving DecidableEq, Repr

/-- Instructions of the test access port (19 R427). -/
inductive TapInstr where
  | bypass | idcode | samplePreload | extest | clamp | highz
deriving DecidableEq, Repr

/-- The test access port (19 R427). -/
structure Tap where
  /-- VDD_AON, VDD_CORE and VDD_IO are within their limits. -/
  on : Bool := true
  ctl : TapCtl := .testLogicReset
  instr : TapInstr := .idcode
  /-- Shift stages of the instruction register and of the selected data register, the one nearest JTAG_TDO first. -/
  ir : List Bool := []
  dr : List Bool := []
  /-- Boundary register cells as last updated. -/
  cells : List Bool := []
deriving DecidableEq, Repr

/-- Pins (03 R50, 04 R85, 16 R381, 17). -/
structure Pins where
  rstN : Bool := true
  pwrOk : Bool := true
  straps : BitVec 2 := 0
  /-- The drivers of FAULT_P and FAULT_N are on (14 R322). -/
  driven : Bool := true
  tap : Tap := {}
deriving DecidableEq, Repr

/-! ## Layers and surfaces (05, 06) -/

/-- A surface header as captured at a commit (05 R102, 06 R127). -/
structure SurfHdr where
  format : Nat
  fullRange : Bool
  matrix601 : Bool
  width : Nat
  height : Nat
  data0 : Nat
  pitch0 : Nat
  data1 : Nat
  pitch1 : Nat
  size : Nat
deriving DecidableEq, Repr

/-- A layer: what a commit sets (05 R102, R104). -/
structure Layer where
  ring : RingId
  tag : Nat
  surface : Nat
  gen : Nat
  hdr : SurfHdr
  blend : Nat
  x : Int
  y : Int
  alpha : Nat
  /-- Size of the rectangle (R101). -/
  w : Nat
  h : Nat
  /-- Suppressed in at least one frame (R110 STALE_SEEN), and number of such frames (R126). -/
  staleSeen : Bool := false
  staleFrames : Nat := 0
  /-- The last header pass of the layer found a mismatch (R113). -/
  staleRun : Bool := false
deriving DecidableEq, Repr

/-- A pending slot operation (05 R103, R104). -/
structure SlotOp where
  ref : CmdRef
  /-- The layer of a LAYER_COMMIT; `none` for LAYER_DISABLE. -/
  layer : Option Layer
  orderPos : Nat
  fenceAddr : Nat
  fenceVal : Nat
  /-- Cuts at which the fence was not reached. -/
  cuts : Nat
  /-- Word read at the cut fence before the coming cut; `none` before that fence,
  `some none` where the read was uncorrectable (R105). -/
  fenceRead : Option (Option Nat)
deriving DecidableEq, Repr

/-- A trump set in the trump page store (05 R117 to R121). -/
structure TrumpSet where
  seq : Nat
  pageCount : Nat
  image : Bytes
deriving DecidableEq, Repr

/-- A churn (05). -/
structure Churn where
  /-- Slots at positions 1 to 7 (R98). -/
  order : List Nat := [1, 2, 3, 4, 5, 6, 7]
  layers : Vector (Option Layer) 8 := Vector.replicate 8 none
  ops : Vector (Option SlotOp) 8 := Vector.replicate 8 none
  trump : Option TrumpSet := none
  staged : Option TrumpSet := none
  page : Nat := 0
  /-- PAGE_FAILED, and the withdrawal from the next cut (R124). -/
  pageFailed : Bool := false
  withdrawn : Bool := false
  /-- A line of the page in force decoded wrong in this frame (R124). -/
  pageBad : Bool := false
  composing : Bool := false
  line : Option Nat := none
  /-- Slots suppressed as stale, and slots whose header read uncorrectable, in this frame (R113). -/
  suppressed : BitVec 8 := 0
  headerEcc : BitVec 8 := 0
  /-- STALE_SURFACE payloads of the frame, posted at its cut (R96, R113). -/
  staleDue : List Bytes := []
  /-- REPEAT lines of the frame: count, first, last, causes, slots (R116). -/
  repCount : Nat := 0
  repFirst : Nat := 0
  repLast : Nat := 0
  repCause : Nat := 0
  repSlots : Nat := 0
  /-- Lines not begun are sent as REPEAT with no cause (14 R323). -/
  drained : Bool := false
deriving DecidableEq, Repr

/-- A pending TRUMP_SELECT (05 R122). -/
structure TrumpSel where
  ref : CmdRef
  mask : Nat
  page : Nat
deriving DecidableEq, Repr

/-- A scaler's two contexts: the churn and slot that claim each (06 R137, R145). -/
structure Scaler where
  users : List (Option (Nat × Nat)) := [none, none]
deriving DecidableEq, Repr

/-! ## Skim (07) -/

/-- An object record (07 R150, R151). `shape` holds the values of bytes 40-63. -/
structure SkimRecord where
  kind : Nat
  hard : Bool
  fixed : Bool
  atten : Nat
  margin : Nat
  soft : Nat
  t0 : Nat
  az : Int
  el : Int
  vAz : Int
  vEl : Int
  aAz : Int
  aEl : Int
  priority : Nat
  rot : Nat
  shape : List Int
deriving DecidableEq, Repr

/-- A valid object list (07 R152). -/
structure SkimList where
  seq : Nat
  records : List SkimRecord
deriving DecidableEq, Repr

/-- A list being assembled (07 R152); `bad`: discarded as invalid, further packets of its number are dropped. -/
structure SkimAsm where
  seq : Nat
  parts : Nat
  count : Nat
  bad : Bool
  got : List (Nat × Bytes)
deriving DecidableEq, Repr

/-- A floor zone (07 R163). -/
structure SkimZone where
  enable : Bool
  mask : Nat
  floor : Nat
  verts : List (Int × Int)
deriving DecidableEq, Repr

/-- An object as set up on a tile: its hulls in sixteenths of a pixel (07 R161, R162). -/
structure SkimObj where
  hulls : List (List (Int × Int))
  margin : Nat
  soft : Nat
  atten : Nat
  hard : Bool
  priority : Nat
deriving DecidableEq, Repr

/-- A tile's part of a setup (07 R146, R154, R159, R166). -/
structure SkimTile where
  /-- TILE_EN of the tile. -/
  en : Bool := false
  /-- The blind band acts, in BLIND or on an unmapped tile: its multiplier, top and bottom line. -/
  band : Option (Nat × Nat × Nat) := none
  objs : List SkimObj := []
  /-- Zone hulls with their floor levels. -/
  zones : List (List (Int × Int) × Nat) := []
  merged : Bool := false
  outOfField : Bool := false
  unmapped : Bool := false
deriving DecidableEq, Repr

/-- A setup: the first frame it serves, how many, and its tiles (07 R167, R168). -/
structure SkimSetup where
  frame : Nat
  frames : Nat
  begun : Nat
  done : Bool
  abandoned : Bool
  tiles : Vector SkimTile 16
deriving DecidableEq, Repr

/-- A pending SKIM_MAINT_WINDOW (07 R169). -/
structure MaintCmd where
  ref : CmdRef
  mask : Nat
  seconds : Nat
deriving DecidableEq, Repr

/-- The skim engine (07). -/
structure Skim where
  asm : Option SkimAsm := none
  /-- Valid lists completed since the last cut that considered lists (R153). -/
  done : List SkimList := []
  list : Option SkimList := none
  age : Nat := 0
  blind : Bool := true
  zones : List SkimZone := []
  staged : Option (CmdRef × List SkimZone) := none
  /-- Lamp time until which an accepted SKIM_ZONES_SET still reads its table (R170). -/
  readUntil : Nat := 0
  setup : Option SkimSetup := none
  /-- The setup before it, which serves the present frame until its tick. -/
  prev : Option SkimSetup := none
  held : Bool := false
  level : Nat := 0
  maint : List MaintCmd := []
  maintEnd : Vector (Option Nat) 16 := Vector.replicate 16 none
  /-- Tiles with a line sent as REPEAT with cause MASK in the frame (R171). -/
  maskRepeat : BitVec 16 := 0
deriving DecidableEq, Repr

/-! ## Photometric stage and pot (08) -/

/-- A calibration table (06 R134): where it lies and what its header said when it was checked. -/
structure CalTable where
  addr : Nat
  len : Nat
  dshift : Nat
  check : Nat
deriving DecidableEq, Repr

/-- A TILE_CAL_LOAD to DRAM in progress (08 R183, R184). -/
structure CalJob where
  ref : CmdRef
  addr : Nat
  len : Nat
  /-- The table, once its checks have completed. -/
  table : Option CalTable
  /-- Entry step j; 0 before its first cut. -/
  step : Nat
  /-- After the last cut of the entry the device was LIT or HOLD; the tile was to compose; one of these had ended at it. -/
  wasLit : Bool
  wasIn : Bool := false
  left : Bool := false
deriving DecidableEq, Repr

/-- The four sums of a line or a frame: Q_in, Q_out, C_n and C_t (08 R177). -/
structure Sums where
  qin : Nat := 0
  qout : Nat := 0
  cn : Nat := 0
  ct : Nat := 0
deriving DecidableEq, Repr

/-- A pot ledger (08 R181). -/
structure PotLedger where
  granted : Nat := 0
  consumed : Nat := 0
  trump : Nat := 0
  unspent : Int := 0
deriving DecidableEq, Repr

/-- A pixel: column and line in composition coordinates. -/
abbrev Pixel := Nat × Nat

/-- The photometric stage of a churn and its pot (08). -/
structure Phot where
  scale : Nat := 65536
  debt : Nat := 0
  /-- Grant of the frame in composition, g_n. -/
  grant : Nat := 0
  /-- The tile composes the present frame (R175). -/
  inPot : Bool := false
  sums : Sums := {}
  /-- Sums of each line's last composed version (R180), by line. -/
  lines : List (Nat × Sums) := []
  ledger : PotLedger := {}
  /-- Consecutive cuts in debt, and the persistence already raised (R179). -/
  debtCuts : Nat := 0
  persisted : Bool := false
  atZero : Bool := false
  /-- Grant, C_n, C_t and D_n of the last closed frame. -/
  last : Nat × Nat × Nat × Nat := (0, 0, 0, 0)
  cal : Option CalTable := none
  calJob : Option CalJob := none
  calStep : Nat := 0
  /-- A calibration read of this frame was uncorrectable, or streamed bytes were wrong (R185). -/
  calBad : Bool := false
  calWrong : Bool := false
  /-- Class exceptions and probe schedule latched for the present frame (R174, R189). -/
  classes : List (Pixel × Nat) := []
  sched : List Pixel := []
  /-- Probes fired in the present frame. -/
  fired : List Pixel := []
  /-- Charge of the present frame booked at the horizon (R190). -/
  frameCharge : Nat := 0
  added : Nat := 0
  subtracted : Nat := 0
  scheduled : Nat := 0
  firedLast : Nat := 0
  cancelled : Nat := 0
  cancelledLast : Nat := 0
  /-- Upper words that reads of POT_LEDGER and PROBE_LEDGER latched (R191). -/
  potHi : List Nat := []
  probeHi : List Nat := []
deriving DecidableEq, Repr

/-- The chip-wide pot (08 R175, R179, R192). -/
structure ChipPot where
  debt : Nat := 0
  factor : Nat := 65536
  ledger : PotLedger := {}
  /-- Upper words that reads of DEV_POT_LEDGER latched (R192). -/
  hi : List Nat := []
deriving DecidableEq, Repr

/-! ## Tile link: the chip's ports and the tile ends (09) -/

/-- A parcel the port tracks (09 R210 to R212). -/
structure Track where
  parcel : Parcel
  /-- Frame whose content it carries. -/
  frame : Nat
  /-- Line it belongs to; `none` for a parcel of no line. -/
  line : Option Nat
  /-- Copies sent: lane and position on it since its last reported lock; 65,536 is added to those of an earlier lock (R210). -/
  copies : List (TxLane × Nat) := []
  /-- Lane and lamp time of the latest send. -/
  lane : TxLane := .a
  sentAt : Nat := 0
  acked : Bool := false
  failed : Bool := false
  /-- Lanes on which a copy is due beside the first send: resends, and first copies of a CLOSE. -/
  due : List TxLane := []
  /-- Its line waits in the spill region (R195). -/
  spilled : Bool := false
deriving DecidableEq, Repr

/-- A running admission (09 R223); `ref` is absent where a re-deal started it. `acked`: ADMIT_ACK has come. -/
structure Admission where
  ref : Option CmdRef
  since : Nat
  acked : Bool
deriving DecidableEq, Repr

/-- A running retirement (09 R224): stage 0 before its cut, 1 DARK CLOSE to be sent, 2 and 3 RETIRE sent, 4 RETIRE_ACK has
come and parcels are still unacknowledged. -/
structure Retirement where
  ref : Option CmdRef
  stage : Nat
  /-- Frames since it began. -/
  frames : Nat
  /-- A re-deal admits the tile again afterwards (02 R47). -/
  readmit : Bool
deriving DecidableEq, Repr

/-- A TILE_CAL_LOAD to the tile's flash (09 R228). -/
structure FlashJob where
  ref : CmdRef
  addr : Nat
  len : Nat
  /-- Chunks queued so far; the commit goes after the last. -/
  queued : Nat
  committed : Option Nat
deriving DecidableEq, Repr

/-- A TILE_CAL_READ (09 R228). -/
structure ReadJob where
  ref : CmdRef
  addr : Nat
  len : Nat
  /-- Start and end of the request outstanding, and how often it has been made. -/
  at0 : Nat
  upTo : Nat
  tries : Nat
  /-- Offsets of the 48-byte bodies received; one came in this frame (MODEL, log 19). -/
  got : List Nat
  fresh : Bool
deriving DecidableEq, Repr

/-- A LINK_TEST (09 R230); on the secondary of a locked pair it has no command of its own (14 R334). -/
structure LinkTest where
  ref : Option CmdRef
  mask : Nat
  frames : Nat
  /-- Tested lanes carry the sequence since a tick. -/
  running : Bool
  left : Nat
  errors : Nat
  /-- Tested transmit lanes whose result has not come, as a mask; bit 2 the return lane. -/
  wait : Nat
deriving DecidableEq, Repr

/-- A tile port at the chip (09). -/
structure Port where
  /-- 0 ABSENT, 1 TRAINING, 2 ADMITTED, 3 LIT, 4 HELD, 5 FALLBACK, 6 RETIRED. -/
  state : Nat := 0
  lockA : Bool := false
  lockB : Bool := false
  retLock : Bool := false
  /-- Lane power states: 0 LS0, 1 LS1, 2 LS2. -/
  pwrA : Nat := 0
  pwrB : Nat := 0
  pwrRet : Nat := 0
  blind : Bool := false
  /-- Blind operation ends, or parked credits return, at the next frame tick (R221). -/
  leaveBlind : Bool := false
  unparkA : Bool := false
  unparkB : Bool := false
  unlockedFrames : Nat := 0
  /-- Frames without any lane locked, for MISSING (02 R48). -/
  missingFrames : Nat := 0
  missed : Bool := false
  /-- Frames since the last identity check (R222). -/
  identFrames : Nat := 0
  credA : Nat := 0
  credB : Nat := 0
  kitty : Nat := 0
  parkA : Nat := 0
  parkB : Nat := 0
  inA : Nat := 0
  inB : Nat := 0
  inKA : Nat := 0
  inKB : Nat := 0
  tileHeld : Nat := 144
  relA : Nat := 0
  relB : Nat := 0
  relK : Nat := 0
  nextSeq : Nat := 0
  lastNew : TxLane := .b
  /-- Copies sent on each lane since the lock the tile last reported. -/
  txA : Nat := 0
  txB : Nat := 0
  /-- Parcels to send or sent and not given up, oldest first. -/
  tracks : List Track := []
  /-- Lines of the present frame that the churn has composed or sent as REPEAT. -/
  composedTo : Nat := 0
  /-- The tile was in the lit set at the frame tick: its CLOSE of the present frame is owed (R212, R434). -/
  frameLit : Bool := false
  closeSent : Bool := false
  closeAcked : Bool := false
  /-- Lines delivered, as decided at the horizon. -/
  map : List Nat := []
  /-- Lanes with NAK, runt or timeout, and lanes lost, in the frame: bit 0 A, 1 B, 2 return. -/
  errLanes : BitVec 3 := 0
  lostLanes : BitVec 3 := 0
  resends : Nat := 0
  failedCnt : Nat := 0
  linkRepeat : Nat := 0
  firstRepeat : Nat := 0
  spilled : Nat := 0
  enteredHeld : Bool := false
  enteredFallback : Bool := false
  lastResends : Nat := 0
  lastRepeat : Nat := 0
  lastCloseAcked : Bool := false
  lastFailed : Nat := 0
  ident : Option IdentBody := none
  status : Option StatusBody := none
  sensor : Option SensorBody := none
  lastRseq : Option Nat := none
  /-- Lamp time of the latest return record or lock: the return lane is in LS1 from 20 µs after it (R229). -/
  retAt : Nat := 0
  /-- The tile's CRC_A and CRC_B as counted in TL_CRC so far; `none` until a STATUS has given them (R227, R232, log 93). -/
  crcSeenA : Option Nat := none
  crcSeenB : Option Nat := none
  /-- EVENT_IDs acted on, newest first. -/
  events : List Nat := []
  admission : Option Admission := none
  retirement : Option Retirement := none
  /-- A re-deal admits the tile again once it is TRAINING (02 R47). -/
  readmit : Bool := false
  /-- SET value of the last fallback set sent. -/
  fallbackSet : Nat := 0
  flash : Option FlashJob := none
  read : Option ReadJob := none
  /-- TILE_CAL_READs of the tile that wait for that one, oldest first (MODEL, log 25). -/
  readWait : List ReadJob := []
  test : Option LinkTest := none
  /-- 0 no LS2, 1 entry sent, 2 in LS2. -/
  ls2 : Nat := 0
  /-- The port sends DARK CLOSE parcels until STATUS reports ADMITTED (R434). -/
  dark : Bool := false
deriving DecidableEq, Repr

/-- What the ADMIT parcel configured at a tile (09 R206). -/
structure TileCfg where
  width : Nat
  height : Nat
  mirrorX : Bool
  mirrorY : Bool
  phaseSlot : Nat
  holdFrames : Nat
  rate : Nat
  lane : Nat
  dealSeq : Nat
deriving DecidableEq, Repr

/-- A CLOSE as a tile holds it (09 R205). -/
structure CloseBody where
  map : Bytes
  iRef : Nat
  vHr : Nat
  rate : Nat
  dark : Bool
  showFallback : Bool
  lines : Nat
  frame : Nat
deriving DecidableEq, Repr

/-- A rate change at a tile (09 R218, 04 R91): a notice, its confirm, and the re-phase that runs until a lamp time. -/
structure TileRetime where
  newRate : Nat
  first : Nat
  confirmed : Bool
deriving DecidableEq, Repr

/-- A tile end (09, 10). -/
structure Tile where
  made : Option TileMaker := none
  /-- 0 unpowered, 1 TRAINING, 2 ADMITTED, 3 LIT, 4 HELD, 5 FALLBACK, 6 RETIRED. -/
  state : Nat := 0
  lockA : Bool := false
  lockB : Bool := false
  retOn : Bool := false
  /-- The first IDENT since TRAINING has been sent on output 0, and on output 1 (14 R330). -/
  identSent : Bool := false
  identSent2 : Bool := false
  /-- Transmit lanes on which the tile is admitted: bit 0 A, 1 B (14 R330). -/
  adm : BitVec 2 := 0
  cfg : Option TileCfg := none
  frame : Nat := 0
  lastTick : Nat := 0
  tickGap : Nat := 0
  /-- Lamp time and frame of the last TICK block, and whether the last tick was placed by the flywheel (R198). -/
  block : Option (Nat × Nat) := none
  flew : Bool := false
  retime : Option TileRetime := none
  /-- End of a re-phase (04 R91). -/
  rephaseEnd : Option Nat := none
  /-- Segments received for the frame being filled: line, segment, bytes. -/
  segs : List (Nat × Nat × Bytes) := []
  probes : List Pixel := []
  close : Option CloseBody := none
  /-- The frame waiting to be loaded: the same three, moved at the tick. -/
  dueSegs : List (Nat × Nat × Bytes) := []
  dueProbes : List Pixel := []
  dueClose : Option CloseBody := none
  swapDue : Bool := false
  /-- Latched lines: line and codes; an unlisted line is dark. -/
  latches : List (Nat × List Nat) := []
  pattern : Option Bytes := none
  patternSet : Nat := 0
  patternParts : List (Nat × Bytes) := []
  holdCount : Nat := 0
  /-- In TRAINING: the hold count runs on (R216, 17 R390). -/
  holdRuns : Bool := false
  iRef : Nat := 0
  vHr : Nat := 0
  /-- SEQs most recently received good, newest first, at most 512 (R213). -/
  window : List Nat := []
  relA : Nat := 0
  relB : Nat := 0
  relK : Nat := 0
  /-- REL_K of the second output, in a pair (14 R330). -/
  relK2 : Nat := 0
  /-- INDEX of the next SENSOR record (R227). -/
  sensorIndex : Nat := 0
  /-- Copies begun on each lane since it last locked (R210). -/
  rxA : Nat := 0
  rxB : Nat := 0
  crcA : Nat := 0
  crcB : Nat := 0
  dup : Nat := 0
  stale : Nat := 0
  shown : Nat := 0
  loaded : Nat := 0
  kept : Nat := 0
  fired : Nat := 0
  /-- Probes fired at the last swap: pixels measured by their probe in this period. -/
  probed : List Pixel := []
  mapMissing : Bool := false
  rseq : Nat := 0
  eventId : Nat := 0
  flash : Bytes := []
  flashIn : List (Nat × Bytes) := []
  /-- In LS2. -/
  ls2 : Bool := false
  /-- Lanes under test, bit 0 A, 1 B, 2 return, and ticks left; the test starts at the next tick. -/
  test : Option (Nat × Nat) := none
deriving DecidableEq, Repr

/-! ## Pixel diagnostics (10) -/

/-- An entry of the pending probe list (10 R242). -/
structure PendProbe where
  pix : Pixel
  vstamp : Nat
  suspect : Bool
  cancelled : Option Nat
deriving DecidableEq, Repr

/-- A measurement received for a lighting period (10 R237). -/
structure VfResult where
  period : Nat
  pix : Pixel
  probe : Bool
  code : Nat
deriving DecidableEq, Repr

/-- The diagnostics engine of a port (10). -/
structure Diag where
  ref : Nat := 0
  /-- REF is to be taken from the next SENSOR record (R238). -/
  refDue : Bool := false
  /-- Codes that qualify for REF in the pass: sum and count. -/
  passSum : Nat := 0
  passCount : Nat := 0
  results : List VfResult := []
  pend : List PendProbe := []
  counts : Vector Nat 8 := Vector.replicate 8 0
  /-- Dead pixels in the order of their classification (R246). -/
  dead : List (Pixel × Nat) := []
  classList : List (Pixel × Nat) := []
  /-- The last pass ended, and whether a visit has been made at all. -/
  pass : Nat := 0
  /-- An initialisation is to start at the next cut; visits left of the running one; its first frame. -/
  initDue : Bool := false
  initLeft : Nat := 0
  initFrame : Nat := 0
  initEnded : Bool := false
  fmapInit : Bool := false
  pendFlush : Bool := false
  /-- FMAP_OFS as last in force. -/
  ofs : Nat := 0
  bad : Bool := false
  lastPos : Nat := 0
  /-- Frame whose period's visit has been made. -/
  visited : Option Nat := none
  active : Bool := false
  newFaults : Nat := 0
  newUnverified : Nat := 0
  deferred : Nat := 0
  dropped : Nat := 0
  pendOvf : Bool := false
  classOvf : Bool := false
  /-- Bytes of a map that does not fit its partition, by pixel index (R248). -/
  shadow : List (Nat × Nat) := []
  /-- Bytes that probe results have changed and that the visit of their period is still to write, by pixel index (R248). -/
  unwritten : List (Nat × Nat) := []
  /-- PIXEL_FAULT records of the period. -/
  periodRecs : Nat := 0
deriving DecidableEq, Repr

/-! ## Control engine (11) -/

/-- A binary64 value `m * 2^e` (11 R263). -/
structure Dy where
  m : Int := 0
  e : Int := 0
deriving DecidableEq, Repr

/-- A control loop slot (11 R255 to R274). -/
structure LoopSt where
  /-- The loop has started (R255); a declared loop that has not starts at the next sample tick. -/
  started : Bool := false
  /-- 0 HOLD, 1 MANUAL, 2 CLOSED_0, 3 CLOSED_1. -/
  mode : Nat := 0
  /-- BANK: true is B. -/
  bankB : Bool := true
  /-- The valid images of banks A and B. -/
  imgA : Option Bytes := none
  imgB : Option Bytes := none
  /-- A LOOP_LOAD whose image has passed its checks. -/
  load : Option (CmdRef × Bytes) := none
  swap : Option CmdRef := none
  /-- A pending LOOP_MODE, its mode, and the lamp time of its acceptance. -/
  modeCmd : Option (CmdRef × Nat × Nat) := none
  xh : List Int := []
  z : List Int := []
  /-- The outputs as last written. -/
  vp : List Int := []
  r : Dy := {}
  vr : Dy := {}
  ar : Dy := {}
  rs : Int := 0
  /-- Residual counters, and inputs tripped (R262). -/
  resCnt : List Nat := [0, 0, 0, 0]
  tripped : List Bool := [false, false, false, false]
  /-- A hand-over to HOLD under RES_ACTION is due (R262). -/
  holdDue : Bool := false
  /-- Ticks left in the hand-over window, and the mode left (R266). -/
  left : Nat := 0
  outMode : Option Nat := none
  /-- Inputs stale at the last tick, as a mask; a STALE record has been posted (R257). -/
  stale : Nat := 0
  staleTold : Bool := false
deriving DecidableEq, Repr

/-- A trace channel (11 R277). -/
structure TraceCh where
  /-- Entries, sparse over zero. -/
  entries : List (Nat × Nat) := []
  wr : Nat := 0
  wrapped : Bool := false
  triggered : Bool := false
  stopped : Bool := false
  armed : Bool := false
  stopReq : Bool := false
  /-- Computations since arming or the trigger (MODEL). -/
  count : Nat := 0
  postLeft : Nat := 0
  trigIndex : Nat := 0
  trigFrame : Nat := 0
  trigSample : Nat := 0
deriving DecidableEq, Repr

/-- The control engine (11). -/
structure Ctl where
  loops : Vector LoopSt 64 := Vector.replicate 64 {}
  traces : Vector TraceCh 4 := Vector.replicate 4 {}
  /-- LOOP_SWAPs whose mask names no loop. -/
  emptySwaps : List CmdRef := []
  /-- Sample ticks since each port's newest SENSOR record, up to 8 (R257). -/
  sensorTicks : Vector Nat 16 := Vector.replicate 16 8
  /-- Placement of the previous sample tick. -/
  lastTick : Nat := 0
  sample : Nat := 0
  lastUs : Nat := 0
  div : Nat := 0
deriving DecidableEq, Repr

/-! ## Housekeeping, calibration and thermal monitor (12) -/

/-- A milk-round channel: newest corrected code, its round, and the lamp time of the conversion's end (R280). -/
structure MilkCh where
  code : Nat := 0
  round : Nat := 0
  conv : Option Nat := none
deriving DecidableEq, Repr

/-- A CAL_RUN that measures (R285): HK_CAL_TOL as read at acceptance, the round of run 1, and the values of run 1. -/
structure CalRun where
  ref : CmdRef
  items : Nat
  tol : Nat
  first : Nat
  run1 : Option (List Int)
  /-- The values of run 2; the decision is due. -/
  run2 : Option (List Int)
deriving DecidableEq, Repr

/-- An entry of trims (R287): round D, the items, and the tag its record carries. -/
structure TrimEntry where
  d : Nat
  items : Nat
  tag : Nat
deriving DecidableEq, Repr

/-- An item of calibration (R288, R297). -/
structure CalItem where
  count : Nat := 0
  last : Nat := 0xFFFFFFFF
  result : Nat := 0
  restored : Bool := false
deriving DecidableEq, Repr

/-- A die temperature sensor (R282). -/
structure TempSensor where
  temp : Int := 0
  valid : Bool := false
  /-- Its loss has been raised and it has not been valid since. -/
  told : Bool := false
deriving DecidableEq, Repr

/-- The thermal monitor (R282, R292, R293, R295). -/
structure Therm where
  sensors : Vector TempSensor 8 := Vector.replicate 8 {}
  /-- Evaluations made since reset. -/
  evals : Nat := 0
  hottest : Int := 0
  hotSensor : Nat := 0
  coldest : Int := 0
  /-- H of the last 64 evaluations, newest first. -/
  history : List Int := []
  rate : Int := 0
  warn : Bool := false
  warnCool : Nat := 0
  lT : Nat := 0
  cool : Nat := 0
  lR : Nat := 0
  calm : Nat := 0
  /-- RATE was above RISE_LIMIT at the previous evaluation. -/
  above : Bool := false
  loss : Bool := false
  level : Nat := 0
  /-- The level that takes effect 125 µs after the evaluation, with the lamp time of that. -/
  next : Option (Nat × Nat) := none
  tripTold : Bool := false
  overTold : Bool := false
  nvOpen : Bool := false
deriving DecidableEq, Repr

/-- The housekeeping block (12). -/
structure House where
  /-- Milk rounds ended since reset, and the lamp time of reset, before 0 where the clock has stepped back (14 R329). -/
  round : Nat := 0
  base : Int := 0
  channels : Vector MilkCh 96 := Vector.replicate 96 {}
  /-- Trims in force, where an entry in progress began and where it leads; `none` is the factory value (R289). -/
  trims : Vector (Option Int) 30 := Vector.replicate 30 none
  olds : Vector (Option Int) 30 := Vector.replicate 30 none
  targets : Vector (Option Int) 30 := Vector.replicate 30 none
  cal : Option CalRun := none
  entry : Option TrimEntry := none
  entryStep : Nat := 0
  items : Vector CalItem 8 := Vector.replicate 8 {}
  agreed : Nat := 0
  disagreed : Nat := 0
  srResult : Nat := 0
  /-- A save in progress: address. -/
  save : Option Nat := none
  restore : Option Nat := none
  /-- Rails out of range at the last round, by channel, and those raised (19 R417). -/
  railBad : List Nat := []
  railTold : List Nat := []
  therm : Therm := {}
deriving DecidableEq, Repr

/-! ## Accent driver (13) -/

/-- What dithers and is judged: a channel in direct mode, or one cell of a column in matrix mode (13 R301, R309, R310). -/
structure AccUnit where
  acc : Nat := 0
  debt : Nat := 0
  /-- Lamp time of the previous probe. -/
  probeAt : Option Nat := none
  /-- A probe may be made at the first period after the last fade tick. -/
  probeDue : Bool := false
  /-- 0 UNTESTED, 1 GOOD, 2 SUSPECT, 3 OPEN, 4 SHORT, 5 UNVERIFIED. -/
  cls : Nat := 0
  /-- Lamp time of the last verification, or of the group's entry into its mode. -/
  verified : Nat := 0
  /-- Latest sample since the last fade tick: 0 pass, 1 fails OPEN, 2 fails SHORT; and its source. -/
  sample : Option (Nat × Nat) := none
deriving DecidableEq, Repr

/-- A channel of the accent driver (13). -/
structure AccCh where
  direct : AccUnit := {}
  cells : Vector AccUnit 8 := Vector.replicate 8 {}
  /-- The fade: where it began, its target, length in ms, steps made, and the present index (R303). -/
  start : Nat := 0
  target : Nat := 0
  len : Nat := 1
  k : Nat := 1
  index : Nat := 0
  /-- Fade-and-binning level of the last fade tick (R304). -/
  level : Nat := 0
  /-- L in force, after the guard. -/
  inForce : Nat := 0
  /-- GLOBAL and CUR as latched at the last period or slot start, and EN (R299). -/
  latched : Nat × Nat := (0, 0)
  /-- Sum and count of L over the milk round (R311). -/
  sum : Nat := 0
  cnt : Nat := 0
  clr : Bool := false
deriving DecidableEq, Repr

/-- The accent driver (13). -/
structure Accent where
  chans : Vector AccCh 48 := Vector.replicate 48 {}
  /-- FRONT, and the two frame buffers, by cell, sparse over zero (R307). -/
  front : Bool := false
  buf0 : List (Nat × Nat) := []
  buf1 : List (Nat × Nat) := []
  mswap : Bool := false
  /-- The scan frame in progress: its start, P, and the next slot (R305). -/
  scan : Option (Nat × Nat × Nat) := none
  lastEdge : Option Nat := none
  lost : Bool := false
  /-- P between SYNC_IN edges (R306). -/
  edgeP : Option Nat := none
  /-- Binning words in use of each group, 20 a group; `none` is the reset matrices (R304). -/
  bins : Vector (Option (List Word)) 4 := Vector.replicate 4 none
  guard : Option Nat := none
  est : Nat := 0
  overload : Bool := false
  supplyLow : Bool := false
  /-- Fault inputs raised in this milk round, offsets from 40 (R313). -/
  raised : BitVec 5 := 0
  /-- Lamp times of the last period start handled, and of the last fade tick. -/
  period : Option Nat := none
  fadeAt : Nat := 0
deriving DecidableEq, Repr


/-! ## The whole machine -/

/-- What the block has put on its wires, oldest first (MODEL, log 3). -/
inductive Emission where
  /-- A posted write to host memory (16 R363). -/
  | hostWrite (addr : Nat) (data : Bytes)
  /-- An MSI-X message (15 R353). -/
  | msix (vector : Nat) (addr : Nat) (data : Word)
  /-- PME signalled (15 R357). -/
  | pme
  /-- Data returned to a register read (00 R4). -/
  | regRead (m : Master) (offset : Nat) (data : Bytes)
  /-- Data returned to a BAR2 read, with the poison mark (16 R377, R379). -/
  | bar2Read (data : Bytes) (poisoned : Bool)
  /-- Unsupported Request, in D3hot (16 R365). -/
  | unsupported
  /-- Values read over I2C; `none` while the target does not answer (16 R381). -/
  | i2cRead (values : Option (List Word))
  /-- A packet on the back-channel (16 R369, R372, R373). -/
  | feedPacket (type : Nat) (payload : Bytes)
  /-- SYNC_OUT driven (04 R85). -/
  | syncOut (high : Bool)
  /-- FAULT_P / FAULT_N signal OK (true) or FAULT; both drivers off, so both pins low (14 R322). -/
  | faultPins (ok : Bool)
  | faultPinsOff
  /-- A message to the partner (14 R331 to R336). -/
  | partner (msg : PartnerMsg)
  /-- A copy of a parcel on a transmit lane, as the bytes of `parcelWire` (09 R200, R201). -/
  | parcel (n : TileId) (lane : TxLane) (p : Parcel)
  /-- A TICK block on a port's lanes, with its frame and rate fields (09 R198). -/
  | tick (n : TileId) (frame : Nat) (rate : Nat) (newRate : Bool)
  /-- A lane of a port enters (true) or leaves electrical idle or low power (09 R229, 14 R336). -/
  | laneIdle (n : TileId) (lane : TxLane) (idle : Bool)
  /-- A record from the tile end of a port, as the bytes of `recordWire` (09 R226, R227). -/
  | record (n : TileId) (output : Nat) (r : Record)
  /-- An accent pulse: channel, start and length in lamp counts from the period or slot start, current code (13 R299, R301). -/
  | pulse (ch : Nat) (start len cur : Nat)
  /-- A matrix gate driven: line, start and length in lamp counts from the slot start (13 R305). -/
  | gate (line start len : Nat)
deriving DecidableEq, Repr

/-- The state of the TA3216 and of the sixteen tile ends of its ports. -/
structure State where
  /-- Commands that wait, first in first out (MODEL). -/
  pending : List Instr
  /-- The lamp clock in counts of 10 ns (04 R86). -/
  lamp : Nat
  /-- Index of the next free value (MODEL, log 2). -/
  freeSeq : Nat
  outbox : List Emission
  /-- Register fields in force, sparse over the reset values (log 4). -/
  regs : List (Nat × Word)
  /-- Pending values of RWS registers (00 R7, R8). -/
  rws : List (Nat × Word)
  /-- Device DRAM, sparse over the value of an unlisted byte (16 R377, log 5). -/
  dram : List Host.Cell
  /-- 64-bit words that read uncorrectable, by word address / 8 (16 R377). -/
  dramBad : List Nat
  /-- Management core memory, 4,096 KiB (01 R20), sparse over zero. -/
  coreMem : List Host.Cell
  /-- The firmware log ring of the TRC window (17 R404), sparse over zero. -/
  fwLog : List Host.Cell
  pins : Pins
  dev : Dev
  deal : DealStore
  rings : Vector Ring 4
  dealer : Dealer
  timing : Timing
  faults : Faults
  partner : Partner
  intc : Intc
  host : HostPort
  feed : Feed
  memc : MemCtl
  power : Power
  churns : Vector Churn 16
  trumpSels : List TrumpSel
  scalers : Vector Scaler 8
  skim : Skim
  phots : Vector Phot 16
  pot : ChipPot
  ports : Vector Port 16
  tiles : Vector Tile 16
  diags : Vector Diag 16
  ctl : Ctl
  house : House
  accent : Accent
deriving DecidableEq, Repr

/-- Reasons a step could stop with a fault. No meaning of the model raises one. -/
inductive Fault where
  /-- Raised by no command: the block has no stop of its own (INVENTORY, Faults). Safe. -/
  | stuck
deriving DecidableEq, Repr

/-- Reasons a command could be refused. -/
inductive Refusal where
  /-- Raised by an arm of exec whose command has no meaning yet, by its mnemonic. Safe: nothing is claimed of it. -/
  | notModelled (mnemonic : String)
deriving DecidableEq, Repr

/-- The machine right after it leaves OFF: PASTEURISE, every register at its reset value, nothing listed in memory. -/
def State.reset : State where
  pending := []
  lamp := 0
  freeSeq := 0
  outbox := []
  regs := []
  rws := []
  dram := []
  dramBad := []
  coreMem := []
  fwLog := []
  pins := {}
  dev := {}
  deal := {}
  rings := Vector.replicate 4 {}
  dealer := {}
  timing := {}
  faults := {}
  partner := {}
  intc := {}
  host := {}
  feed := {}
  memc := {}
  power := {}
  churns := Vector.replicate 16 {}
  trumpSels := []
  scalers := Vector.replicate 8 {}
  skim := {}
  phots := Vector.replicate 16 {}
  pot := {}
  ports := Vector.replicate 16 {}
  tiles := Vector.replicate 16 {}
  diags := Vector.replicate 16 {}
  ctl := {}
  house := {}
  accent := {}

end Sys2Proof.Machine
end

