-- ==== Sys2Proof/Machine/Ops.lean ====
section
/-! DEFINITION. The named operations over the state: registers, memory, time, free values and the Deal in force. -/

namespace Sys2Proof.Machine

open Sys2Proof

/-! ### One home per piece of state: the update of each part -/

def State.onDev (f : Dev → Dev) (s : State) : State := { s with dev := f s.dev }
def State.onDeal (f : DealStore → DealStore) (s : State) : State := { s with deal := f s.deal }
def State.onDealer (f : Dealer → Dealer) (s : State) : State := { s with dealer := f s.dealer }
def State.onTiming (f : Timing → Timing) (s : State) : State := { s with timing := f s.timing }
def State.onFaults (f : Faults → Faults) (s : State) : State := { s with faults := f s.faults }
def State.onPartner (f : Partner → Partner) (s : State) : State := { s with partner := f s.partner }
def State.onIntc (f : Intc → Intc) (s : State) : State := { s with intc := f s.intc }
def State.onHost (f : HostPort → HostPort) (s : State) : State := { s with host := f s.host }
def State.onFeed (f : Feed → Feed) (s : State) : State := { s with feed := f s.feed }
def State.onMemc (f : MemCtl → MemCtl) (s : State) : State := { s with memc := f s.memc }
def State.onPower (f : Power → Power) (s : State) : State := { s with power := f s.power }
def State.onRing (r : RingId) (f : Ring → Ring) (s : State) : State :=
  { s with rings := s.rings.set r (f (s.rings.get r)) }
def State.ring (s : State) (r : RingId) : Ring := s.rings.get r
def State.onEvq (q : QueueId) (f : Evq → Evq) (s : State) : State :=
  s.onIntc fun i => { i with queues := i.queues.set q (f (i.queues.get q)) }
def State.evq (s : State) (q : QueueId) : Evq := s.intc.queues.get q
def State.onCore (h : Fin 2) (f : CoreHand → CoreHand) (s : State) : State :=
  s.onIntc fun i => { i with cores := i.cores.set h (f (i.cores.get h)) }

/-- Applies `f` to each element in turn. -/
def forEach {α : Type} (l : List α) (f : α → State → State) (s : State) : State :=
  l.foldl (fun s a => f a s) s

/-- Applies `f` only where `c` holds. -/
def State.when (c : Bool) (f : State → State) (s : State) : State := if c then f s else s

/-- The sixteen tiles in order. -/
def tileIds : List TileId := List.finRange 16
/-- The four rings in order. -/
def ringIds : List RingId := List.finRange 4

/-! ### Emissions, free values, time -/

/-- Puts something on the block's wires (log 3). -/
def State.emit (e : Emission) (s : State) : State := { s with outbox := s.outbox ++ [e] }

/-- The next free value (log 2). -/
def State.free (s : State) : Nat := Config.freeValue s.freeSeq
/-- Marks the next free value as used. -/
def State.useFree (s : State) : State := { s with freeSeq := s.freeSeq + 1 }

/-- Moves the lamp clock on to `t` if it lies ahead (log 1). -/
def State.advanceTo (t : Nat) (s : State) : State := { s with lamp := max s.lamp t }

/-- Lamp counts in a millisecond and in a microsecond (04 R86: 10 ns a count). -/
def msCounts (ms : Nat) : Nat := ms * 100000
def usCounts (us : Nat) : Nat := us * 100

/-- The frame being composed (01 R14). -/
def State.frame (s : State) : Nat := s.timing.frame

/-! ### Registers (00 R4 to R8) -/

/-- The value in force of the register at an offset. -/
def State.reg (s : State) (off : Nat) : Word := Sparse.get resetWord s.regs off
/-- The value most recently written: the pending one of an RWS register. -/
def State.regPend (s : State) (off : Nat) : Word := (Sparse.find? s.rws off).getD (s.reg off)
def State.setReg (off : Nat) (w : Word) (s : State) : State :=
  { s with regs := Sparse.set resetWord s.regs off w }
/-- Bits `hi:lo` in force of the register at an offset. -/
def State.fld (s : State) (off hi lo : Nat) : Nat := bitsOf (s.reg off).toNat hi lo
/-- Word `w` with bits `hi:lo` replaced. -/
def putBits (w : Word) (hi lo v : Nat) : Word :=
  BitVec.ofNat 32 (w.toNat - bitsOf w.toNat hi lo * 2 ^ lo + (v % 2 ^ (hi + 1 - lo)) * 2 ^ lo)
def State.setFld (off hi lo v : Nat) (s : State) : State := s.setReg off (putBits (s.reg off) hi lo v)
/-- Sets a flag bit. -/
def State.setFlag (off bit : Nat) (s : State) : State := s.setFld off bit bit 1
/-- Adds to a saturating counter field. -/
def State.addSat (off hi lo k : Nat) (s : State) : State :=
  s.setFld off hi lo (satAdd (2 ^ (hi + 1 - lo) - 1) (s.fld off hi lo) k)
/-- Adds to a wrapping counter field. -/
def State.addWrap (off hi lo k : Nat) (s : State) : State := s.setFld off hi lo (s.fld off hi lo + k)
/-- A one-bit field as a Bool. -/
def State.bit (s : State) (off b : Nat) : Bool := decide (s.fld off b b = 1)
/-- A bit of the pending value of an RWS register. -/
def State.fldPend (s : State) (off hi lo : Nat) : Nat := bitsOf (s.regPend off).toNat hi lo

/-- Drops the values, in force and pending, of every register with an offset in `lo` to `hi - 1`: they read reset again. -/
def State.resetRegs (lo hi : Nat) (s : State) : State :=
  { s with
    regs := s.regs.filter (fun e => !(decide (lo ≤ e.1) && decide (e.1 < hi)))
    rws := s.rws.filter (fun e => !(decide (lo ≤ e.1) && decide (e.1 < hi))) }

/-- Copies the pending values of the RWS registers that `p` selects (00 R8). -/
def State.copyRws (p : Nat → Bool) (s : State) : State :=
  let due := s.rws.filter (fun e => p e.1)
  { s with
    regs := due.foldl (fun m e => Sparse.set resetWord m e.1 e.2) s.regs
    rws := s.rws.filter (fun e => !p e.1) }

/-! ### Memory (16 R375 to R377) -/

/-- What an unlisted byte of DRAM reads as (log 5). -/
def dramFill (_ : Nat) : Byte := 0#8
/-- The canonical form of a memory. -/
def Memory.wf (m : List Host.Cell) : Bool := Sparse.wf dramFill m
/-- Reads `n` bytes from address `a`. -/
def Memory.read (m : List Host.Cell) : Nat → Nat → Bytes
  | _, 0 => []
  | a, n + 1 => Sparse.get dramFill m a :: Memory.read m (a + 1) n
/-- Writes bytes from address `a`. -/
def Memory.write : List Host.Cell → Nat → Bytes → List Host.Cell
  | m, _, [] => m
  | m, a, b :: bs => Memory.write (Sparse.set dramFill m a b) (a + 1) bs
/-- Writes `n` zero bytes from address `a` (17 R388). -/
def Memory.wipe (m : List Host.Cell) (a n : Nat) : List Host.Cell :=
  m.filter (fun e => !(decide (a ≤ e.1) && decide (e.1 < a + n)))

/-- Bytes of the data space: seven eighths of the installed size (16 R377). -/
def State.dataSpace (s : State) : Nat := s.memc.sizeGib * 1073741824 / 8 * 7
def State.dramRead (s : State) (a n : Nat) : Bytes := Memory.read s.dram a n
/-- Every 64-bit word that `n` bytes from `a` touch. -/
def wordsOf (a n : Nat) : List Nat := if n = 0 then [] else (List.range ((a + n - 1) / 8 - a / 8 + 1)).map (· + a / 8)
/-- No word of the range reads uncorrectable. -/
def State.dramGood (s : State) (a n : Nat) : Bool := s.dramBad.all (fun w => !(decide (a / 8 ≤ w) && decide (w * 8 < a + n) && decide (0 < n)))
/-- A device write: whole words covered get fresh check bits, words covered in part keep an uncorrectable mark (16 R377). -/
def State.dramWrite (a : Nat) (b : Bytes) (s : State) : State :=
  { s with
    dram := Memory.write s.dram a b
    dramBad := s.dramBad.filter (fun w => !(decide (a ≤ w * 8) && decide (w * 8 + 8 ≤ a + b.length))) }
/-- Writes zero, with valid check bits (17 R388). -/
def State.dramWipe (a n : Nat) (s : State) : State :=
  { s with
    dram := Memory.wipe s.dram a n
    dramBad := s.dramBad.filter (fun w => !(decide (a ≤ w * 8) && decide (w * 8 + 8 ≤ a + n))) }

/-! ### The Deal in force (02) -/

def State.theDeal (s : State) : Option Deal := s.deal.inForce
def Deal.tile (d : Deal) (n : Nat) : TileEntry := d.tiles.getD n {}
/-- TILE entry n of the Deal in force; an absent one where no Deal is. -/
def State.tileEntry (s : State) (n : Nat) : TileEntry :=
  match s.theDeal with
  | some d => d.tile n
  | none => {}
def State.declared (s : State) (n : Nat) : Bool := (s.tileEntry n).present
def Deal.slotEntry (d : Deal) (c sl : Nat) : Option SlotEntry := d.slots.find? (fun e => e.churn = c ∧ e.slot = sl)
def State.slotEntry (s : State) (c sl : Nat) : Option SlotEntry := s.theDeal.bind (·.slotEntry c sl)
def State.scalerEntry (s : State) (k : Nat) : Option ScalerEntry := s.theDeal.bind (·.scalers.find? (fun e => e.scaler = k))
def Deal.loopEntry (d : Deal) (l : Nat) : Option LoopEntry := d.loops.find? (fun e => e.loop = l)
def State.loopEntry (s : State) (l : Nat) : Option LoopEntry := s.theDeal.bind (·.loopEntry l)
def State.partEntry (s : State) (p : Nat) : Option PartEntry := s.theDeal.bind (·.parts.find? (fun e => e.part = p))
/-- The group of a tile, churn or port (01 "Tile groups"). -/
def groupOf (n : Nat) : Nat := n / 4
/-- ROLE of the Deal in force, 0 where none is (02 R41). -/
def State.role (s : State) : Nat := (s.theDeal.map (·.role)).getD 0
/-- The partitions of the Deal in force. -/
def State.parts (s : State) : List PartEntry := (s.theDeal.map (·.parts)).getD []
/-- `n` bytes from `a` lie inside a partition. -/
def PartEntry.holds (p : PartEntry) (a n : Nat) : Bool := decide (p.base ≤ a) && decide (a + n ≤ p.base + p.size)
/-- The pattern level of a FALLBACK entry's cell (02 R42). -/
def State.fallback (s : State) (n : Nat) : Bytes :=
  ((s.theDeal.bind (·.fallbacks.find? (fun e => e.tile = n))).map (·.levels)).getD []

/-- Parameter bytes 8 to 63 of a command (03 R63). -/
def paramBytes (c : Cmd) : Bytes := le 56 c.params.toNat
/-- The parameter of `len` bytes at command offset `off` (03 R67). -/
def par (c : Cmd) (off len : Nat) : Nat := (c.params.toNat >>> (8 * (off - 8))) % 2 ^ (8 * len)
/-- All 64 bytes of a command (03 R63). -/
def cmdBytes (op : Nat) (c : Cmd) : Bytes :=
  le 1 op ++ [c.flags] ++ le 2 c.tag.toNat ++ le 2 c.waitTag.toNat ++ [c.waitCtl] ++ [c.rsvd] ++ paramBytes c

/-- States that carry the pixel path's normal service (03 R50). -/
def DevState.isLitFamily : DevState → Bool
  | .lit | .hold | .safeLight => true
  | .off | .pasteurise | .boot | .undealt | .dealt | .fatal => false
/-- States with a Deal in force. -/
def DevState.dealtOrLater : DevState → Bool
  | .dealt | .lit | .hold | .safeLight | .fatal => true
  | .off | .pasteurise | .boot | .undealt => false

end Sys2Proof.Machine
end

