-- ==== Sys2Proof/Machine/Events.lean ====
section
/-! DEFINITION. The interrupt controller: posting, routing, coalescing, staging, event queues and core hands (15). -/

namespace Sys2Proof.Machine

open Sys2Proof

/-- The group of a source: 0 ordinary, 1 fault, 2 thermal, 3 partner (15 R342). -/
def sourceGroup (src : Nat) : Nat :=
  if 16 ≤ src ∧ src ≤ 47 then 1 else if src = 304 then 2 else if 344 ≤ src ∧ src ≤ 351 then 3 else 0

/-- The sources marked reserved (15 R342); 0 is no source. -/
def reservedSource (src : Nat) : Bool :=
  decide (src = 0 ∨ (7 ≤ src ∧ src ≤ 15) ∨ (306 ≤ src ∧ src ≤ 319) ∨ (361 ≤ src))

def State.srcPrio (s : State) (src : Nat) : Nat := s.fld (Reg.INTC_SRC_CFG src) 3 0
def State.srcMasked (s : State) (src : Nat) : Bool := s.bit (Reg.INTC_SRC_CFG src) 8
def State.srcRoute (s : State) (src : Nat) : Nat := s.fld (Reg.INTC_SRC_CFG src) 23 16
/-- COUNT of a source's windows; 0 is taken as 1 (15 R358). -/
def State.srcCount (s : State) (src : Nat) : Nat := max 1 (s.fld (Reg.INTC_SRC_COAL src) 7 0)
/-- TIME of a source's windows in µs; 0 is taken as 1 (15 R358). -/
def State.srcTime (s : State) (src : Nat) : Nat := max 1 (s.fld (Reg.INTC_SRC_COAL src) 31 16)

/-- The queue index of a hand: 0-5 for hands 2-7, 6 and 7 for hands 0 and 1 (15 R359). -/
def queueOf (h : Nat) : QueueId := if h < 2 then ⟨(h + 6) % 8, Nat.mod_lt _ (by decide)⟩ else ⟨(h - 2) % 8, Nat.mod_lt _ (by decide)⟩
/-- The hand of a queue index. -/
def handOf (q : QueueId) : Nat := if q.val < 6 then q.val + 2 else q.val - 6

def State.evqEnabled (s : State) (q : QueueId) : Bool := s.bit (Reg.EVQ_CFG q) 8
def State.evqSize (s : State) (q : QueueId) : Nat := 2 ^ s.fld (Reg.EVQ_CFG q) 4 0
def State.evqBase (s : State) (q : QueueId) : Nat :=
  (s.fld (Reg.EVQ_BASE_LO q) 31 12) * 4096 + (s.reg (Reg.EVQ_BASE_HI q)).toNat * 2 ^ 32

/-- Hand `h` is eligible for source `src` (15 R345), the mask apart. -/
def State.eligible (s : State) (src h : Nat) : Bool :=
  bitAt (s.srcRoute src) h && s.bit (Reg.INTC_HAND_CFG h) 0 &&
  (decide (h < 2) || s.evqEnabled (queueOf h)) &&
  decide (s.fld (Reg.INTC_HAND_CFG h) 7 4 < s.srcPrio src)

def State.lastHand (s : State) (src : Nat) : Option Nat := (s.intc.lastHand.find? (fun e => e.1 = src)).map (·.2)
def State.setLastHand (src h : Nat) (s : State) : State :=
  s.onIntc fun i => { i with lastHand := (src, h) :: i.lastHand.filter (fun e => e.1 ≠ src) }

/-- The next eligible hand after the hand of the source's previous window, wrapping; from hand 0 after reset (15 R346). -/
def State.nextHand (s : State) (src : Nat) : Option Nat :=
  let start := match s.lastHand src with
    | some h => h + 1
    | none => 0
  ((List.range 8).map (fun i => (start + i) % 8)).find? (fun h => s.eligible src h)

/-- An event record posted now (15 R344). -/
def State.event (s : State) (type src : Nat) (payload : Bytes) : Event where
  type := type
  src := src
  frame := s.timing.frame
  sub := s.timing.sample + 8 * b2n s.timing.pastCut
  time := s.lamp % 2 ^ 32
  payload := padTo 16 payload

/-- The 32 bytes of a record written at queue index `idx` (15 R344, R351). -/
def Event.bytes (e : Event) (idx size : Nat) (staged lostBefore : Bool) : Bytes :=
  le 1 e.type ++ le 1 (sourceGroup e.src) ++ le 2 e.src ++ le 4 e.frame ++ le 1 e.sub ++
  le 1 (b2n (idx / size % 2 = 0) + 2 * b2n staged + 4 * b2n lostBefore) ++ le 2 idx ++ le 4 e.time ++ e.payload

/-- The host can be reached by a posted write or a message now (16 R363 to R365). -/
def State.hostReady (s : State) : Bool := s.host.linkUp && s.host.bme && !s.host.d3hot

/-- A queue takes a record at once, room apart. -/
def State.evqOpen (s : State) (q : QueueId) : Bool :=
  s.evqEnabled q && !(s.evq q).writeErr && (decide (6 ≤ q.val) || s.hostReady)

/-- A follow-up record that a posting causes: type, source, payload. -/
abbrev FollowUp := Nat × Nat × Bytes

/-- The QUEUE record of queue `q` for an event code (15 R344). -/
def State.queueRecord (s : State) (q : QueueId) (code : Nat) : FollowUp :=
  (0x0A, 352 + q.val, le 1 q.val ++ le 1 code ++ zeros 2 ++ le 4 (s.evq q).prod ++ le 4 (s.evq q).cons)

/-- Writes a record at PROD (15 R351, R352). `counted`: it took its slot when it landed in D3hot. -/
def State.writeRecord (q : QueueId) (ev : Event) (staged counted : Bool) (s : State) : State :=
  let v := s.evq q
  let size := s.evqSize q
  let data := ev.bytes v.prod size staged v.lostBefore
  let a := s.evqBase q + 32 * (v.prod % size)
  let s := if q.val < 6 then s.emit (.hostWrite a data)
    else { s with coreMem := Memory.write s.coreMem (a % 4194304) data }
  let s := s.onEvq q fun v => { v with
    prod := (v.prod + 1) % 2 ^ 32
    free := if counted then v.free else v.free - 1
    lostBefore := false }
  s.onIntc fun i => { i with auditDue := i.auditDue ++ [q.val] }

/-- General staging entries in use; 4,096 entries hold a reserve of 512 (15 R348, log 14). -/
def Intc.generalUsed (i : Intc) : Nat := (i.staging.filter (fun r => !r.reserve)).length
def Intc.reserveUsed (i : Intc) : Nat := (i.staging.filter (fun r => r.reserve)).length

/-- Marks queue `q` as one that lost a record (15 R348); the QUEUE record follows where LOST was clear. -/
def State.markLost (q : QueueId) (s : State) : State × List FollowUp :=
  let fresh := !(s.evq q).lost
  let s' := s.onEvq q fun v => { v with lost := true, lostBefore := true }
  (s', if fresh then [s'.queueRecord q 4] else [])

/-- The STAGING record (15 R344). -/
def State.stagingRecord (s : State) : FollowUp := (0x0B, 360, le 2 s.intc.staging.length ++ le 2 s.intc.lost)

/-- Stages a record, or loses it where there is no room (15 R348). -/
def State.stage (ev : Event) (hand : Option Nat) (counted : Bool) (s : State) : State × List FollowUp :=
  let general := decide (s.intc.generalUsed < 3584)
  if general || (decide (ev.type = 0x30) && decide (s.intc.reserveUsed < 512)) then
    let s := s.onIntc fun i => { i with staging := i.staging ++ [⟨ev, hand, !general, counted⟩] }
    if s.intc.lowWater && decide (3072 < s.intc.staging.length) then
      let s := s.onIntc fun i => { i with lowWater := false }
      (s, [s.stagingRecord])
    else (s, [])
  else
    let s := s.onIntc fun i => { i with lost := satAdd 0xFFFF i.lost 1 }
    let qs : List QueueId := match hand with
      | some h => [queueOf h]
      | none => ((List.range 8).filter (fun h => bitAt (s.srcRoute ev.src) h)).map queueOf
    let r := qs.foldl (fun (acc : State × List FollowUp) q =>
      let m := acc.1.markLost q
      (m.1, acc.2 ++ m.2)) (s, [])
    (r.1, if ev.src = 360 then r.2 else r.2 ++ [r.1.stagingRecord])

/-- The first record that lands for a queue whose WAKE is 1 while the function sleeps signals PME, once until PME_Status is
cleared (15 R357). -/
def State.signalPme (q : QueueId) (s : State) : State :=
  if s.host.d3hot && decide (q.val < 6) && s.bit (Reg.EVQ_CFG q) 9 && s.host.pmeEn && !s.host.pmeStatus then
    (s.onHost fun p => { p with pmeStatus := true }).emit .pme
  else s

/-- Lands a record that is routed to hand `h`: written, or staged where the queue cannot take it (15 R352, R357; 16 R364). -/
def State.land (h : Nat) (ev : Event) (staged : Bool) (s : State) : State × List FollowUp :=
  let q := queueOf h
  let v := s.evq q
  let host := decide (q.val < 6)
  let behind := s.intc.staging.any (fun r => decide (r.hand = some h) && !s.srcMasked r.ev.src)
  if s.evqOpen q && !behind && decide (0 < v.free) then (s.writeRecord q ev staged false, [])
  else if host && s.evqEnabled q && !s.host.linkUp && !v.writeErr && decide (0 < v.free) then
    -- the posted write cannot be issued because the link is down (16 R363)
    let s := s.onEvq q fun v => { v with writeErr := true }
    let r := s.stage ev (some h) false
    (r.1, r.2 ++ [r.1.queueRecord q 2])
  else if host && s.host.d3hot && decide (0 < v.free) then
    ((s.onEvq q fun v => { v with free := v.free - 1 }).signalPme q).stage ev (some h) true
  else
    let entry := decide (v.free = 0) && !v.stalled
    let s := if entry then s.onEvq q fun v => { v with stalled := true } else s
    let r := (s.signalPme q).stage ev (some h) false
    (r.1, if entry then r.2 ++ [r.1.queueRecord q 1] else r.2)

/-- Sends the queue's message if ARMED and NOTIFY_PEND are both 1 (15 R353); a masked vector leaves its pending bit. -/
def State.sendMessage (q : QueueId) (s : State) : State :=
  let vec : Fin 16 := ⟨s.fld (Reg.EVQ_CFG q) 15 12 % 16, Nat.mod_lt _ (by decide)⟩
  let m := s.host.msix.get vec
  let s := s.onEvq q fun v => { v with armed := false }
  if m.control.toNat % 2 = 1 then s.onHost fun p => { p with pba := p.pba ||| (1#16 <<< vec.val) }
  else s.emit (.msix vec (m.addrLo.toNat + m.addrHi.toNat * 2 ^ 32) m.data)

/-- Messages that a mask held back go out once their vectors are unmasked and the host can be reached (15 R353; 16 R364). -/
def State.flushPba (s : State) : State :=
  if !s.hostReady then s
  else forEach (List.finRange 16) (fun (vec : Fin 16) s =>
    let m := s.host.msix.get vec
    if s.host.pba.getLsbD vec.val && decide (m.control.toNat % 2 = 0) then
      (s.onHost fun p => { p with pba := p.pba &&& ~~~(1#16 <<< vec.val) }).emit
        (.msix vec (m.addrLo.toNat + m.addrHi.toNat * 2 ^ 32) m.data)
    else s) s

def State.tryMessage (q : QueueId) (s : State) : State :=
  let v := s.evq q
  if v.armed && v.notifyPend && s.hostReady then s.sendMessage q else s

/-- Notifies hand `h` of source `src` (15 R346, R353; R433 for core hands). -/
def State.notify (h src : Nat) (s : State) : State :=
  if hh : h < 2 then s.onCore ⟨h, hh⟩ fun c => { c with pend := c.pend ||| (1#384 <<< src) }
  else
    let q := queueOf h
    (s.onEvq q fun v => { v with notifyPend := true }).tryMessage q

/-- HOLDOFF of a group in lamp counts; 0 is taken as 1 µs (15 R358). -/
def State.holdoffCounts (s : State) (g : Nat) : Nat := usCounts (max 1 (s.fld (Reg.INTC_HOLDOFF (g - 1)) 15 0))

/-- Notifies subject to the group's hold-off (15 R347). -/
def State.notifyPrivileged (h src : Nat) (s : State) : State :=
  let g := sourceGroup src
  if s.intc.holdoffs.any (fun o => o.group = g ∧ o.hand = h) then
    s.onIntc fun i => { i with holdoffs := i.holdoffs.map fun o =>
      if o.group = g ∧ o.hand = h then { o with waiting := o.waiting.filter (· ≠ src) ++ [src] } else o }
  else
    let s := s.notify h src
    let frozen := decide (2 ≤ h) && s.host.d3hot
    s.onIntc fun i => { i with holdoffs := i.holdoffs ++
      [⟨g, h, s.lamp + s.holdoffCounts g, if frozen then some (s.holdoffCounts g) else none, []⟩] }

/-- Closes a source's window; `tell`: with a notification (15 R346). -/
def State.closeWindow (src : Nat) (tell : Bool) (s : State) : State :=
  match s.intc.windows.find? (fun w => w.src = src) with
  | none => s
  | some w =>
    let s := s.onIntc fun i => { i with windows := i.windows.filter (fun w => w.src ≠ src) }
    if tell then s.notify w.hand src else s

/-- Routes a record to a hand, if one is open to it (15 R346, R347); `none` where none is. -/
def State.route (ev : Event) (staged : Bool) (s : State) : Option (State × List FollowUp) :=
  if sourceGroup ev.src = 0 then
    match s.intc.windows.find? (fun w => w.src = ev.src) with
    | some w =>
      let s := s.onIntc fun i => { i with windows := i.windows.map fun w =>
        if w.src = ev.src then { w with count := w.count + 1 } else w }
      let r := s.land w.hand ev staged
      some (if s.srcCount ev.src ≤ w.count + 1 then (r.1.closeWindow ev.src true, r.2) else r)
    | none =>
      match s.nextHand ev.src with
      | none => none
      | some h =>
        let s := s.setLastHand ev.src h
        let t := usCounts (s.srcTime ev.src)
        let frozen := decide (2 ≤ h) && s.host.d3hot
        let s := s.onIntc fun i => { i with windows := i.windows ++
          [⟨ev.src, h, 1, s.lamp + t, if frozen then some t else none⟩] }
        let r := s.land h ev staged
        some (if s.srcCount ev.src ≤ 1 then (r.1.closeWindow ev.src true, r.2) else r)
  else
    match s.nextHand ev.src with
    | none => none
    | some h =>
      let s := s.setLastHand ev.src h
      let r := s.land h ev staged
      some (r.1.notifyPrivileged h ev.src, r.2)

/-- Discards a record and counts it (15 R348, R355). -/
def State.discardRecord (s : State) : State :=
  s.onIntc fun i => { i with discarded := satAdd 0xFFFF i.discarded 1 }

/-- Posts one record (15 R346 to R348, R355), and answers the records that this causes. -/
def State.postOne (ev : Event) (s : State) : State × List FollowUp :=
  if s.srcMasked ev.src then
    if ev.type = 0x30 then s.stage ev none false else (s.discardRecord, [])
  else
    match s.route ev false with
    | some r => r
    | none =>
      if ev.type ≠ 0x30 ∧ s.srcPrio ev.src = 0 then (s.discardRecord, [])
      else s.stage ev none false

/-- Posts a record and what follows from it, to a depth no chain of follow-ups exceeds. -/
def State.postDeep : Nat → FollowUp → State → State
  | 0, _, s => s
  | k + 1, f, s =>
    let r := s.postOne (s.event f.1 f.2.1 f.2.2)
    r.2.foldl (fun s f => s.postDeep k f) r.1

/-- Posts a record of a type from a source (15 R344). -/
def State.post (type src : Nat) (payload : Bytes) (s : State) : State := s.postDeep 16 (type, src, payload)

/-- A posted write of queue `q` cannot be issued, the link being down: WRITE_ERR, with its QUEUE record (15 R344, R352; 16 R363). -/
def State.writeFails (q : QueueId) (s : State) : State :=
  let s := s.onEvq q fun v => { v with writeErr := true }
  let f := s.queueRecord q 2
  s.post f.1 f.2.1 f.2.2

/-- Writes the staged records of a queue that it can now take, in order (15 R352); those of a masked source wait (15 R355).
With the link down the write fails again. -/
def State.drainQueue (q : QueueId) : Nat → State → State
  | 0, s => s
  | k + 1, s =>
    match s.intc.staging.find? (fun r => decide (r.hand = some (handOf q)) && !s.srcMasked r.ev.src) with
    | none => s.onEvq q fun v => { v with stalled := v.stalled && decide (v.free = 0) }
    | some r =>
      if s.evqOpen q && (r.slot || decide (0 < (s.evq q).free)) then
        let s := s.onIntc fun i => { i with staging := i.staging.erase r }
        (s.writeRecord q r.ev true r.slot).drainQueue q k
      else if decide (q.val < 6) && s.evqEnabled q && !s.host.linkUp && !(s.evq q).writeErr && decide (0 < (s.evq q).free) then
        s.writeFails q
      else s.onEvq q fun v => { v with stalled := v.stalled && decide (v.free = 0) }

/-- Drains every queue. -/
def State.drainAll (s : State) : State :=
  forEach (List.finRange 8) (fun q s => s.drainQueue q (s.intc.staging.length + 1)) s

/-- Routes the unrouted records of staging for which a hand is now eligible, in order (15 R346, R348, R355). -/
def State.routeStaged (s : State) : State :=
  (s.intc.staging.filter (fun r => r.hand = none)).foldl (fun s r =>
    if s.srcMasked r.ev.src then s
    else
      let s' := s.onIntc fun i => { i with staging := i.staging.erase r }
      match s'.route r.ev true with
      | some x => x.2.foldl (fun s f => s.post f.1 f.2.1 f.2.2) x.1
      | none => s) s

/-- Staging has fallen below 2,048 again (15 R348). -/
def State.refillLowWater (s : State) : State :=
  if s.intc.staging.length < 2048 then s.onIntc fun i => { i with lowWater := true } else s

/-- Windows whose hand is no longer eligible close with a notification (15 R346, "Hand lost"). -/
def State.closeLostWindows (s : State) : State :=
  s.intc.windows.foldl (fun s w => if s.eligible w.src w.hand then s else s.closeWindow w.src true) s

/-- Stages a record that no hand takes, with the records that this causes (15 R344, R348). -/
def State.stagePost (ev : Event) (s : State) : State :=
  let r := s.stage ev none false
  r.2.foldl (fun s f => s.post f.1 f.2.1 f.2.2) r.1

/-- Takes the records staged for a queue out of its order and posts them again, as at this instant (15 R352, R433). A window
that has lost its hand closes before any of them is routed (R346). -/
def State.rerouteQueue (q : QueueId) (s : State) : State :=
  let s := s.closeLostWindows
  let recs := s.intc.staging.filter (fun r => r.hand = some (handOf q))
  let s := s.onIntc fun i => { i with staging := i.staging.filter (fun r => r.hand ≠ some (handOf q)) }
  let s := s.onEvq q fun v => { v with free := v.free + (recs.filter (·.slot)).length }
  recs.foldl (fun s r =>
    if s.srcMasked r.ev.src then
      if r.ev.type = 0x30 then s.stagePost r.ev else s.discardRecord
    else
      match s.route r.ev true with
      | some x => x.2.foldl (fun s f => s.post f.1 f.2.1 f.2.2) x.1
      | none =>
        if r.ev.type ≠ 0x30 ∧ s.srcPrio r.ev.src = 0 then s.discardRecord
        else s.stagePost r.ev) s

/-- The priority a core hand runs at (15 R349). -/
def CoreHand.run (c : CoreHand) : Nat := (c.stack.head?.map (·.2)).getD 0

/-- A pending source that may win arbitration or be claimed on core hand `h` (15 R349). -/
def State.claimable (s : State) (h : Fin 2) (src : Nat) : Bool :=
  let c := s.intc.cores.get h
  c.pend.getLsbD src && decide (s.fld (Reg.INTC_HAND_CFG h) 7 4 < s.srcPrio src) && decide (c.run < s.srcPrio src)

/-- One controller cycle of arbitration on a core hand: highest priority, then lowest source (15 R349). -/
def State.arbitrate (h : Fin 2) (s : State) : State :=
  if (s.intc.cores.get h).selected ≠ 0 then s
  else
    let best := (List.range 384).foldl (fun (b : Nat) src =>
      if s.claimable h src && (decide (b = 0) || decide (s.srcPrio b < s.srcPrio src)) then src else b) 0
    if best = 0 then s else s.onCore h fun c => { c with selected := best }

/-- Arbitration where anything is pending at all. -/
def State.arbitrateAll (s : State) : State :=
  forEach (List.finRange 2) (fun h s => if (s.intc.cores.get h).pend = 0 then s else s.arbitrate h) s

end Sys2Proof.Machine
end

