-- ==== Sys2Proof/Machine/Complete.lean ====
section
/-! DEFINITION. Completions, ring errors and device state records (03 R54 to R64). -/

namespace Sys2Proof.Machine

open Sys2Proof

def Ring.entries (r : Ring) : Nat := 2 ^ r.sizeLog2

/-- Sets error bits of DEV_RINGn_STAT 3:0 and reports those newly set (03 R62; 15 R344 RING_ERROR). -/
def State.ringError (r : RingId) (fetch post tail cfg : Bool) (s : State) : State :=
  let x := s.ring r
  let bits := b2n (fetch && !x.fetchErr) + 2 * b2n (post && !x.postErr) + 4 * b2n (tail && !x.tailErr)
    + 8 * b2n (cfg && !x.cfgErr)
  let s := s.onRing r fun x => { x with
    fetchErr := x.fetchErr || fetch, postErr := x.postErr || post
    tailErr := x.tailErr || tail, cfgErr := x.cfgErr || cfg }
  if bits = 0 then s else s.post 0x03 6 (le 1 r.val ++ le 1 bits)

/-- The 16 bytes of a completion (03 R64). -/
def Completion.bytes (c : Completion) (phase held : Bool) : Bytes :=
  le 2 c.tag ++ le 1 c.status.code ++ le 1 (b2n phase + 2 * b2n held + 128 * b2n c.replayed) ++
  le 1 c.opcode ++ le 1 c.detail ++ le 2 c.sqIndex ++ le 4 c.frame ++ le 4 c.result

/-- Writes a completion at CQ_TAIL and posts its COMPLETION record (03 R59; 15 R344). -/
def State.writeCompletion (r : RingId) (c : Completion) (held : Bool) (s : State) : State :=
  let x := s.ring r
  let a := x.base + 64 * x.entries + 16 * x.cqTail
  let data := c.bytes x.phase held
  let s := if x.isLocal then s.dramWrite a data else s.emit (.hostWrite a data)
  let tail := (x.cqTail + 1) % x.entries
  let s := s.onRing r fun x => { x with cqTail := tail, phase := if tail = 0 then !x.phase else x.phase }
  if c.quiet then s
  else s.post 0x01 (r.val + 1) (le 1 r.val ++ le 1 0 ++ le 2 tail ++ le 2 c.tag ++ le 1 c.status.code ++ le 1 c.opcode)

/-- Holds a completion in Dealer staging (03 R61, R62). -/
def State.holdCompletion (r : RingId) (c : Completion) (s : State) : State :=
  s.onRing r fun x => { x with held := x.held ++ [c] }

/-- Posts a completion, or holds it where the ring cannot be written (03 R61, R62; 16 R363, R364). -/
def State.postCompletion (r : RingId) (c : Completion) (s : State) : State :=
  let x := s.ring r
  if !x.enable || x.postErr then s.holdCompletion r c
  else if !x.isLocal && !s.host.linkUp then (s.ringError r false true false false).holdCompletion r c
  else if (!x.isLocal && !s.hostReady) || !x.held.isEmpty then s.holdCompletion r c
  else s.writeCompletion r c false

/-- Posts the completions held for a ring, oldest first, while it can be written (03 R62; 16 R364). Those held when
ENABLE was set carry HELD 1; one held since then, for POST_ERR or for the host, carries HELD 0 (DESIGN CHOICE, log 98). -/
def State.flushHeld (r : RingId) : Nat → State → State
  | 0, s => s
  | k + 1, s =>
    let x := s.ring r
    match x.held with
    | [] => s
    | c :: rest =>
      if x.enable && !x.postErr && (x.isLocal || s.hostReady) then
        ((s.onRing r fun x => { x with held := rest, heldOld := x.heldOld - 1 }).writeCompletion r c (decide (0 < x.heldOld))).flushHeld r k
      else s

/-- Completes a command: its completion goes to its window entry and its ring, and the duplicates
that waited for it are answered right after it (03 R64, R66, R69). -/
def State.complete (ref : CmdRef) (st : Status) (detail result : Nat) (s : State) : State :=
  let c : Completion := ⟨ref.tag, st, false, ref.opcode, detail, ref.sqIndex, s.timing.frame, result, ref.quiet⟩
  let dups := (s.ring ref.ring).dups.filter (fun d => d.1 = ref.id)
  let s := s.onRing ref.ring fun x => { x with
    accepted := x.accepted.filter (fun a => a.id ≠ ref.id)
    dups := x.dups.filter (fun d => d.1 ≠ ref.id)
    window := x.window.map fun w => if w.id = ref.id then { w with done := some c } else w }
  let s := s.postCompletion ref.ring c
  dups.foldl (fun s d => s.postCompletion ref.ring { c with replayed := true, sqIndex := d.2.1, quiet := d.2.2 }) s

/-- Completes OK (03 R64: DETAIL 0xFF). -/
def State.completeOk (ref : CmdRef) (result : Nat) (s : State) : State := s.complete ref .ok 0xFF result
/-- Completes with a status whose DETAIL is 0xFF and RESULT 0 (03 R64). -/
def State.completeWith (ref : CmdRef) (st : Status) (s : State) : State := s.complete ref st 0xFF 0

/-- The transition of DEV_STATE itself, with its STATE record (03 R50, R56; 15 R344). -/
def State.setDevState (new : DevState) (cause : Nat) (s : State) : State :=
  let old := s.dev.state.code
  let s := if s.dev.state = .safeLight ∧ new ≠ .safeLight then s.onFaults fun f => { f with localGroups := 0, localNext := 0 } else s
  (s.onDev fun d => { d with state := new, prev := old, cause := cause }).post 0x02 5
    (le 1 new.code ++ le 1 old ++ le 1 cause)

end Sys2Proof.Machine
end

