-- ==== Sys2Proof/Machine/Crypto.lean ====
section
/-! DEFINITION. SHA-256 and ECDSA P-256 verification, which 02 R43, 17 R393 and 17 R394 name.
PRESUMED: the spec names the algorithms; their arithmetic is that of FIPS 180-4, FIPS 186 and SEC 1. -/

namespace Sys2Proof.Machine

open Sys2Proof

/-- The largest number below `r + 2 ^ k` whose `d`-th power is at most `n`, found bit by bit from `r`. -/
def rootFloor (d n : Nat) : Nat → Nat → Nat
  | 0, r => r
  | k + 1, r => rootFloor d n k (if (r + 2 ^ k) ^ d ≤ n then r + 2 ^ k else r)

/-- The first 32 fraction bits of the `d`-th root of `p`: how FIPS 180-4 defines its constants. -/
def rootFraction (d p : Nat) : Nat := rootFloor d (p * 2 ^ (32 * d)) 36 0 % 2 ^ 32

/-- The first 64 prime numbers. -/
def shaPrimes : List Nat :=
  (List.range 312).filter fun n => decide (2 ≤ n) && (List.range n).all fun d => decide (d < 2) || n % d != 0

/-- The round constants, from cube roots. -/
def shaConstants : List Nat := shaPrimes.map (rootFraction 3)

/-- The first chaining value, from square roots. -/
def shaStart : List Nat := (shaPrimes.take 8).map (rootFraction 2)

/-- The exclusive or of `x` rotated right within 32 bits by each number of `ks`. -/
def rotXor (ks : List Nat) (x : Nat) : Nat :=
  ks.foldl (fun v k => v ^^^ (x * 2 ^ 32 + x) / 2 ^ k % 2 ^ 32) 0

/-- The compression of one block under way: the eight working variables, and the sixteen schedule words that the
next rounds take, the next one first. -/
structure ShaRun where
  vars : List Nat
  window : List Nat
deriving DecidableEq, Repr

/-- The working variables after a round whose constant and schedule word add up to `kw`. -/
def shaMix (kw : Nat) : List Nat → List Nat
  | [a, b, c, d, e, f, g, h] =>
    let t := h + kw + rotXor [6, 11, 25] e + (g ^^^ (e &&& (f ^^^ g)))
    let u := rotXor [2, 13, 22] a + ((a &&& b) ||| (c &&& (a ||| b)))
    [(t + u) % 2 ^ 32, a, b, c, (d + t) % 2 ^ 32, e, f, g]
  | v => v

/-- One round with constant `k`: it consumes the first word of the window and appends the word 16 places on. -/
def ShaRun.round (r : ShaRun) (k : Nat) : ShaRun :=
  let at' (i : Nat) := r.window.getD i 0
  let next := at' 0 + (rotXor [7, 18] (at' 1) ^^^ at' 1 / 2 ^ 3) + at' 9 + (rotXor [17, 19] (at' 14) ^^^ at' 14 / 2 ^ 10)
  { vars := shaMix (k + at' 0) r.vars, window := r.window.tail ++ [next % 2 ^ 32] }

/-- The chaining value after one 64-byte block. -/
def shaBlock (chain : List Nat) (blk : Bytes) : List Nat :=
  let words := (List.range 16).map fun i => beVal (slice blk (4 * i) 4)
  let last := shaConstants.foldl ShaRun.round { vars := chain, window := words }
  List.zipWith (fun x y => (x + y) % 2 ^ 32) chain last.vars

/-- The message with its end mark, its padding to whole blocks and its length in bits. -/
def shaPad (b : Bytes) : Bytes :=
  let l := b.length
  b ++ 0x80#8 :: zeros ((119 - l % 64) % 64) ++ (le 8 (l * 8)).reverse

/-- The SHA-256 digest as a 256-bit number, first digest byte most significant. -/
def sha256 (b : Bytes) : Nat :=
  let p := shaPad b
  let chain := (List.range (p.length / 64)).foldl (fun c i => shaBlock c (slice p (64 * i) 64)) shaStart
  chain.foldl (fun v w => v * 2 ^ 32 + w) 0

def p256P : Nat := 0xffffffff00000001000000000000000000000000ffffffffffffffffffffffff
def p256N : Nat := 0xffffffff00000000ffffffffffffffffbce6faada7179e84f3b9cac2fc632551
def p256B : Nat := 0x5ac635d8aa3a93e7b3ebbd55769886bc651d06b0cc53b0f63bce3c3e27d2604b
def p256G : Nat × Nat :=
  (0x6b17d1f2e12c4247f8bce6e563a440f277037d812deb33a0f4a13945d898c296,
   0x4fe342e2fe1a7f9b8ee7eb4a7c0f9e162bce33576b315ececbb6406837bf51f5)

/-- `b ^ e` modulo `m`, over `k` exponent bits. -/
def powMod (m : Nat) : Nat → Nat → Nat → Nat
  | 0, _, _ => 1 % m
  | k + 1, b, e =>
    let r := powMod m k (b * b % m) (e / 2)
    if e % 2 = 1 then r * b % m else r

/-- The inverse modulo a prime. -/
def invMod (p a : Nat) : Nat := powMod p 256 (a % p) (p - 2)

/-- Point addition on P-256; `none` is the point at infinity. -/
def ecAdd : Option (Nat × Nat) → Option (Nat × Nat) → Option (Nat × Nat)
  | none, q => q
  | p, none => p
  | some (x1, y1), some (x2, y2) =>
    if x1 = x2 ∧ (y1 + y2) % p256P = 0 then none
    else
      let l :=
        if x1 = x2 then (3 * x1 * x1 + (p256P - 3)) * invMod p256P (2 * y1) % p256P
        else (y2 + (p256P - y1)) * invMod p256P (x2 + (p256P - x1)) % p256P
      let x3 := (l * l + 2 * p256P - x1 - x2) % p256P
      some (x3, (l * (x1 + (p256P - x3)) + (p256P - y1)) % p256P)

/-- Scalar multiplication over `k` scalar bits, least significant first. -/
def ecMul : Nat → Nat → Option (Nat × Nat) → Option (Nat × Nat)
  | 0, _, _ => none
  | k + 1, e, p =>
    let r := ecMul k (e / 2) (ecAdd p p)
    if e % 2 = 1 then ecAdd p r else r

/-- A point of the curve other than infinity. -/
def ecOnCurve (x y : Nat) : Bool :=
  decide (x < p256P) && decide (y < p256P) &&
    decide (y * y % p256P = (x * x * x + (p256P - 3) * x + p256B) % p256P)

/-- ECDSA P-256 verification of signature bytes (r then s) over a digest with an X, Y key. -/
def ecdsaVerify (digest : Nat) (pubkey sig : Bytes) : Bool :=
  let x := beVal (slice pubkey 0 32)
  let y := beVal (slice pubkey 32 32)
  let r := beVal (slice sig 0 32)
  let s := beVal (slice sig 32 32)
  if 0 < r ∧ r < p256N ∧ 0 < s ∧ s < p256N ∧ ecOnCurve x y then
    let w := invMod p256N s
    match ecAdd (ecMul 256 (digest * w % p256N) (some p256G)) (ecMul 256 (r * w % p256N) (some (x, y))) with
    | none => false
    | some (px, _) => decide (px % p256N = r)
  else false

end Sys2Proof.Machine
end

