-- ==== Sys2Proof/Machine/Deal.lean ====
section
/-! DEFINITION. The Deal image: parsing and verification (02 R29 to R46). -/

namespace Sys2Proof.Machine

open Sys2Proof

/-- A section table entry (02 R30). -/
structure Section where
  type : Nat
  entrySize : Nat
  offset : Nat
  length : Nat
  rsvd : Nat
deriving DecidableEq, Repr

/-- The section table of an image (02 R30). -/
def dealSections (b : Bytes) : List Section :=
  (List.range (rd b 23 1)).map fun i =>
    let o := 64 + 16 * i
    ⟨rd b o 2, rd b (o + 2) 2, rd b (o + 4) 4, rd b (o + 8) 4, rd b (o + 12) 4⟩

/-- The bytes of the section of a type; empty where it is absent. -/
def dealSection (b : Bytes) (type : Nat) : Bytes :=
  match (dealSections b).find? (fun s => s.type = type) with
  | some s => slice b s.offset s.length
  | none => []

/-- Entry `i` of a section of entry size `n`. -/
def entryOf (sec : Bytes) (n i : Nat) : Bytes := slice sec (n * i) n
/-- All entries of a section of entry size `n`. -/
def entriesOf (sec : Bytes) (n : Nat) : List Bytes := (List.range (sec.length / n)).map (entryOf sec n)

def allZero (b : Bytes) : Bool := b.all (fun x => decide (x = 0#8))

def parseTile (e : Bytes) : TileEntry where
  present := rd e 1 1 = 1
  type := rd e 2 2
  width := rd e 4 2
  height := rd e 6 2
  serial := rd e 8 4
  head := rd e 12 1
  phaseSlot := rd e 13 1
  holdFrames := rd e 14 1
  mirrorX := bitAt (rd e 15 1) 0
  mirrorY := bitAt (rd e 15 1) 1
  hotSwap := bitAt (rd e 15 1) 2
  potCap := rd e 16 2
  calPart := rd e 18 1
  fmapPart := rd e 19 1

def parseSlot (e : Bytes) : SlotEntry :=
  ⟨rd e 0 1, rd e 1 1, rd e 2 1, rd e 3 1, rd e 4 2, rd e 6 2, rd e 8 2, rd e 10 1, rd e 11 1⟩
def parseScaler (e : Bytes) : ScalerEntry := ⟨rd e 0 1, rd e 2 2, rd e 4 2, rd e 6 1, rd e 7 1⟩
def parseLoop (e : Bytes) : LoopEntry :=
  ⟨rd e 0 1, rd e 1 1, rd e 2 1,
   (List.range (rd e 3 1)).map (fun i => rd e (8 + 2 * i) 2), (List.range (rd e 4 1)).map (fun i => rd e (16 + 2 * i) 2)⟩
def parseIrq (e : Bytes) : IrqEntry := ⟨rd e 0 2, rd e 2 1, rd e 3 1⟩
def parsePart (e : Bytes) : PartEntry := ⟨rd e 0 1, rd e 1 1, rd e 2 1, rd e 3 1, rd e 8 8, rd e 16 8⟩

/-- A byte string with the bytes `off` to `off + len - 1` taken as 0. -/
def zeroAt (b : Bytes) (off len : Nat) : Bytes := b.take off ++ zeros (min len (b.length - off)) ++ b.drop (off + len)

/-- The match digest of 14 R329: ROLE, LANE and the signature taken as 0. -/
def dealMatchDigest (b : Bytes) : Nat :=
  match (dealSections b).find? (fun s => s.type = 9) with
  | some s => sha256 (zeroAt (zeroAt b s.offset 2) (b.length - 64) 64)
  | none => sha256 b

/-- The parsed image (02 R29 to R42). -/
def parseDeal (b : Bytes) : Deal :=
  let acc := dealSection b 8
  let ptn := dealSection b 9
  { seq := rd b 16 4, secVer := rd b 20 2, keySlot := rd b 22 1, sectionCount := rd b 23 1, luminaireId := rd b 24 8
    rateMask := rd b 32 1, defaultRate := rd b 33 1, hostPresent := bitAt (rd b 34 2) 0, dramMib := rd b 36 4
    tiles := (entriesOf (dealSection b 1) 32).map parseTile
    slots := (entriesOf (dealSection b 2) 16).map parseSlot
    scalers := (entriesOf (dealSection b 3) 16).map parseScaler
    loops := (entriesOf (dealSection b 4) 32).map parseLoop
    irqs := (entriesOf (dealSection b 5) 8).map parseIrq
    parts := (entriesOf (dealSection b 6) 32).map parsePart
    domainEn := rd (dealSection b 7) 0 2
    accent := if acc.isEmpty then none else some ((List.range 4).map (fun i => rd acc i 1), rd acc 4 1)
    role := rd ptn 0 1, lane := rd ptn 1 1, pairId := rd ptn 8 8
    fallbacks := (entriesOf (dealSection b 10) 2064).map (fun e => ⟨rd e 0 1, slice e 16 2048⟩)
    pubkey := slice (dealSection b 15) 0 64
    matchDigest := dealMatchDigest b }

/-! ### Step 7: structure and encodings -/

/-- The section types in the order of 02 R31, with entry size and least and greatest entry count. -/
def sectionRules : List (Nat × Nat × Nat × Nat) :=
  [(1, 32, 16, 16), (2, 16, 1, 128), (3, 16, 0, 8), (4, 32, 0, 64), (5, 8, 0, 383), (6, 32, 2, 32),
   (7, 16, 1, 1), (8, 16, 1, 1), (9, 32, 1, 1), (10, 2064, 1, 16), (15, 64, 1, 1)]

def align16 (n : Nat) : Nat := (n + 15) / 16 * 16

/-- Each section starts where the one before it ends, rounded up to 16 (02 R31); answers the end of the last. -/
def sectionsPacked : Nat → List Section → Option Nat
  | at0, [] => some at0
  | at0, s :: rest => if s.offset = at0 then sectionsPacked (align16 (s.offset + s.length)) rest else none

/-- Numbers that rise strictly. -/
def rising : List Nat → Bool
  | [] => true
  | [_] => true
  | a :: b :: r => decide (a < b) && rising (b :: r)

/-- No number twice. -/
def distinct (l : List Nat) : Bool := decide l.Nodup

/-- The header and section-table part of step 7 (02 R29 to R31). -/
def sectionsOk (b : Bytes) : Bool :=
  let ss := dealSections b
  decide (7 ≤ rd b 23 1 ∧ rd b 23 1 ≤ 11) && allZero (slice b 40 24) &&
  decide (rd b 32 1 < 32) && decide (rd b 34 2 < 2) && decide (1 ≤ rd b 16 4) && decide (rd b 20 2 ≤ 64) && decide (rd b 22 1 ≤ 3) &&
  decide (2048 ≤ rd b 36 4 ∧ rd b 36 4 ≤ 16384) &&
  rising (ss.map (·.type)) &&
  ss.all (fun s => decide (s.rsvd = 0) && match sectionRules.find? (fun r => r.1 = s.type) with
    | some (_, n, lo, hi) => decide (s.entrySize = n) && decide (s.length % n = 0) && decide (lo ≤ s.length / n) && decide (s.length / n ≤ hi)
    | none => false) &&
  [1, 2, 6, 7, 9, 10, 15].all (fun t => ss.any (fun s => s.type = t)) &&
  decide (sectionsPacked (align16 (64 + 16 * ss.length)) ss = some (b.length - 64)) &&
  -- the padding between sections (02 R31) is 0 (log 16)
  ss.all (fun s => allZero (slice b (s.offset + s.length) (align16 (s.offset + s.length) - (s.offset + s.length))))

/-- TILE encodings (02 R32). -/
def tileOk (parts : List PartEntry) (e : Bytes) (n : Nat) : Bool :=
  let t := parseTile e
  decide (rd e 0 1 = n) && decide (rd e 1 1 < 2) &&
  (if t.present then
    decide (1 ≤ t.width ∧ t.width ≤ 2048) && decide (1 ≤ t.height ∧ t.height ≤ 1024) &&
    decide (t.head ≤ 15) && decide (t.phaseSlot ≤ 15) && decide (1 ≤ t.holdFrames ∧ t.holdFrames ≤ 15) &&
    decide (rd e 15 1 < 8) && decide (1 ≤ t.potCap) && allZero (slice e 20 12) &&
    parts.any (fun p => p.part = t.calPart ∧ p.kind = 2) && parts.any (fun p => p.part = t.fmapPart ∧ p.kind = 3)
   else allZero (e.drop 2))

/-- SLOT encodings (02 R33); the partition a slot fetches surfaces from has KIND 1, surfaces (R38, log 80). -/
def slotOk (d : Deal) (e : Bytes) : Bool :=
  let t := parseSlot e
  decide (t.churn < 16) && (d.tile t.churn).present && decide (t.slot < 8) &&
  ((decide (t.role = 1) && decide (t.slot = 0)) || (decide (t.role = 2) && decide (t.slot = 1 ∨ t.slot = 2)) ||
   (decide (t.role = 3) && decide (3 ≤ t.slot))) &&
  decide (t.ringMask < 16) && decide (1 ≤ t.maxW ∧ t.maxW ≤ 4096) && decide (1 ≤ t.maxH ∧ t.maxH ≤ 4096) &&
  decide (t.formatMask < 512) && (if t.role = 2 then decide (t.scaler < 8) else decide (t.scaler = 0xFF)) &&
  (if t.role = 1 then decide (t.part = 0xFF) else d.parts.any (fun p => decide (p.part = t.part) && decide (p.kind = 1))) && allZero (slice e 12 4)

/-- SCALER encodings (02 R34). -/
def scalerOk (e : Bytes) : Bool :=
  let t := parseScaler e
  decide (t.scaler < 8) && decide (rd e 1 1 = 0) && decide (1 ≤ t.maxSrcW ∧ t.maxSrcW ≤ 4096) &&
  decide (1 ≤ t.maxVtaps ∧ t.maxVtaps ≤ 8) && decide (1 ≤ t.maxHtaps ∧ t.maxHtaps ≤ 8) && allZero (slice e 8 8)

def inSignalOk (c : Nat) : Bool :=
  ((decide (c / 256 = 1) || decide (c / 256 = 2) || decide (c / 256 = 3)) && decide (c % 256 < 16)) ||
  (decide (c / 256 = 4) && decide (c % 256 < 96))
def outSignalOk (c : Nat) : Bool :=
  ((decide (c / 256 = 0x11) || decide (c / 256 = 0x12)) && decide (c % 256 < 16)) ||
  (decide (c / 256 = 0x13) && decide (c % 256 < 48))

/-- The tiles whose signals a loop uses (02 R36). -/
def LoopEntry.tiles (l : LoopEntry) : List Nat :=
  ((l.ins.filter (fun c => decide (c / 256 < 4))) ++ (l.outs.filter (fun c => decide (c / 256 < 0x13)))).map (· % 256)
/-- The group of a loop; `none` for a chip-wide one (02 R36). -/
def LoopEntry.group (l : LoopEntry) : Option Nat := l.tiles.head?.map groupOf

/-- The class of output code that each KIND allows (11 R254). -/
def kindOutOk (kind c : Nat) : Bool := decide (c / 256 = if kind ≤ 2 then 0x10 + kind else 0x13)

/-- LOOP encodings (02 R35, R36; 11 R254). -/
def loopOk (e : Bytes) : Bool :=
  let t := parseLoop e
  decide (t.loop < 64) && decide (t.order = 2 ∨ t.order = 4 ∨ t.order = 8) && decide (1 ≤ t.kind ∧ t.kind ≤ 4) &&
  decide (1 ≤ rd e 3 1 ∧ rd e 3 1 ≤ 4) && decide (1 ≤ rd e 4 1 ∧ rd e 4 1 ≤ 4) && allZero (slice e 5 3) &&
  t.ins.all inSignalOk && t.outs.all outSignalOk && t.outs.all (kindOutOk t.kind) && allZero (slice e 24 8) &&
  allZero (slice e (8 + 2 * t.ins.length) (8 - 2 * t.ins.length)) &&
  allZero (slice e (16 + 2 * t.outs.length) (8 - 2 * t.outs.length)) &&
  (t.tiles.all fun n => decide (some (groupOf n) = t.group))

def irqOk (e : Bytes) : Bool :=
  let t := parseIrq e
  decide (1 ≤ t.src ∧ t.src ≤ 383) && decide (t.prio ≤ 15) && allZero (slice e 4 4)

def overlap (b1 s1 b2 s2 : Nat) : Bool := decide (b1 < b2 + s2) && decide (b2 < b1 + s1)

/-- MEMPART encodings of one entry (02 R38). BASE + SIZE within DRAM_SIZE_MIB is judged at step 8 (log 16). -/
def partOk (e : Bytes) : Bool :=
  let t := parsePart e
  decide (t.part < 32) && decide (1 ≤ t.kind ∧ t.kind ≤ 5) && (decide (t.group < 4) || decide (t.group = 0xFF)) &&
  decide (t.access < 8) && allZero (slice e 4 4) && decide (t.base % 65536 = 0) && decide (t.size % 65536 = 0) &&
  decide (0 < t.size) && allZero (slice e 24 8)

/-- No two partitions overlap (02 R38). -/
def partsApart : List PartEntry → Bool
  | [] => true
  | p :: ps => ps.all (fun q => !overlap p.base p.size q.base q.size) && partsApart ps

/-- The CHURN and LINK bits that agree with the declared tiles (02 R39). -/
def groupBits (d : Deal) : Nat :=
  (List.range 4).foldl (fun v g =>
    if (List.range 4).any (fun i => (d.tile (4 * g + i)).present) then v + 2 ^ (7 + g) + 2 ^ (11 + g) else v) 0

/-- The accent group of an accent channel: 12 channels each (02 R40; 13). -/
def accentGroupOf (c : Nat) : Nat := c / 12

/-- ACCENT encodings (02 R40): a group with value 2 has a KIND 4 loop whose outputs are its channels. -/
def accentOk (d : Deal) (e : Bytes) : Bool :=
  e.isEmpty ||
  ((List.range 4).all fun g => decide (rd e g 1 ≤ 2) &&
      (decide (rd e g 1 ≠ 2) || d.loops.any (fun l => decide (l.kind = 4) &&
        l.outs.all (fun o => decide (o / 256 = 0x13) && decide (accentGroupOf (o % 256) = g))))) &&
  decide (rd e 4 1 ≤ 1) && allZero (e.drop 5)

/-- PARTNER encodings (02 R41). -/
def partnerOk (e : Bytes) : Bool :=
  decide (rd e 0 1 ≤ 2) && decide (rd e 1 1 ≤ 1) && allZero (slice e 2 6) && allZero (e.drop 16) &&
  (decide (rd e 0 1 ≠ 0) || (decide (rd e 1 1 = 0) && decide (rd e 8 8 = 0)))

/-- One FALLBACK entry for each declared tile, in any order (02 R31, R42). -/
def fallbacksOk (d : Deal) : Bool :=
  distinct (d.fallbacks.map (·.tile)) &&
  ((List.range 16).all fun n => (d.tile n).present == d.fallbacks.any (fun f => f.tile = n)) && d.fallbacks.all (fun f => decide (f.tile < 16))

/-- Step 7 of 02 R43. DESIGN CHOICE (log 88): two entries for one scaler, loop, source, partition number or churn and slot,
and an output code that stands twice in one LOOP entry, make the image INVALID; the spec does not say what they do. -/
def dealEncodingOk (b : Bytes) : Bool :=
  sectionsOk b &&
  (let d := parseDeal b
   let pw := dealSection b 7
   ((List.range 16).all fun n => tileOk d.parts (entryOf (dealSection b 1) 32 n) n) &&
   (entriesOf (dealSection b 2) 16).all (slotOk d) &&
   distinct (d.slots.map fun e => e.churn * 8 + e.slot) &&
   ((List.range 16).all fun n => !(d.tile n).present || d.slots.any (fun e => e.churn = n ∧ e.slot = 0 ∧ e.role = 1)) &&
   (entriesOf (dealSection b 3) 16).all scalerOk && distinct (d.scalers.map (·.scaler)) &&
   (entriesOf (dealSection b 4) 32).all loopOk && distinct (d.loops.map (·.loop)) && distinct (d.loops.flatMap (·.outs)) &&
   (entriesOf (dealSection b 5) 8).all irqOk && distinct (d.irqs.map (·.src)) &&
   (entriesOf (dealSection b 6) 32).all partOk && distinct (d.parts.map (·.part)) && partsApart d.parts &&
   decide ((d.parts.filter (fun p => p.kind = 5)).map (·.size) = [67108864]) &&
   decide ((d.parts.filter (fun p => p.kind = 4)).length = 1) &&
   allZero (pw.drop 2) &&
   decide (d.domainEn = 0x7B + 4 * b2n d.hostPresent + groupBits d) &&
   accentOk d (dealSection b 8) && partnerOk (dealSection b 9) &&
   (entriesOf (dealSection b 10) 2064).all (fun e => allZero (slice e 1 15)) &&
   fallbacksOk d)

/-- Step 8 of 02 R43. -/
def dealLimitsOk (s : State) (d : Deal) : Bool :=
  decide (d.dramMib ≤ s.memc.sizeGib * 1024) &&
  d.parts.all (fun p => decide (p.base + p.size ≤ d.dramMib * 1048576) && decide (p.base + p.size ≤ s.dataSpace)) &&
  (decide (d.rateMask / 8 = 0) || d.tiles.all (fun t => decide (t.width * t.height ≤ 1048576))) &&
  bitAt d.rateMask d.defaultRate

/-- Verification of an image of a supplied length (02 R43). `fresh`: step 6 applies, against the Deal in force. -/
def verifyDeal (s : State) (b : Bytes) (len : Nat) (fresh : Bool) : Status :=
  let size := rd b 8 4
  if ¬(1024 ≤ size ∧ size ≤ 262144 ∧ size % 16 = 0 ∧ size = len ∧ b.length = len) then .invalid
  else if ¬(rd b 0 4 = 0x4C454451 ∧ rd b 4 2 = 1 ∧ rd b 6 2 = 64 ∧ rd b 12 4 = 0x51543216) then .invalid
  else
    let pub := slice (dealSection b 15) 0 64
    let key := s.power.efuseShown.keys.toList.getD (rd b 22 1) {}
    if ¬(pub.length = 64 ∧ rd b 22 1 ≤ 3 ∧ key.hash = some (sha256 pub) ∧ key.revoked = false) then .auth
    else if !ecdsaVerify (sha256 (b.take (size - 64))) pub (b.drop (size - 64)) then .auth
    else if rd b 20 2 < s.power.efuseShown.dealRb then .auth
    else if fresh && (match s.theDeal with
      | some d => decide (rd b 16 4 ≤ d.seq)
      | none => false) then .auth
    else if !dealEncodingOk b then .invalid
    else if !dealLimitsOk s (parseDeal b) then .range
    else .ok

/-- Group `g` owns an interrupt source (02 R37). -/
def sourceTile (src : Nat) : Option Nat :=
  if 48 ≤ src ∧ src ≤ 111 then some ((src - 48) / 4)
  else if 112 ≤ src ∧ src ≤ 175 then some ((src - 112) / 4)
  else if 176 ≤ src ∧ src ≤ 239 then some ((src - 176) / 4)
  else none

/-- What REDEAL_GROUP asks of a new image beside 02 R43 (02 R46). -/
def redealOk (old new : Deal) (g : Nat) : Bool :=
  let out := fun (n : Nat) => !decide (groupOf n = g)
  let reach := fun (m : Nat) => (List.range 16).any (fun n => bitAt m n && out n)
  let outTiles := (List.range 16).filter out
  decide (old.keySlot = new.keySlot ∧ old.sectionCount = new.sectionCount ∧ old.luminaireId = new.luminaireId ∧ old.rateMask = new.rateMask ∧
    old.defaultRate = new.defaultRate ∧ old.hostPresent = new.hostPresent ∧ old.dramMib = new.dramMib) &&
  decide (old.role = new.role ∧ old.lane = new.lane ∧ old.pairId = new.pairId ∧ old.accent = new.accent ∧ old.pubkey = new.pubkey) &&
  ((List.range 15).all fun k => decide (k = 7 + g) || decide (k = 11 + g) || decide (bitAt old.domainEn k = bitAt new.domainEn k)) &&
  outTiles.all (fun n => decide (old.tile n = new.tile n)) &&
  decide (old.fallbacks.filter (fun f => out f.tile) = new.fallbacks.filter (fun f => out f.tile)) &&
  ((old.slots.filter (fun e => out e.churn)).all fun e => decide (new.slotEntry e.churn e.slot = some e)) &&
  ((new.slots.filter (fun e => out e.churn)).all fun e => decide (old.slotEntry e.churn e.slot = some e)) &&
  ((old.scalers.filter (fun e => reach e.churnMask)).all fun e => new.scalers.contains e) &&
  ((new.scalers.filter (fun e => reach e.churnMask)).all fun e => old.scalers.contains e) &&
  ((old.loops.filter (fun l => !decide (l.group = some g))).all fun l => decide (new.loopEntry l.loop = some l)) &&
  ((new.loops.filter (fun l => !decide (l.group = some g))).all fun l => decide (old.loopEntry l.loop = some l)) &&
  (let outSrc := fun (e : IrqEntry) => match sourceTile e.src with
     | some n => out n
     | none => true
   (old.irqs.filter outSrc).all (fun e => new.irqs.contains e) && (new.irqs.filter outSrc).all (fun e => old.irqs.contains e)) &&
  ((old.parts.filter (fun p => !decide (p.group = g))).all fun p => new.parts.contains p) &&
  ((new.parts.filter (fun p => !decide (p.group = g))).all fun p => old.parts.contains p)

/-- The hands a source may ever reach (15 R343; 02 R37). -/
def State.handMask (s : State) (src : Nat) : Nat :=
  match s.theDeal with
  | none => if 1 ≤ src ∧ src ≤ 6 then 0xFF else 0
  | some d => ((d.irqs.find? (fun e => e.src = src)).map (·.handMask)).getD 0

/-- A source takes the priority and HAND_MASK of its entry in the Deal in force (15 R343). -/
def State.loadSource (src : Nat) (s : State) : State :=
  let e := s.theDeal.bind (·.irqs.find? (fun e => e.src = src))
  let prio := match s.theDeal with
    | none => if 1 ≤ src ∧ src ≤ 6 then 1 else 0
    | some _ => (e.map (·.prio)).getD 0
  let mask := s.handMask src
  let off := Reg.INTC_SRC_CFG src
  let s := (s.setFld off 3 0 prio).setFld off 23 16 mask
  let s := s.closeWindow src true
  forEach (List.finRange 2) (fun h s =>
    if bitAt mask h then s else s.onCore h fun c => { c with pend := c.pend &&& ~~~(1#384 <<< src) }) s

end Sys2Proof.Machine
end

