-- ==== Sys2Proof/Machine/Faults.lean ====
section
/-! DEFINITION. The fault collector: classes, raises, the first-error latch, the reaction timer, the pins (14). -/

namespace Sys2Proof.Machine

open Sys2Proof

/-- The class of the group inputs by offset: 1 C, 2 D, 3 U (14 R317). -/
def groupClass (off : Nat) : Nat := match off with
  | 0 => 1
  | 7 => 1
  | 8 => 3
  | 9 => 3
  | 14 => 3
  | 15 => 0
  | _ => 2

/-- The class of an input: 1 C, 2 D, 3 U, 4 F, 0 for one the tables do not list (14 R317). -/
def faultClass (i : Nat) : Nat :=
  if i ≤ 4 then 3
  else if i = 6 ∨ i = 8 ∨ i = 32 ∨ i = 34 ∨ i = 112 then 1
  else if i = 13 ∨ i = 15 ∨ i = 22 then 4
  else if i = 14 ∨ i = 20 ∨ i = 21 ∨ i = 26 then 3
  else if i = 23 then 0
  else if i ≤ 28 then 2
  else if i = 33 ∨ i = 35 ∨ i = 36 ∨ (40 ≤ i ∧ i ≤ 44) ∨ (113 ≤ i ∧ i ≤ 116) then 2
  else if 48 ≤ i ∧ i ≤ 111 then groupClass (i % 16)
  else 0

def faultInputs : List Nat := List.range 128
/-- Set bits of a class. -/
def countClass (v : BitVec 128) (cls : Nat) : Nat :=
  if v = 0 then 0 else (faultInputs.filter fun i => v.getLsbD i && decide (faultClass i = cls)).length
/-- Class U pending bits that were not injected (R320). -/
def Faults.urgent (f : Faults) : Nat := countClass (f.pend &&& f.real) 3
/-- Class F pending bits that were not injected (R321). -/
def Faults.fatal (f : Faults) : Nat := countClass (f.pend &&& f.real) 4
/-- REACT_MS in force (R340). -/
def State.reactMs (s : State) : Nat := max 1 (min 1000 (s.fld Reg.FLT_CFG 9 0))
/-- Starts the reaction timer from REACT_MS. -/
def State.startTimer (s : State) : State :=
  let ms := s.reactMs
  s.onFaults fun f => { f with timer := some ⟨s.lamp, ms⟩ }

/-- A record still in staging no longer says that its raise was latched, the lower input of the same sample being the one
(R319, R338); one already written keeps what it said (DESIGN CHOICE, log 109). -/
def StagedRec.unlatch (time : Nat) (r : StagedRec) : StagedRec :=
  let flags := rd r.ev.payload 1 1
  if r.ev.type = 0x90 ∧ r.ev.time = time % 2 ^ 32 ∧ bitAt flags 5 then
    { r with ev := { r.ev with payload := r.ev.payload.take 1 ++ le 1 (flags - 32) ++ r.ev.payload.drop 2 } }
  else r

/-- The latch takes a raise (R319), and says whether this raise is the one latched. -/
def State.latch (e : FirstErr) (s : State) : State × Bool := match s.faults.first with
  | none => (s.onFaults fun f => { f with first := some e }, true)
  | some o =>
    if o.time = e.time ∧ e.input < o.input then
      ((s.onIntc fun i => { i with staging := i.staging.map (StagedRec.unlatch e.time) }).onFaults fun f =>
        { f with first := some { e with overflow := true } }, true)
    else (s.onFaults fun f => { f with first := some { o with overflow := true } }, false)

/-- The FAULT record of a raise (R338). -/
def State.faultRecord (input cls detail : Nat) (latched injected broken : Bool) (s : State) : State :=
  s.post 0x90 (15 + cls) (le 1 input ++ le 1 (cls + 32 * b2n latched + 64 * b2n injected + 128 * b2n broken) ++ le 2 detail ++
    le 1 (countClass s.faults.pend 3) ++ zeros 3 ++ le 8 (s.lamp % 2 ^ 64))

/-- A group input that makes its group local when it becomes set in SAFE_LIGHT (R324). -/
def localInput (input : Nat) : Bool := decide (48 ≤ input ∧ input ≤ 111) && decide (faultClass input = 3)

/-- A raise of a class, 1 C to 4 F (R318). -/
def State.raiseAs (input cls detail : Nat) (injected broken : Bool) (s : State) : State :=
  let urgent := s.faults.urgent
  let s := s.onFaults fun f => { f with
    pend := if 2 ≤ cls then f.pend ||| (1#128 <<< input) else f.pend
    real := if 2 ≤ cls ∧ ¬injected then f.real ||| (1#128 <<< input) else f.real
    cntC := if cls = 1 then satAdd 0xFFFF f.cntC 1 else f.cntC
    cntD := if cls = 2 then satAdd 0xFFFF f.cntD 1 else f.cntD
    localNext := if localInput input ∧ s.dev.state = .safeLight then f.localNext ||| (1#4 <<< ((input - 48) / 16)) else f.localNext
    fatalDue := if cls = 4 ∧ ¬injected ∧ f.fatalDue.isNone then some 0x0C else f.fatalDue }
  let takes := decide (cls ≠ 1) || s.bit Reg.FLT_CFG 10
  let r := if takes then s.latch ⟨input, cls, detail, broken, injected, s.lamp, false⟩ else (s, false)
  let s := if decide (cls ≠ 1) || r.1.bit Reg.FLT_CFG 11 then r.1.faultRecord input cls detail r.2 injected broken else r.1
  if ¬injected ∧ urgent = 0 ∧ s.faults.urgent ≠ 0 then s.startTimer else s

/-- Raises an input with its DETAIL, by its class (R318); an input that no table lists is never raised (R317). -/
def State.raise (input detail : Nat) (s : State) : State :=
  let cls := faultClass input
  if cls = 0 then s else s.raiseAs input cls (detail % 65536) false false

/-- A pair that broke is not raised again until it has gone 1 ms without reading invalid (R316). What a pair reads between two
BROKEN_PAIR commands is taken as valid (DEDUCED, log 108). -/
def State.stillBroken (s : State) (input : Nat) : Bool :=
  s.faults.brokenAt.any fun b => decide (b.1 = input ∧ s.lamp < b.2 + msCounts 1)

/-- A pair reads invalid at two consecutive samples (R316). -/
def State.brokenPair (input : Nat) (s : State) : State :=
  let cls := faultClass input
  if cls = 0 then s
  else
    let again := s.stillBroken input
    let s := s.onFaults fun f => { f with brokenAt := (input, s.lamp) :: f.brokenAt.filter (fun b => b.1 ≠ input) }
    if again then s
    else (s.onFaults fun f => { f with broken := f.broken ||| (1#128 <<< input) }).raiseAs input (max 2 cls) 0xFFFF false true

/-- A write to FLT_INJECT (R318). -/
def State.inject (w : Nat) (s : State) : State :=
  let input := bitsOf w 6 0
  let cls := faultClass input
  if cls = 0 then s else s.raiseAs input cls (bitsOf w 31 16) true false

/-- The reaction timer stops with the last class U bit that was not injected (R320). -/
def State.timerCheck (s : State) : State :=
  if s.faults.urgent = 0 then s.onFaults fun f => { f with timer := none, expired := false } else s

/-- A write to FLT_PENDw (R319, R340): class F bits cannot be cleared in FATAL. -/
def State.clearPend (w v : Nat) (s : State) : State :=
  let kept (b : Nat) : Bool := decide (s.dev.state = .fatal) && decide (faultClass (32 * w + b) = 4)
  let m := (List.range 32).foldl (fun (m : BitVec 128) b => if bitAt v b && !kept b then m ||| (1#128 <<< (32 * w + b)) else m) 0
  (s.onFaults fun f => { f with pend := f.pend &&& ~~~m, real := f.real &&& ~~~m }).timerCheck

/-- A write of 1 to VALID clears the latch (R319). -/
def State.clearFirst (s : State) : State := s.onFaults fun f => { f with first := none }

/-- The lowest set class U input. -/
def Faults.lowestUrgent (f : Faults) : Nat := (faultInputs.find? fun i => f.pend.getLsbD i && decide (faultClass i = 3)).getD 0

/-- SAFE_LIGHT is entered at the end of the present command, from LIT or HOLD (R50). -/
def State.safeLightDue (cause : Nat) (s : State) : State :=
  if s.dev.state = .lit ∨ s.dev.state = .hold then
    s.onFaults fun f => { f with safeDue := if f.safeDue.isNone then some cause else f.safeDue }
  else s

/-- Expiry of the reaction timer (R320, R321, R338). -/
def State.timerExpiry (s : State) : State := match s.faults.timer with
  | none => s
  | some t =>
    let s := s.advanceTo (t.start + msCounts t.ms)
    let s := s.onFaults fun f => { f with timer := none, expired := true }
    let moves := decide (s.dev.state = .lit ∨ s.dev.state = .hold) && decide (s.faults.fatal = 0)
    let after := if moves then DevState.safeLight else s.dev.state
    let s := s.post 0x91 20 (le 1 s.dev.state.code ++ le 1 after.code ++ le 2 t.ms ++ le 1 s.faults.lowestUrgent ++ zeros 3 ++
      le 8 (s.lamp % 2 ^ 64))
    if moves then s.safeLightDue 0x09 else s

/-- The fault pins signal OK (R322). -/
def State.pinsOk (s : State) : Bool :=
  let f := s.faults
  decide (s.dev.state = .dealt ∨ s.dev.state = .lit ∨ s.dev.state = .hold) &&
  decide (countClass f.pend 3 = 0) && decide (countClass f.pend 4 = 0) &&
  (!s.bit Reg.FLT_CFG 12 || decide (countClass f.pend 2 = 0 ∧ countClass f.pend 1 = 0))
/-- The pins follow (R322). -/
def State.drivePins (s : State) : State :=
  let bad := !s.pinsOk
  if bad = s.faults.pinFault then s else (s.onFaults fun f => { f with pinFault := bad }).emit (.faultPins (!bad))

/-- "Reported to the fault collector as an uncorrectable memory read" (14 R317 input 9; 16 R377): `kind` and `idx` as DETAIL codes them. -/
def State.dramUncorr (kind idx addr : Nat) (s : State) : State :=
  let code := idx + 16 * kind
  (s.onMemc fun m => { m with eccUncorr := satAdd 0xFFFF m.eccUncorr 1, eccLast := addr, eccReq := code }).raise 9 code

end Sys2Proof.Machine
end

