-- ==== Sys2Proof/Machine/Surfaces.lean ====
section
/-! DEFINITION. Surface headers, Curd decoding and the scalers: from DRAM to per-pixel intensity and alpha (06). -/

namespace Sys2Proof.Machine

open Sys2Proof

def isYuv (f : Nat) : Bool := decide (f = 4) || decide (f = 5)
def isCurd (f : Nat) : Bool := decide (6 ≤ f) && decide (f ≤ 8)

/-- Minimum pitch of plane 0 (06 R129). -/
def minPitch0 (f w : Nat) : Nat :=
  match f with
  | 0 => 2 * w | 1 => w | 2 => 2 * w | 3 => 3 * w | 4 => w | 5 => 2 * w
  | _ => 4 * ceilDiv w 16
/-- Minimum pitch of plane 1 of a YUV format (06 R129). -/
def minPitch1 (f w : Nat) : Nat := if f = 4 then w else if f = 5 then 2 * w else 0
/-- Bytes per source pixel in a scaler line buffer, column B (06 R129). -/
def lineBytes (f : Nat) : Nat := match f with
  | 2 => 4 | 3 => 6 | 4 => 6 | 5 => 6 | _ => 2
/-- Rows of plane 0: lines, or block rows of a Curd format (06 R129, R130). -/
def rows0 (f h : Nat) : Nat := if isCurd f then ceilDiv h 4 else h

/-- The captured header (06 R127). -/
def parseSurf (b : Bytes) : SurfHdr where
  format := rd b 4 1
  fullRange := bitAt (rd b 5 1) 0
  matrix601 := bitAt (rd b 5 1) 1
  width := rd b 8 2
  height := rd b 10 2
  data0 := rd b 16 4
  pitch0 := rd b 20 4
  data1 := rd b 24 4
  pitch1 := rd b 28 4
  size := rd b 32 4

/-- The header is well formed (06 R128). -/
def surfWellFormed (b : Bytes) : Bool :=
  let h := parseSurf b
  let two := isYuv h.format || isCurd h.format
  let end0 := h.data0 + h.pitch0 * rows0 h.format h.height
  let end1 := h.data1 + h.pitch1 * (h.height / 2)
  decide (rd b 0 4 = 0x46525351) && decide (rd b 6 2 = 64) && (slice b 36 28).all (fun x => decide (x = 0#8)) &&
  decide (h.format ≤ 8) && decide (rd b 5 1 < 4) && (isYuv h.format || decide (rd b 5 1 = 0)) &&
  decide (1 ≤ h.width ∧ h.width ≤ 4096 ∧ 1 ≤ h.height ∧ h.height ≤ 4096) &&
  (!isYuv h.format || decide (h.width % 2 = 0 ∧ h.height % 2 = 0)) &&
  decide (h.data0 % 64 = 0 ∧ h.pitch0 % 64 = 0 ∧ h.data1 % 64 = 0 ∧ h.pitch1 % 64 = 0 ∧ 64 ≤ h.data0) &&
  decide (minPitch0 h.format h.width ≤ h.pitch0) && (!isYuv h.format || decide (minPitch1 h.format h.width ≤ h.pitch1)) &&
  (two || decide (h.data1 = 0 ∧ h.pitch1 = 0)) && (!isCurd h.format || decide (h.pitch1 = 0)) &&
  decide (end0 ≤ h.size) &&
  (!isYuv h.format || (decide (64 ≤ h.data1) && decide (end0 ≤ h.data1 ∨ end1 ≤ h.data0) && decide (end1 ≤ h.size))) &&
  (!isCurd h.format || (decide (end0 ≤ h.data1) && decide (h.data1 ≤ h.size)))

/-! ### Curd (06 R130 to R133) -/

/-- A decoded Curd block: failed, transparent, or 64 values. -/
inductive CurdBlock where
  | failed
  | transparent
  | values (v : List Nat)
deriving DecidableEq, Repr

/-- The K-bit field at bit position K·i of a residual string read as one number. -/
def residual (bits k i : Nat) : Nat := (bits >>> (k * i)) % 2 ^ k

/-- The 64 values of a CURD-L block's bytes; `none` where it fails to decode (06 R131, R133). -/
def curdL (units : Nat) (b : Bytes) : Option (List Nat) :=
  let h := rd b 0 1
  let mode := h % 4
  let k := h / 16
  let base := rd b 1 2
  let size := match mode with
    | 0 => 131 | 1 => 3 | _ => 3 + 8 * k
  if h / 4 % 4 ≠ 0 ∨ mode = 3 ∨ units ≠ ceilDiv size 16 then none
  else if mode = 0 then (if k = 0 ∧ base = 0 then some ((List.range 64).map fun i => rd b (3 + 2 * i) 2) else none)
  else if mode = 1 then (if k = 0 then some (List.replicate 64 base) else none)
  else if k = 0 then none
  else
    let r := leVal (slice b 3 (8 * k))
    let vs := (List.range 64).map fun i => base + residual r k i
    if vs.all (fun v => decide (v ≤ 0xFFFF)) then some vs else none

/-- The 64 values of a CURD-2 or CURD-4 block (06 R132). -/
def curdFixed (n maxShift : Nat) (b : Bytes) : Option (List Nat) :=
  let sub := 2 + 2 * n
  let word := fun q => rd b (sub * q) 2
  if (List.range 4).all (fun q => decide (word q / 4096 ≤ maxShift)) then
    some ((List.range 64).map fun i =>
      let q := i % 16 / 4
      let j := 4 * (i / 16) + i % 4
      let r := residual (leVal (slice b (sub * q + 2) (2 * n))) n j
      min (word q % 4096 * 16 + r * 2 ^ (word q / 4096)) 0xFFFF)
  else none

/-- What an index entry alone says of its block (06 R130, R133): it fails, the block is transparent, or it lies at an
offset of the surface in so many units of 16 bytes. -/
inductive CurdEntry where
  | failed
  | transparent
  | at (off units : Nat)
deriving DecidableEq, Repr

/-- Address of the index entry of block (bx, by). -/
def entryAddr (base : Nat) (h : SurfHdr) (bx byy : Nat) : Nat := base + h.data0 + byy * h.pitch0 + 4 * bx
/-- The index entry of block (bx, by); a format of one block size fixes its length. -/
def curdEntry (s : State) (base : Nat) (h : SurfHdr) (bx byy : Nat) : CurdEntry :=
  let entry := leVal (s.dramRead (entryAddr base h bx byy) 4)
  let off := h.data1 + 16 * (entry % 2 ^ 28)
  let units := entry / 2 ^ 28 + 1
  if units = 16 then (if entry % 2 ^ 28 = 0xFFFFFFF then .transparent else .failed)
  else if h.size < off + 16 * units ∨ (h.format = 7 ∧ units ≠ 4) ∨ (h.format = 8 ∧ units ≠ 2) then .failed
  else .at off units

/-- Block (bx, by) of a Curd surface at `base` (06 R130, R133). -/
def curdBlock (s : State) (base : Nat) (h : SurfHdr) (bx byy : Nat) : CurdBlock :=
  match curdEntry s base h bx byy with
  | .failed => .failed
  | .transparent => .transparent
  | .at off units =>
    let b := s.dramRead (base + off) (16 * units)
    let v := if h.format = 6 then curdL units b else if h.format = 7 then curdFixed 7 9 b else curdFixed 3 13 b
    match v with
    | some l => .values l
    | none => .failed

/-- Addresses and lengths of the data read for a source pixel; none for a block whose entry fails (06 R133). -/
def pixelSpans (s : State) (base : Nat) (h : SurfHdr) (x y : Nat) : List (Nat × Nat) :=
  let p0 := base + h.data0 + y * h.pitch0
  let p1 := base + h.data1 + y / 2 * h.pitch1
  match h.format with
  | 0 => [(p0 + 2 * x, 2)]
  | 1 => [(p0 + x, 1)]
  | 2 => [(p0 + 2 * x, 2)]
  | 3 => [(p0 + 3 * x, 3)]
  | 4 => [(p0 + x, 1), (p1 + x / 2 * 2, 2)]
  | 5 => [(p0 + 2 * x, 2), (p1 + x / 2 * 4, 4)]
  | _ =>
    (entryAddr base h (x / 16) (y / 4), 4) :: (match curdEntry s base h (x / 16) (y / 4) with
      | .at off units => [(base + off, 16 * units)]
      | _ => [])

/-- A source pixel's data reads without an uncorrectable word. -/
def pixelGood (s : State) (base : Nat) (h : SurfHdr) (x y : Nat) : Bool :=
  (pixelSpans s base h x y).all fun p => s.dramGood p.1 p.2

/-- A source pixel as 16-bit components, as it enters a line buffer (06 R138); `none` where its block fails.
The last element of a Curd sample is its alpha. -/
def samplePixel (s : State) (base : Nat) (h : SurfHdr) (x y : Nat) : Option (List Nat) :=
  let p0 := base + h.data0 + y * h.pitch0
  let p1 := base + h.data1 + y / 2 * h.pitch1
  let byte := fun a => leVal (s.dramRead a 1)
  let word := fun a => leVal (s.dramRead a 2)
  let ten := fun a => let c := word a % 1024; c * 64 + c / 16
  match h.format with
  | 0 => some [word (p0 + 2 * x)]
  | 1 => some [byte (p0 + x) * 257]
  | 2 => some [byte (p0 + 2 * x) * 257, byte (p0 + 2 * x + 1) * 257]
  | 3 => some [byte (p0 + 3 * x) * 257, byte (p0 + 3 * x + 1) * 257, byte (p0 + 3 * x + 2) * 257]
  | 4 => some [byte (p0 + x) * 257, byte (p1 + x / 2 * 2) * 257, byte (p1 + x / 2 * 2 + 1) * 257]
  | 5 => some [ten (p0 + 2 * x), ten (p1 + x / 2 * 4), ten (p1 + x / 2 * 4 + 2)]
  | _ =>
    match curdBlock s base h (x / 16) (y / 4) with
    | .failed => none
    | .transparent => some [0, 0]
    | .values v => some [v.getD (16 * (y % 4) + x % 16) 0, 0xFFFF]

/-- YUV components to intensity (06 R141). `lin` is the scaler's table. -/
def yuvToIntensity (lin : Nat → Nat) (fullRange m601 : Bool) (y cb cr : Nat) : Nat :=
  let code := fun v => min ((v + 32) / 64) 1023
  let oy : Int := if fullRange then 0 else 64
  let ky : Int := if fullRange then 16384 else 19133
  let kc : Int := if fullRange then 16384 else 18706
  let (rv, gu, gv, bu, wr, wg, wb) : Int × Int × Int × Int × Nat × Nat × Nat :=
    if m601 then (22970, 5638, 11700, 29032, 19595, 38470, 7471) else (25802, 3069, 7669, 30402, 13933, 46871, 4732)
  let yy := ((code y : Nat) - oy) * ky
  let b := ((code cb : Nat) - 512) * kc
  let r := ((code cr : Nat) - 512) * kc
  let rr := clampInt 0 1023 ((yy + rv * r / 16384 + 8192) / 16384)
  let gg := clampInt 0 1023 ((yy - gu * b / 16384 - gv * r / 16384 + 8192) / 16384)
  let bb := clampInt 0 1023 ((yy + bu * b / 16384 + 8192) / 16384)
  (wr * lin rr.toNat + wg * lin gg.toNat + wb * lin bb.toNat + 32768) / 65536

/-- Components to intensity and alpha (06 R129, R138, R141). -/
def toIntensity (lin : Nat → Nat) (h : SurfHdr) (c : List Nat) : Nat × Nat :=
  let g := fun i => c.getD i 0
  match h.format with
  | 0 => (g 0, 0xFFFF)
  | 1 => (g 0, 0xFFFF)
  | 2 => (g 0, g 1)
  | 3 => (min ((19595 * g 0 + 38470 * g 1 + 7471 * g 2 + 32768) / 65536) 0xFFFF, 0xFFFF)
  | 4 => (yuvToIntensity lin h.fullRange h.matrix601 (g 0) (g 1) (g 2), 0xFFFF)
  | 5 => (yuvToIntensity lin h.fullRange h.matrix601 (g 0) (g 1) (g 2), 0xFFFF)
  | _ => (g 0, g 1)

/-! ### Scalers (06 R137 to R141) -/

/-- LIN[i] of scaler `k` (06 R141). -/
def State.lin (s : State) (k i : Nat) : Nat := s.fld (Reg.SCL_LIN k (i / 2)) (16 * (i % 2) + 15) (16 * (i % 2))

/-- Effective taps of a filter with its tap field (06 R139). -/
def effTaps (filter field : Nat) : Nat := match filter with
  | 0 => 1 | 1 => 2 | _ => field

/-- Filter and effective taps of scaler `k` in force: vertical (0) or horizontal (1). -/
def State.scalerFilter (s : State) (k dir : Nat) : Nat := s.fld (Reg.SCL_CFG k) (2 * dir + 1) (2 * dir)
def State.scalerTaps (s : State) (k dir : Nat) : Nat :=
  effTaps (s.scalerFilter k dir) (s.fld (Reg.SCL_CFG k) (4 * dir + 11) (4 * dir + 8))

/-- Built-in coefficient of a windowed sinc of `taps` taps: the Lanczos value, to within one unit of Q2.14 (06 R139; how it
is rounded is open, log 9). Tap `t` lies t + 1 - taps/2 - phase/32 pixels from the source position. -/
def lanczosCoef (taps phase t : Nat) : Int :=
  lanczosAt (taps / 2) (32 * ((t : Int) + 1 - (taps / 2 : Nat)) - (phase : Int)) +
    ((Config.lanczosRound taps phase t % 3 : Nat) : Int) - 1

/-- Coefficient c[phase][t] (06 R139). A phase of 0 of a built-in filter returns the source (R140). -/
def State.scalerCoef (s : State) (k dir phase t : Nat) : Int :=
  match s.scalerFilter k dir with
  | 0 => 16384
  | 1 => if t = 0 then ((32 - phase) * 512 : Nat) else (phase * 512 : Nat)
  | 2 =>
    let taps := s.scalerTaps k dir
    if phase = 0 then (if t + 1 = taps / 2 then 16384 else 0)
    else lanczosCoef taps phase t
  | _ =>
    let w := dir * 128 + phase * 4 + t / 2
    signedOf 16 (s.fld (Reg.SCL_COEF k w) (16 * (t % 2) + 15) (16 * (t % 2)))

/-- Source indices and coefficients of output index `i` (06 R139, R140). -/
def State.scalerWindow (s : State) (k dir src dst i : Nat) : List (Nat × Int) :=
  let step := src * 65536 / dst
  let p : Int := (i * step : Nat) + ((step : Int) - 65536) / 2
  let idx := fun (v : Int) => (clampInt 0 ((src : Int) - 1) v).toNat
  if s.scalerFilter k dir = 0 then [(idx ((p + 32768) / 65536), 16384)]
  else
    let taps := s.scalerTaps k dir
    let ip := p / 65536
    let phase := (p / 2048 % 32).toNat
    (List.range taps).map fun t => (idx (ip - (ceilDiv taps 2 : Nat) + 1 + (t : Nat)), s.scalerCoef k dir phase t)

/-- A weighted sum of components, rounded and clamped (06 R140). -/
def weighted (rows : List (List Nat × Int)) (width : Nat) : List Nat :=
  (List.range width).map fun j =>
    let sum : Int := rows.foldl (fun (a : Int) (r : List Nat × Int) => a + r.2 * ((r.1.getD j 0 : Nat) : Int)) 0
    (clampInt 0 0xFFFF ((sum + 8192) / 16384)).toNat

/-- Each element computed, or none if any is missing. -/
def allSome {α β : Type} (f : α → Option β) : List α → Option (List β)
  | [] => some []
  | a :: as =>
    match f a, allSome f as with
    | some b, some bs => some (b :: bs)
    | _, _ => none

/-- Output pixel (i, j) of a scaled layer as components: vertical first, then horizontal (06 R138, R140). -/
def State.scaledPixel (s : State) (k : Nat) (L : Layer) (i j : Nat) : Option (List Nat) :=
  let h := L.hdr
  let vs := s.scalerWindow k 0 h.height L.h j
  let hs := s.scalerWindow k 1 h.width L.w i
  let column := fun (x : Nat) => (allSome (fun (v : Nat × Int) => (samplePixel s L.surface h x v.1).map (·, v.2)) vs)
  let n := match h.format with
    | 0 => 1 | 1 => 1 | 2 => 2 | 6 => 2 | 7 => 2 | 8 => 2 | _ => 3
  match allSome (fun (x : Nat × Int) => (column x.1).map fun rows => (weighted rows n, x.2)) hs with
  | some cols => some (weighted cols n)
  | none => none

/-- Source pixels that an output pixel of a layer needs. -/
def State.sourcesOf (s : State) (k : Option Nat) (L : Layer) (i j : Nat) : List (Nat × Nat) :=
  match k with
  | none => [(i, j)]
  | some k => (s.scalerWindow k 1 L.hdr.width L.w i).flatMap fun x =>
      (s.scalerWindow k 0 L.hdr.height L.h j).map fun y => (x.1, y.1)

/-- Intensity and alpha a layer presents at its own pixel (i, j); `none` where a block fails (06 R129, R138). -/
def State.layerPixel (s : State) (k : Option Nat) (L : Layer) (i j : Nat) : Option (Nat × Nat) :=
  match k with
  | none => (samplePixel s L.surface L.hdr i j).map (toIntensity (fun _ => 0) L.hdr)
  | some k => (s.scaledPixel k L i j).map (toIntensity (s.lin k) L.hdr)

end Sys2Proof.Machine
end

