-- ==== Sys2Proof/Machine/LayerOps.lean ====
section
/-! DEFINITION. Slot operations without the Dealer: tokens, RETIRE records, claims, order (05 R97 to R111, 06 R137, R142). -/

namespace Sys2Proof.Machine

open Sys2Proof

def State.churn (s : State) (n : TileId) : Churn := s.churns.get n
def State.onChurn (n : TileId) (f : Churn → Churn) (s : State) : State :=
  { s with churns := s.churns.set n (f (s.churns.get n)) }
def Churn.layer (c : Churn) (sl : Fin 8) : Option Layer := c.layers.get sl
def Churn.op (c : Churn) (sl : Fin 8) : Option SlotOp := c.ops.get sl
def Churn.setLayer (sl : Fin 8) (l : Option Layer) (c : Churn) : Churn := { c with layers := c.layers.set sl l }
def Churn.setOp (sl : Fin 8) (o : Option SlotOp) (c : Churn) : Churn := { c with ops := c.ops.set sl o }
/-- The eight slots in order. -/
def slotIds : List (Fin 8) := List.finRange 8

/-- Posts the RETIRE record of a commit and returns its token; in FATAL no record is posted, and the surface stays the
chip's (05 R108 to R111). -/
def State.retire (n : TileId) (sl : Fin 8) (L : Layer) (reason : Nat) (s : State) : State :=
  if s.dev.state = .fatal then s.onRing L.ring fun x => { x with kept := x.kept + 1 }
  else
    (s.onRing L.ring fun x => { x with tokensReturned := (x.tokensReturned + 1) % 2 ^ 32 }).post 0x30 (48 + 4 * n.val)
      (le 6 L.surface ++ le 1 sl.val ++ le 1 L.ring.val ++ le 4 L.gen ++ le 2 L.tag ++ le 1 reason ++ le 1 (b2n L.staleSeen))

/-- Effective vertical taps of a scaler for claims: the larger of the value in force and the pending one (06 R142). -/
def State.claimTaps (s : State) (k : Nat) : Nat :=
  let of := fun (w : Nat) => effTaps (bitsOf w 1 0) (bitsOf w 11 8)
  max (of (s.reg (Reg.SCL_CFG k)).toNat) (of (s.regPend (Reg.SCL_CFG k)).toNat)

/-- Line-buffer bytes a layer needs with `t` vertical taps (06 R142). -/
def Layer.need (t : Nat) (L : Layer) : Nat := L.hdr.width * t * lineBytes L.hdr.format

/-- Layers a slot holds: in force, and of its pending commit. -/
def Churn.slotLayers (c : Churn) (sl : Fin 8) : List Layer :=
  (c.layer sl).toList ++ ((c.op sl).bind (·.layer)).toList

/-- Claims on scaler `k` with `t` taps: each video slot that claims a context, with its bytes (06 R137, R142). -/
def State.claims (s : State) (k t : Nat) : List ((Nat × Nat) × Nat) :=
  tileIds.flatMap fun (n : TileId) => ([1, 2] : List (Fin 8)).filterMap fun (sl : Fin 8) =>
    if ((s.slotEntry n sl).map (·.scaler)) = some k then
      let ls := (s.churn n).slotLayers sl
      if ls.isEmpty then none else some ((n.val, sl.val), (ls.map (·.need t)).foldl max 0)
    else none

def claimSum (l : List ((Nat × Nat) × Nat)) : Nat := (l.map (·.2)).foldl (· + ·) 0

/-- Puts a new user into the first free context. -/
def addUser (u : Nat × Nat) : List (Option (Nat × Nat)) → List (Option (Nat × Nat))
  | [] => []
  | none :: r => some u :: r
  | x :: r => x :: addUser u r

/-- The contexts of every scaler follow the claims: a slot keeps its context while it claims one (06 R137, R145). -/
def State.refreshScalers (s : State) : State :=
  { s with scalers := Vector.ofFn fun k =>
      let who := (s.claims k 1).map (·.1)
      let kept := (s.scalers.get k).users.map fun u => match u with
        | some x => if who.contains x then u else none
        | none => none
      { users := (who.filter (fun x => !kept.contains (some x))).foldl (fun l x => addUser x l) kept } }

/-- A slot is taken out of the order and put back at position `p` (05 R98). -/
def reorder (order : List Nat) (sl p : Nat) : List Nat :=
  if p = 0 then order
  else
    let rest := order.filter (· ≠ sl)
    rest.take (p - 1) ++ [sl] ++ rest.drop (p - 1)

/-- A pending slot operation completes ABORTED; a commit's surface returns with the reason (05 R103, R106, R109).
A trump commit returned its token at acceptance (R121). -/
def State.abortSlotOp (n : TileId) (sl : Fin 8) (reason : Nat) (s : State) : State :=
  match (s.churn n).op sl with
  | none => s
  | some o =>
    let s := s.onChurn n fun c => { c.setOp sl none with staged := if sl = 0 then none else c.staged }
    let s := s.completeWith o.ref .aborted
    let s := match o.layer with
      | some L => if sl = 0 then s else s.retire n sl L reason
      | none => s
    s.refreshScalers

/-! ### Trump sets (05 R117 to R125) -/

/-- Directory entry of page `p`, 1 to 15 (05 R118). -/
def trumpEntry (img : Bytes) (p : Nat) : Bytes := slice img (64 * p) 64
/-- 16-bit run words of a page as (INDEX, length) (05 R119). -/
def trumpWords (img : Bytes) (p : Nat) : List (Nat × Nat) :=
  let e := trumpEntry img p
  (List.range (rd e 12 4 / 2)).map fun i =>
    let w := rd img (rd e 8 4 + 2 * i) 2
    (w / 4096, w % 4096 + 1)

/-- Runs grouped into lines that sum to exactly `width`; `none` where they do not (05 R119). -/
def trumpLines (width : Nat) : List (Nat × Nat) → Nat → List (Nat × Nat) → List (List (Nat × Nat)) → Option (List (List (Nat × Nat)))
  | [], sum, _, done => if sum = 0 then some done.reverse else none
  | r :: rs, sum, line, done =>
    if width < sum + r.2 then none
    else if sum + r.2 = width then trumpLines width rs 0 [] ((line ++ [r]) :: done)
    else trumpLines width rs (sum + r.2) (line ++ [r]) done

/-- Level of palette index `i` of a page (05 R118). -/
def trumpLevel (img : Bytes) (p i : Nat) : Nat := rd (trumpEntry img p) (32 + 2 * i) 2

/-- TRUMP_SUM: levels of every pixel of a page, shifted right by 8; 0 for page 0 (05 R126). -/
def TrumpSet.sum (t : TrumpSet) (p : Nat) : Nat :=
  if p = 0 then 0
  else ((trumpWords t.image p).foldl (fun a r => a + r.2 * trumpLevel t.image p r.1) 0) / 256

/-- TRUMP_SUM of a churn's page in force (05 R126). -/
def Churn.trumpSum (c : Churn) : Nat := match c.trump with
  | some t => t.sum c.page
  | none => 0

/-- The level of the page in force at window pixel (x, y); `none` outside the rectangle or transparent (05 R123). -/
def Churn.trumpPixel (c : Churn) (x y : Nat) : Option Nat :=
  match c.trump with
  | none => none
  | some t =>
    if c.page = 0 then none
    else
      let e := trumpEntry t.image c.page
      let px := rd e 0 2
      let py := rd e 2 2
      let w := rd e 4 2
      if px ≤ x ∧ x < px + w ∧ py ≤ y ∧ y < py + rd e 6 2 then
        match trumpLines w (trumpWords t.image c.page) 0 [] [] with
        | none => none
        | some ls =>
          let idx := ((ls.getD (y - py) []).foldl (fun (a : Nat × Nat) r =>
            (a.1 + r.2, if a.1 ≤ x - px ∧ x - px < a.1 + r.2 then r.1 else a.2)) (0, 0)).2
          if idx = 0 then none else some (trumpLevel t.image c.page idx)
      else none

/-- The page in force covers window line `y`. -/
def Churn.trumpCovers (c : Churn) (y : Nat) : Bool :=
  match c.trump with
  | none => false
  | some t =>
    let e := trumpEntry t.image c.page
    decide (c.page ≠ 0) && decide (rd e 2 2 ≤ y) && decide (y < rd e 2 2 + rd e 6 2)

/-- Posts a TRUMP record (05 R125). -/
def State.trumpRecord (n : TileId) (event page : Nat) (s : State) (seq : Nat) : State :=
  s.post 0x33 (51 + 4 * n.val)
    (le 1 event ++ le 1 page ++ le 2 0 ++ le 4 seq ++ le 4 (s.churn n).trumpSum)

def Churn.trumpSeq (c : Churn) : Nat := (c.trump.map (·.seq)).getD 0

end Sys2Proof.Machine
end

