-- ==== Sys2Proof/Machine/Dealer.lean ====
section
/-! DEFINITION. The Dealer's steps of 03 R66: reading, replay, waits, legality, checks and acceptance. -/

namespace Sys2Proof.Machine

open Sys2Proof

/-- The opcodes of the command table (03 R67). -/
def knownOpcodes : List Nat :=
  [0x01, 0x02, 0x03, 0x04, 0x05, 0x06, 0x07, 0x08, 0x09, 0x10, 0x11, 0x12, 0x13, 0x18, 0x19, 0x20, 0x21, 0x22, 0x23, 0x28,
   0x30, 0x31, 0x32, 0x38, 0x40, 0x48, 0x50, 0x51, 0x58, 0x60, 0x61]

/-- The device states in which a command passes step 4 (03 R70). -/
def legalIn (op : Nat) (st : DevState) : Bool :=
  let u := decide (st = .undealt)
  let d := decide (st = .dealt)
  let l := decide (st = .lit)
  let h := decide (st = .hold)
  let sl := decide (st = .safeLight)
  let f := decide (st = .fatal)
  if op = 0x01 ∨ op = 0x02 ∨ op = 0x40 then u || d || l || h || sl || f
  else if op = 0x03 ∨ op = 0x58 then u || d
  else if op = 0x04 ∨ op = 0x09 ∨ op = 0x60 ∨ op = 0x05 then d || l
  else if op = 0x06 then l || h || sl
  else if op = 0x08 then h || sl
  else if op = 0x07 then l
  else if op = 0x20 ∨ op = 0x28 then d || l
  else if op = 0x10 ∨ op = 0x11 ∨ op = 0x13 ∨ op = 0x19 ∨ op = 0x22 ∨ op = 0x38 then d || l || h
  else if op = 0x12 ∨ op = 0x18 ∨ op = 0x21 ∨ op = 0x23 ∨ op = 0x30 ∨ op = 0x31 ∨ op = 0x32 ∨ op = 0x61 then d || l || h || sl
  else if op = 0x50 ∨ op = 0x51 then u || d || l || h || sl
  else if op = 0x48 then f
  else false

/-- Commands that a locked secondary completes STATE, because the primary carries them out on both chips (14 R334). -/
def primaryOnly (op : Nat) (c : Cmd) : Bool :=
  decide (op = 0x05 ∨ op = 0x06 ∨ op = 0x07 ∨ op = 0x08 ∨ op = 0x09 ∨ op = 0x13 ∨ op = 0x20 ∨ op = 0x21 ∨ op = 0x28 ∨ op = 0x23) ||
  (decide (op = 0x22) && decide (par c 9 1 = 1))

/-- Commands that name a tile by their byte 8 (03 R66 step 4). -/
def namesTile (op : Nat) : Bool := decide (op = 0x20 ∨ op = 0x21 ∨ op = 0x22 ∨ op = 0x23 ∨ op = 0x28)
/-- State commands (03 R54). -/
def isStateCmd (op : Nat) : Bool := decide (5 ≤ op) && decide (op ≤ 8)
/-- The chip is the secondary of a locked pair (14 R334). -/
def State.lockedSecondary (s : State) : Bool := decide (s.partner.state = 2) && decide (s.role = 2)
def State.lockedPrimary (s : State) : Bool := decide (s.partner.state = 2) && decide (s.role = 1)

/-- Completion slots in use: posted and not consumed, plus reserved (03 R58). -/
def Ring.slotsUsed (x : Ring) : Nat :=
  (x.cqTail + x.entries - x.cqHead) % x.entries + x.accepted.length + x.dups.length + x.held.length

/-- The ring has a command that the Dealer may read, a state command apart (03 R50, R58, R62, R73; 16 R364). -/
def State.unread (s : State) (r : RingId) : Bool :=
  let x := s.ring r
  decide (s.dev.state = .undealt ∨ s.dev.state = .dealt ∨ s.dev.state = .lit ∨ s.dev.state = .hold ∨
    s.dev.state = .safeLight ∨ s.dev.state = .fatal) &&
  x.enable && !x.fetchErr && x.waiting.isNone && decide (x.sqHead ≠ x.sqTail) &&
  decide (x.slotsUsed + 1 < x.entries) && decide (x.accepted.length < 64) &&
  (x.isLocal || !s.host.linkUp || s.hostReady)

/-- The rings whose turn comes before ring `r`'s: those after the one served last (R74); none before the first command
(DESIGN CHOICE, log 96). -/
def State.turnsBefore (s : State) (r : RingId) : List RingId := match s.dealer.last with
  | none => []
  | some q => ((List.range 3).map fun k => (⟨(q.val + 1 + k) % 4, Nat.mod_lt _ (by decide)⟩ : RingId)).takeWhile (· ≠ r)

/-- It is ring `r`'s turn: no ring before it has a command to read (R74). While a state command waits, such a ring may be
one that waits with another (R54). -/
def State.turnOf (s : State) (r : RingId) : Bool :=
  (s.turnsBefore r).all fun q => !s.unread q || s.dev.stateCmd.isSome

/-- The Dealer may read the command `op` of the ring now. -/
def State.canRead (s : State) (r : RingId) (op : Nat) : Bool :=
  s.unread r && !(isStateCmd op && s.dev.stateCmd.isSome) && s.turnOf r

/-- What a command does once its header, replay, waits and device-state legality have passed: steps 4 (tile state) to 7. -/
abbrev Body := Cmd → CmdRef → State → State

/-- The first header byte that is malformed (03 R63; step 1 of R66). -/
def headerFault (op : Nat) (c : Cmd) : Option Nat :=
  if ¬ knownOpcodes.contains op then some 0
  else if c.flags.toNat / 4 ≠ 0 then some 1
  else if c.waitCtl.toNat / 4 % 32 ≠ 0 then some 6
  else if c.rsvd ≠ 0#8 then some 7
  else none

/-- The ring whose tag WAIT_EN awaits (03 R63). -/
def waitRing (c : Cmd) : RingId := ⟨c.waitCtl.toNat % 4, Nat.mod_lt _ (by decide)⟩
def waitEn (c : Cmd) : Bool := bitAt c.waitCtl.toNat 7
def isOrdered (c : Cmd) : Bool := bitAt c.flags.toNat 0

/-- WAIT_TAG is known to WAIT_RING: pending, or in its replay window (03 R73). A command that still waits at step 3 counts
as pending (DESIGN CHOICE, log 99). -/
def State.waitTagKnown (s : State) (c : Cmd) : Bool :=
  let x := s.ring (waitRing c)
  let t := c.waitTag.toNat
  x.window.any (fun w => w.cmd.tag.toNat = t) || x.accepted.any (fun a => a.tag = t) || x.waiting.any (fun w => w.ref.tag = t)

/-- ORDERED and WAIT_EN are satisfied (03 R73). -/
def State.waitsMet (s : State) (r : RingId) (c : Cmd) : Bool :=
  (!isOrdered c || (s.ring r).accepted.isEmpty) &&
  (!waitEn c || (s.ring (waitRing c)).window.any (fun w => w.cmd.tag = c.waitTag ∧ w.done.isSome))

/-- A command enters its ring's replay window of the 256 most recent (03 R69). -/
def State.enterWindow (op : Nat) (c : Cmd) (ref : CmdRef) (s : State) : State :=
  s.onRing ref.ring fun x =>
    let w := x.window ++ [⟨ref.id, c, op, none⟩]
    { x with window := w.drop (w.length - 256) }

/-- Step 4 and, where it passes, the command's own checks and action (03 R66, R70). What the primary of a locked pair
accepts for both chips it tells its partner (14 R334). -/
def State.dealerCheck (op : Nat) (c : Cmd) (ref : CmdRef) (body : Body) (s : State) : State :=
  let s := s.enterWindow op c ref
  if !legalIn op s.dev.state then s.completeWith ref .state
  else if s.lockedSecondary && primaryOnly op c then s.completeWith ref .state
  else if namesTile op && decide (15 < par c 8 1) then s.complete ref .invalid 8 0
  else
    let t := body c ref s
    let accepted := decide ((t.ring ref.ring).acceptedCount ≠ (s.ring ref.ring).acceptedCount)
    if s.lockedPrimary && primaryOnly op c && accepted then t.emit (.partner (.command op c)) else t

/-- Steps 1 to 3 (03 R66, R69, R73). An unknown WAIT_TAG completes INVALID with DETAIL 4, the offset of that field
(DESIGN CHOICE, log 99). -/
def State.dealerSteps (op : Nat) (c : Cmd) (ref : CmdRef) (body : Body) (s : State) : State :=
  match headerFault op c with
  | some d => s.complete ref .invalid d 0
  | none =>
    match (s.ring ref.ring).window.find? (fun w => w.cmd.tag = c.tag) with
    | some w =>
      match firstDiff 0 (cmdBytes w.opcode w.cmd) (cmdBytes op c) with
      | some d => s.complete ref .invalid d 0
      | none =>
        match w.done with
        | some done => s.postCompletion ref.ring { done with replayed := true, sqIndex := ref.sqIndex }
        | none => s.onRing ref.ring fun x => { x with dups := x.dups ++ [(w.id, ref.sqIndex, ref.quiet)] }
    | none =>
      if waitEn c && !s.waitTagKnown c then s.complete ref .invalid 4 0
      else if s.waitsMet ref.ring c then s.dealerCheck op c ref body
      else s.onRing ref.ring fun x => { x with waiting := some ⟨ref, c, s.lamp, false⟩ }

/-- The Dealer reads the command at SQ_HEAD of its ring and checks it (03 R58, R66). Where it may not read one now,
or the ring's memory holds other bytes, nothing happens (log 12). -/
def State.dealerRun (op : Nat) (q : Submission) (body : Body) (s : State) : State :=
  let x := s.ring q.ring
  if !s.canRead q.ring op then s
  else if !x.isLocal && !s.host.linkUp then s.ringError q.ring true false false false
  else
    let a := x.base + 64 * x.sqHead
    if x.isLocal && !s.dramGood a 64 then (s.ringError q.ring true false false false).dramUncorr 6 0 a
    else if x.isLocal && decide (s.dramRead a 64 ≠ cmdBytes op q.cmd) then s
    else
      let ref : CmdRef := ⟨q.ring, q.cmd.tag.toNat, op, x.sqHead, bitAt q.cmd.flags.toNat 1, s.dealer.nextId⟩
      let s := s.onDealer fun d => { d with nextId := d.nextId + 1, last := some q.ring }
      let s := s.onRing q.ring fun x => { x with sqHead := (x.sqHead + 1) % x.entries }
      s.dealerSteps op q.cmd ref body

/-- The first failing check of a command's table, in its order: failed, status, DETAIL (03 R66). -/
def firstFail : List (Bool × Status × Nat) → Option (Status × Nat)
  | [] => none
  | (bad, st, d) :: rest => if bad then some (st, d) else firstFail rest

/-- The first non-zero parameter byte that no named field covers (03 R63, step 5 of R66). -/
def unusedByte (used : List (Nat × Nat)) (c : Cmd) : Option Nat :=
  ((List.range 56).map (· + 8)).find? fun o =>
    !(used.any fun u => decide (u.1 ≤ o) && decide (o < u.1 + u.2)) && decide (par c o 1 ≠ 0)

/-- Steps 5 and 6: the unused bytes, then the command's checks in order; `ok` where all pass (03 R66). -/
def checked (used : List (Nat × Nat)) (checks : List (Bool × Status × Nat)) (c : Cmd) (ref : CmdRef)
    (ok : State → State) (s : State) : State :=
  match unusedByte used c with
  | some d => s.complete ref .invalid d 0
  | none =>
    match firstFail checks with
    | some (st, d) => s.complete ref st d 0
    | none => ok s

/-- Acceptance (03 R66 step 7, R76). -/
def State.accept (ref : CmdRef) (s : State) : State :=
  s.onRing ref.ring fun x => { x with
    accepted := x.accepted ++ [ref], acceptedCount := (x.acceptedCount + 1) % 2 ^ 32 }

/-- A command that reads host memory before it is accepted (17 R393, R396) waits at its read while Bus Master Enable is 0
or in D3hot (16 R364); its ring alone waits (DESIGN CHOICE, log 97). -/
def State.awaitHost (c : Cmd) (ref : CmdRef) (go : State → State) (s : State) : State :=
  if s.host.linkUp && !s.hostReady then s.onRing ref.ring fun x => { x with waiting := some ⟨ref, c, s.lamp, true⟩ }
  else go s
/-- What a read of host memory gives: nothing while the link is down (16 R363, R435). -/
def State.hostData (s : State) (d : HostRead) : HostRead := if s.host.linkUp then d else none

/-- NOP completes at once (03 R67). -/
def nopBody : Body := fun c ref s => checked [] [] c ref (fun s => (s.accept ref).completeOk ref 0) s

/-- Frame number of the first frame a command taking effect at the coming cut governs (03 R54, R67). -/
def State.nextFrame (s : State) : Nat := (s.timing.frame + 1) % 2 ^ 32

end Sys2Proof.Machine
end

