-- ==== Sys2Proof/Machine/Layers.lean ====
section
/-! DEFINITION. Layer commits, disables, trump sets and pages; what the cut fence, the cut and the frame tick do to them (05). -/

namespace Sys2Proof.Machine

open Sys2Proof

/-- Tile and slot that a slot operation names. -/
def opTile (c : Cmd) : TileId := ⟨par c 8 1 % 16, Nat.mod_lt _ (by decide)⟩
def opSlot (c : Cmd) : Fin 8 := ⟨par c 9 1 % 8, Nat.mod_lt _ (by decide)⟩

/-- A partition of KIND 1 or 4 of the churn's group, or of no group, that holds `n` bytes at `a` (05 R102). -/
def State.sharedPart (s : State) (tile a n : Nat) : Option PartEntry :=
  s.parts.find? fun p => decide (p.kind = 1 ∨ p.kind = 4) && decide (p.group = groupOf tile ∨ p.group = 0xFF) && p.holds a n

/-- The slot's partition holds `n` bytes at `a` (05 R102). -/
def State.slotPart (s : State) (e : SlotEntry) (a n : Nat) : Bool :=
  match s.partEntry e.part with
  | some p => p.holds a n
  | none => false

/-- Bytes the range check of a surface covers: SURFACE to SURFACE + DATA_SIZE - 1, the header at least (06 R128). -/
def surfExtent (h : SurfHdr) : Nat := max 64 h.size

/-- The submitting ring is in the slot's RING_MASK (05 R102). -/
def ringAllowed (e : Option SlotEntry) (r : RingId) : Bool := bitAt ((e.map (·.ringMask)).getD 0) r.val

/-- The checks of every LAYER_COMMIT up to its position, in the order of 05 R102. -/
def commitHead (r : RingId) (c : Cmd) (s : State) : List (Bool × Status × Nat) :=
  let slot0 := decide (par c 9 1 = 0)
  let zero := fun (off len : Nat) => (slot0 && decide (par c off len ≠ 0), Status.invalid, off)
  let x := signedOf 16 (par c 12 2)
  let y := signedOf 16 (par c 14 2)
  let e := s.slotEntry (par c 8 1) (par c 9 1)
  [(decide (15 < par c 8 1), .invalid, 8), (decide (7 < par c 9 1), .invalid, 9),
   (decide (7 < par c 10 1) || (slot0 && decide (par c 10 1 ≠ 0)), .invalid, 10),
   (decide (4 < par c 11 1) || (slot0 && decide (par c 11 1 ≠ 0)), .invalid, 11),
   (decide (par c 16 8 % 64 ≠ 0), .invalid, 16), (decide (par c 32 8 % 4 ≠ 0), .invalid, 32),
   zero 12 2, zero 14 2, zero 28 2, zero 44 2, zero 46 2,
   (!s.declared (par c 8 1), .range, 8), (e.isNone, .range, 9),
   (!ringAllowed e r, .range, 9),
   (!slot0 && decide (x < -4096 ∨ 4095 < x), .range, 12), (!slot0 && decide (y < -4096 ∨ 4095 < y), .range, 14)]

/-- The captured header of a commit's surface (05 R102). -/
def commitHdr (c : Cmd) (s : State) : SurfHdr := parseSurf (s.dramRead (par c 16 8) 64)

/-- Checks of the surface of slots 1 to 7 (05 R102, 06 R128, R129). -/
def surfaceChecks (c : Cmd) (e : SlotEntry) (s : State) : List (Bool × Status × Nat) :=
  let a := par c 16 8
  let b := s.dramRead a 64
  let h := parseSurf b
  let good := s.dramGood a 64
  [(!s.slotPart e a 64, .range, 16), (!good, .invalid, 16), (!s.slotPart e a (surfExtent h), .range, 16),
   (!surfWellFormed b, .invalid, 16), (decide (rd b 12 4 ≠ par c 24 4), .invalid, 24),
   (!bitAt e.formatMask h.format || decide (e.maxW < h.width) || decide (e.maxH < h.height), .range, 16),
   (decide (e.role = 3) && isYuv h.format, .range, 16)]

/-- The fence word lies in a partition the churn may read (05 R102). -/
def fenceCheck (c : Cmd) (s : State) : Bool × Status × Nat :=
  (decide (par c 32 8 ≠ 0) && (s.sharedPart (par c 8 1) (par c 32 8) 4).isNone, .range, 32)

/-- Step 6 for a video slot: destination size, scaler limits and the line-buffer rule (05 R102, 06 R137, R142). -/
def videoChecks (c : Cmd) (e : SlotEntry) (s : State) : List (Bool × Status × Nat) :=
  let h := commitHdr c s
  let dw := par c 44 2
  let dh := par c 46 2
  let sc := s.scalerEntry e.scaler
  let t := s.claimTaps e.scaler
  let others := (s.claims e.scaler t).filter (fun x => decide (x.1 ≠ (par c 8 1, par c 9 1)))
  let need := h.width * t * lineBytes h.format
  let mine := ((((s.churn (opTile c)).layer (opSlot c)).map (·.need t)).toList).foldl max need
  [(decide (dw = 0 ∨ 4096 < dw), .range, 44), (decide (dh = 0 ∨ 4096 < dh), .range, 46),
   (!bitAt ((sc.map (·.churnMask)).getD 0) (par c 8 1), .range, 16),
   (decide ((sc.map (·.maxSrcW)).getD 0 < h.width), .range, 16),
   (decide (2 * dw < h.width ∨ 16 * h.width < dw), .range, 44), (decide (2 * dh < h.height ∨ 16 * h.height < dh), .range, 46),
   (s.bit (Reg.SCL_TABLE_CTL e.scaler) 0, .busy, 16), (decide (2 ≤ others.length), .noresource, 16),
   (decide (196608 < claimSum others + mine), .linebuf, 16)]

/-- Step 6 for a graphic slot: the destination size is 0 or the surface's (05 R102). -/
def graphicChecks (c : Cmd) (s : State) : List (Bool × Status × Nat) :=
  let h := commitHdr c s
  [(decide (par c 44 2 ≠ 0 ∧ par c 44 2 ≠ h.width), .range, 44), (decide (par c 46 2 ≠ 0 ∧ par c 46 2 ≠ h.height), .range, 46)]

/-- Fewer than two reserve entries of event staging are free (15 R348; log 112). -/
def reserveCheck (s : State) : Bool × Status × Nat := (decide (512 < s.intc.reserveUsed + 2), .noresource, 0xFF)

/-! ### The trump set checks (05 R120) -/

/-- Pages of an image have apart data regions between the directory and the signature (05 R119). -/
def trumpRegions (img : Bytes) (pages size : Nat) : Bool :=
  let span := fun p => (rd (trumpEntry img p) 8 4, rd (trumpEntry img p) 12 4)
  let ps := (List.range pages).map (· + 1)
  ps.all (fun p => decide (1024 ≤ (span p).1 ∧ (span p).1 % 4 = 0 ∧ (span p).2 % 2 = 0 ∧ (span p).1 + (span p).2 ≤ size - 64)) &&
  ps.all (fun p => ps.all fun q => decide (p = q) || !overlap (span p).1 (span p).2 (span q).1 (span q).2)

/-- The structure of one page (05 R118, R119). -/
def trumpPageOk (img : Bytes) (p : Nat) : Bool :=
  let e := trumpEntry img p
  decide (rd e 0 2 ≤ 2047 ∧ rd e 2 2 ≤ 1023 ∧ 1 ≤ rd e 4 2 ∧ rd e 4 2 ≤ 2048 ∧ 1 ≤ rd e 6 2 ∧ rd e 6 2 ≤ 1024) &&
  allZero (slice e 20 12) && decide (rd e 32 2 = 0) &&
  decide (rd e 16 4 = crc32c (slice img (rd e 8 4) (rd e 12 4))) &&
  (match trumpLines (rd e 4 2) (trumpWords img p) 0 [] [] with
   | some ls => decide (ls.length = rd e 6 2)
   | none => false)

/-- Step 6 of 05 R120. -/
def trumpStructure (img : Bytes) (tile size : Nat) : Bool :=
  let pages := rd img 21 1
  decide (rd img 20 1 = tile) && decide (1 ≤ rd img 16 4) && decide (1 ≤ pages ∧ pages ≤ 15) && decide (rd img 22 2 = 0) &&
  allZero (slice img 32 32) && allZero (slice img (64 * (pages + 1)) (64 * (15 - pages))) &&
  trumpRegions img pages size && ((List.range pages).all fun i => trumpPageOk img (i + 1))

/-- The trump set checks in order (05 R102, R120). -/
def trumpChecks (c : Cmd) (s : State) : List (Bool × Status × Nat) :=
  let a := par c 16 8
  let tile := par c 8 1
  let hdr := s.dramRead a 64
  let size := rd hdr 8 4
  let part := s.sharedPart tile a 64
  let img := s.dramRead a size
  let d := s.theDeal
  let entry := fun (p : Nat) => trumpEntry img p
  let t := s.tileEntry tile
  [(part.isNone, .range, 16), (!s.dramGood a 64, .invalid, 16),
   (!(decide (1104 ≤ size ∧ size ≤ 131072 ∧ size % 16 = 0) && decide (rd hdr 0 4 = 0x504D5254 ∧ rd hdr 4 2 = 1 ∧ rd hdr 6 2 = 64 ∧
      rd hdr 12 4 = 0x51543216)), .invalid, 16),
   (!((part.map (·.holds a size)).getD false), .range, 16), (!s.dramGood a size, .invalid, 16),
   (!ecdsaVerify (sha256 (img.take (size - 64))) ((d.map (·.pubkey)).getD []) (img.drop (size - 64)), .auth, 16),
   (decide (some (rd img 24 8) ≠ d.map (·.luminaireId)), .auth, 16),
   ((match (s.churn (opTile c)).trump with
     | some f => decide (rd img 16 4 ≤ f.seq)
     | none => false), .auth, 16),
   (decide (rd img 16 4 ≠ par c 24 4), .invalid, 24),
   (!trumpStructure img tile size, .invalid, 16),
   ((List.range (rd img 21 1)).any (fun i => decide (t.width < rd (entry (i + 1)) 0 2 + rd (entry (i + 1)) 4 2) ||
      decide (t.height < rd (entry (i + 1)) 2 2 + rd (entry (i + 1)) 6 2)), .range, 16)]

/-! ### LAYER_COMMIT, LAYER_DISABLE, TRUMP_SELECT -/

/-- Replaces the slot's pending operation (05 R103): the older one completes ABORTED. -/
def State.putSlotOp (n : TileId) (sl : Fin 8) (o : SlotOp) (s : State) : State :=
  ((s.abortSlotOp n sl 3).onChurn n fun c => c.setOp sl (some o)).refreshScalers

/-- The layer a commit sets (05 R101, R102). -/
def commitLayer (c : Cmd) (ref : CmdRef) (s : State) : Layer :=
  let h := commitHdr c s
  let size := fun (off own : Nat) => if par c off 2 = 0 then own else par c off 2
  { ring := ref.ring, tag := ref.tag, surface := par c 16 8, gen := par c 24 4, hdr := h, blend := par c 11 1
    x := signedOf 16 (par c 12 2), y := signedOf 16 (par c 14 2), alpha := par c 28 2, w := size 44 h.width, h := size 46 h.height }

/-- Acceptance of a LAYER_COMMIT: a token is taken; a trump set is staged and its surface returned at once (05 R103, R108, R121). -/
def commitAccept (c : Cmd) (ref : CmdRef) (s : State) : State :=
  let n := opTile c
  let sl := opSlot c
  let L := commitLayer c ref s
  let img := s.dramRead L.surface (rd (s.dramRead L.surface 64) 8 4)
  let s := s.accept ref
  let s := s.onRing ref.ring fun x => { x with tokensTaken := (x.tokensTaken + 1) % 2 ^ 32 }
  let s := s.putSlotOp n sl ⟨ref, some L, par c 10 1, par c 32 8, par c 40 4, 0, none⟩
  if sl = 0 then
    let s := s.onChurn n fun c => { c with staged := some ⟨rd img 16 4, rd img 21 1, img⟩ }
    (s.retire n 0 L 7).trumpRecord n 1 (s.churn n).page (rd img 16 4)
  else s

/-- Reports an uncorrectable read that a check made (05 R102): `made` says the checks before it passed. -/
def reportRead (made : Bool) (a len : Nat) (c : Cmd) (s : State) : State :=
  if made && !s.dramGood a len then s.dramUncorr 6 (par c 8 1) a else s

/-- LAYER_COMMIT from step 5 on (05 R102). -/
def layerCommitBody : Body := fun c ref s =>
  let used := [(8, 1), (9, 1), (10, 1), (11, 1), (12, 2), (14, 2), (16, 8), (24, 4), (28, 2), (32, 8), (40, 4), (44, 2), (46, 2)]
  let head := commitHead ref.ring c s
  let a := par c 16 8
  let reached := fun (l : List (Bool × Status × Nat)) => decide (unusedByte used c = none ∧ firstFail l = none)
  match s.slotEntry (par c 8 1) (par c 9 1) with
  | none => checked used head c ref id s
  | some e =>
    if e.role = 1 then
      let trump := trumpChecks c s
      let t := checked used (head ++ trump ++ [fenceCheck c s, reserveCheck s]) c ref (commitAccept c ref) s
      let t := reportRead (reached (head ++ trump.take 1)) a 64 c t
      reportRead (reached (head ++ trump.take 4)) a (rd (s.dramRead a 64) 8 4) c t
    else
      let tail := if e.role = 2 then videoChecks c e s else graphicChecks c s
      let surf := surfaceChecks c e s
      let t := checked used (head ++ surf ++ [fenceCheck c s] ++ tail ++ [reserveCheck s]) c ref (commitAccept c ref) s
      reportRead (reached (head ++ surf.take 1)) a 64 c t

/-- LAYER_DISABLE from step 5 on (05 R103, R107). -/
def layerDisableBody : Body := fun c ref s =>
  let e := s.slotEntry (par c 8 1) (par c 9 1)
  checked [(8, 1), (9, 1)]
    [(decide (15 < par c 8 1), .invalid, 8), (decide (7 < par c 9 1), .invalid, 9), (!s.declared (par c 8 1), .range, 8),
     (e.isNone, .range, 9), (!ringAllowed e ref.ring, .range, 9), (decide (par c 9 1 = 0), .range, 9)] c ref
    (fun s => (s.accept ref).putSlotOp (opTile c) (opSlot c) ⟨ref, none, 0, 0, 0, 0, none⟩) s

/-- Tiles of a mask. -/
def maskTiles (m : Nat) : List TileId := tileIds.filter fun n => bitAt m n.val

/-- A pending TRUMP_SELECT completes ABORTED (05 R106, R122). -/
def State.abortTrumpSel (t : TrumpSel) (s : State) : State :=
  { s with trumpSels := s.trumpSels.filter (fun x => x.ref.id ≠ t.ref.id) }.completeWith t.ref .aborted

/-- TRUMP_SELECT from step 5 on (05 R122; log 111). -/
def trumpSelectBody : Body := fun c ref s =>
  let m := par c 8 2
  let p := par c 10 1
  checked [(8, 2), (10, 1)]
    [(decide (15 < p), .invalid, 10), ((maskTiles m).any (fun n => !s.declared n), .range, 8),
     ((maskTiles m).any (fun n => decide ((((s.churn n).trump.map (·.pageCount)).getD 0) < p)), .range, 10)] c ref
    (fun s =>
      let old := s.trumpSels.filter (fun x => decide (x.mask &&& m ≠ 0))
      let s := forEach old State.abortTrumpSel (s.accept ref)
      { s with trumpSels := s.trumpSels ++ [⟨ref, m, p⟩] }) s

/-! ### The cut fence and the cut (05 R104, R105) -/

/-- Every pending commit with a fence. -/
def State.fencedOps (s : State) : List (TileId × Fin 8 × SlotOp) :=
  tileIds.flatMap fun n => slotIds.filterMap fun sl =>
    match (s.churn n).op sl with
    | some o => if o.layer.isSome ∧ o.fenceAddr ≠ 0 then some (n, sl, o) else none
    | none => none

/-- The read of a fence word; an uncorrectable one counts as not reached (05 R105). -/
def State.fenceWord (s : State) (a : Nat) : Option Nat :=
  if s.dramGood a 4 then some (leVal (s.dramRead a 4)) else none

/-- The cut fence: each distinct fence word is read once for every commit pending now (05 R105). -/
def State.readFences (s : State) : State :=
  let ops := s.fencedOps
  let words := (ops.map (fun x => x.2.2.fenceAddr)).eraseDups
  let bad := words.filter (fun a => !s.dramGood a 4)
  let t := forEach ops (fun x t => t.onChurn x.1 fun c =>
    c.setOp x.2.1 (some { x.2.2 with fenceRead := some (s.fenceWord x.2.2.fenceAddr) })) s
  forEach bad (fun a t =>
    t.dramUncorr 8 (((ops.find? (fun x => x.2.2.fenceAddr = a)).map (fun x => x.1.val)).getD 0) a) t

/-- A word written between the cut fence and the cut is seen or not, alike by every commit that names it (05 R105, log 11). -/
def State.fenceJudged (s : State) (a : Nat) (atFence : Option Nat) : Option Nat :=
  let now := s.fenceWord a
  if now = atFence then atFence else if Config.fenceSeen (s.freeSeq + a) then now else atFence

/-- (int32)(w - v) is at least 0 (05 R105). -/
def fenceReached (w : Option Nat) (v : Nat) : Bool :=
  match w with
  | some w => decide ((w + 2 ^ 32 - v) % 2 ^ 32 < 2 ^ 31)
  | none => false

/-- A slot operation enters force and completes (05 R98, R104, R109, R121). -/
def State.enterSlotOp (n : TileId) (sl : Fin 8) (o : SlotOp) (s : State) : State :=
  let s := match (s.churn n).layer sl with
    | some L => if sl = 0 then s else s.retire n sl L (if o.layer.isSome then 1 else 2)
    | none => s
  let s := s.onChurn n fun c =>
    { ((c.setOp sl none).setLayer sl o.layer) with order := if sl = 0 then c.order else reorder c.order sl.val o.orderPos }
  let s := s.refreshScalers
  let s := if sl = 0 then
      let s := s.onChurn n fun c => match c.staged with
        | some t => { c with trump := some t, staged := none, page := if c.page ≤ t.pageCount then c.page else 0
                             pageFailed := false, withdrawn := false, pageBad := false }
        | none => c
      s.trumpRecord n 2 (s.churn n).page (s.churn n).trumpSeq
    else s
  s.completeOk o.ref s.nextFrame

/-- A fenced commit whose count reaches 8 completes TIMEOUT (05 R104, R109). -/
def State.timeoutSlotOp (n : TileId) (sl : Fin 8) (o : SlotOp) (s : State) : State :=
  let s := s.onChurn n fun c => { c.setOp sl none with staged := if sl = 0 then none else c.staged }
  let s := s.setFlag (Reg.CHN_EVT n) 2
  let s := s.completeWith o.ref .timeout
  let s := match o.layer with
    | some L => if sl = 0 then s else s.retire n sl L 4
    | none => s
  s.refreshScalers

/-- The decision on one pending slot operation at a cut outside HOLD (05 R104, R105). -/
def State.decideSlotOp (n : TileId) (sl : Fin 8) (s : State) : State :=
  match (s.churn n).op sl with
  | none => s
  | some o =>
    if o.layer.isNone ∨ o.fenceAddr = 0 then s.enterSlotOp n sl o
    else
      match o.fenceRead with
      | none => s
      | some w =>
        if fenceReached (s.fenceJudged o.fenceAddr w) o.fenceVal then s.enterSlotOp n sl o
        else if 8 ≤ o.cuts + 1 then s.timeoutSlotOp n sl { o with cuts := o.cuts + 1 }
        else s.onChurn n fun c => c.setOp sl (some { o with cuts := o.cuts + 1, fenceRead := none })

/-- Inserts by rising key. -/
def insertKey {α : Type} (key : α → Nat) (x : α) : List α → List α
  | [] => [x]
  | y :: r => if key x ≤ key y then x :: y :: r else y :: insertKey key x r
/-- Sorts by rising key; equal keys keep their order. -/
def sortKey {α : Type} (key : α → Nat) (l : List α) : List α := l.foldr (insertKey key) []

/-- Every pending slot operation, in the order of acceptance. -/
def State.pendingOps (s : State) : List (TileId × Fin 8 × SlotOp) :=
  sortKey (fun x => x.2.2.ref.id) (tileIds.flatMap fun n => slotIds.filterMap fun sl =>
    ((s.churn n).op sl).map fun o => (n, sl, o))

/-- One tile's page selection (05 R122, R124, R125). -/
def State.selectPage (p : Nat) (n : TileId) (s : State) : State :=
  let count := (((s.churn n).trump.map (·.pageCount)).getD 0)
  let p := if p ≤ count then p else 0
  let s := s.onChurn n fun c => { c with page := p, pageFailed := false, withdrawn := false, pageBad := false }
  s.trumpRecord n 3 p (s.churn n).trumpSeq

/-- The pending TRUMP_SELECT commands enter force, in HOLD as well (05 R122). -/
def State.trumpSelCut (s : State) : State :=
  let sels := s.trumpSels
  forEach sels (fun t s => (forEach (maskTiles t.mask) (State.selectPage t.page) s).completeOk t.ref s.nextFrame)
    { s with trumpSels := [] }

/-- A fence read made before HOLD took effect judges nothing (05 R105, R106). -/
def State.dropFences (s : State) : State :=
  forEach s.fencedOps (fun x s => s.onChurn x.1 fun c => c.setOp x.2.1 (some { x.2.2 with fenceRead := none })) s

/-- The cut's part in slot operations; in HOLD none enters force, is judged or counts (05 R104, R106). -/
def State.layersCut (s : State) : State :=
  let s := if s.dev.state = .hold then s.dropFences else forEach s.pendingOps (fun x s => s.decideSlotOp x.1 x.2.1) s
  s.trumpSelCut

/-! ### Frame bookkeeping (05 R112 to R116, R124) -/

/-- Posts the STALE_SURFACE records of the frame, at the cut that follows its header pass (05 R96, R113). -/
def State.staleRecords (n : TileId) (s : State) : State :=
  (s.churn n).staleDue.foldl (fun s p => s.post 0x31 (49 + 4 * n.val) p) (s.onChurn n fun c => { c with staleDue := [] })

/-- Posts the REPEAT_LINES record of the frame and keeps its summary (05 R116, R126). -/
def State.repeatRecord (n : TileId) (s : State) : State :=
  let c := s.churn n
  if c.repCount = 0 then s.setReg (Reg.CHN_REPEAT_LAST n) 0#32
  else
    let s := s.setReg (Reg.CHN_REPEAT_LAST n) (BitVec.ofNat 32 (c.repCount % 2048 + c.repCause * 2 ^ 16 + c.repSlots * 2 ^ 24))
    s.post 0x32 (50 + 4 * n.val)
      (le 2 c.repCount ++ le 2 c.repFirst ++ le 2 c.repLast ++ le 1 c.repCause ++ le 1 c.repSlots)

/-- Notes a line sent as REPEAT by the churn (05 R115, R116, R126). -/
def State.noteRepeat (n : TileId) (line cause slots : Nat) (s : State) : State :=
  let s := s.onChurn n fun c => { c with
    repCount := c.repCount + 1, repFirst := if c.repCount = 0 then line else c.repFirst, repLast := line
    repCause := c.repCause ||| cause, repSlots := c.repSlots ||| slots }
  (s.setFlag (Reg.CHN_EVT n) 0).addWrap (Reg.CHN_REPEAT_CNT n) 31 0 1

/-- A layer's rectangle meets the tile's active window (05 R101). -/
def Layer.meets (L : Layer) (t : TileEntry) : Bool :=
  decide (L.x < t.width) && decide (L.y < t.height) && decide (0 < L.x + L.w) && decide (0 < L.y + L.h)

/-- The header pass on one slot: a mismatching generation word suppresses the layer for the frame (05 R112 to R114). -/
def State.headerSlot (n : TileId) (sl : Fin 8) (s : State) : State :=
  match (s.churn n).layer sl with
  | none => s
  | some L =>
    if !L.meets (s.tileEntry n) then s
    else if !s.dramGood (L.surface + 12) 4 then
      (s.onChurn n fun c => { c with headerEcc := c.headerEcc ||| (1#8 <<< sl.val) }).dramUncorr 0 n.val (L.surface + 12)
    else
      let w := leVal (s.dramRead (L.surface + 12) 4)
      if w = L.gen then s.onChurn n fun c => c.setLayer sl (some { L with staleRun := false })
      else
        let s := s.onChurn n fun c => { c.setLayer sl (some { L with
          staleSeen := true, staleRun := true, staleFrames := satAdd 255 L.staleFrames 1 }) with
          suppressed := c.suppressed ||| (1#8 <<< sl.val) }
        let s := (s.setFlag (Reg.CHN_EVT n) 1).setFlag (Reg.CHN_SLOT_CFG n sl) 20
        if L.staleRun then s
        else s.onChurn n fun c => { c with
          staleDue := c.staleDue ++ [le 6 L.surface ++ le 1 sl.val ++ le 1 L.ring.val ++ le 4 L.gen ++ le 4 w] }

/-- Starts a churn's frame: bookkeeping cleared, then the header pass where it composes its layers (05 R96, R112). -/
def State.churnFrame (n : TileId) (composing layers : Bool) (s : State) : State :=
  let s := s.onChurn n fun c => { c with
    composing := composing, line := none, suppressed := 0, headerEcc := 0, repCount := 0, repFirst := 0, repLast := 0
    repCause := 0, repSlots := 0, pageBad := false, drained := false }
  if composing && layers then forEach slotIds.tail (State.headerSlot n) s else s

end Sys2Proof.Machine
end

