-- ==== Sys2Proof/Machine/Skim.lean ====
section
/-! DEFINITION. The skim engine: lists, BLIND, floor zones, prediction, mapping, masks and maintenance windows (07). -/

namespace Sys2Proof.Machine

open Sys2Proof

def State.onSkim (f : Skim → Skim) (s : State) : State := { s with skim := f s.skim }

/-- The greatest azimuth or elevation, 85 degrees (07 R150). -/
def angMax : Int := 89128960

/-! ### Lists (07 R149 to R153) -/

def parseRecord (b : Bytes) : SkimRecord :=
  let i := fun off len => signedOf (8 * len) (rd b off len)
  { kind := rd b 0 1, hard := bitAt (rd b 1 1) 0, fixed := bitAt (rd b 1 1) 1, atten := rd b 4 2, margin := rd b 6 1
    soft := rd b 7 1, t0 := rd b 8 8, az := i 16 4, el := i 20 4, vAz := i 24 4, vEl := i 28 4, aAz := i 32 2, aEl := i 34 2
    priority := rd b 36 1, rot := rd b 38 2
    shape := if rd b 0 1 = 2 then (List.range (2 * rd b 37 1)).map (fun j => i (40 + 2 * j) 2)
      else [(rd b 40 4 : Nat), (rd b 44 4 : Nat)] }

/-- Within ±85 degrees. -/
def angOk (a : Int) : Bool := decide (-angMax ≤ a) && decide (a ≤ angMax)

/-- A record is valid for a list that the cut at lamp time `cut` would latch (07 R151, R152). -/
def recordOk (cut : Nat) (b : Bytes) : Bool :=
  let k := rd b 0 1
  let n := rd b 37 1
  decide (k = 0) ||
  (decide (k ≤ 3) && decide (rd b 1 1 < 4) && decide (rd b 6 1 ≤ 63) && decide (rd b 7 1 ≤ 63) &&
   angOk (signedOf 32 (rd b 16 4)) && angOk (signedOf 32 (rd b 20 4)) && decide (rd b 8 8 ≤ cut + 100000) &&
   (if k = 2 then decide (3 ≤ n ∧ n ≤ 6) && allZero (b.drop (40 + 4 * n))
    else
      let top := if k = 1 then 67108864 else 94371840
      decide (n = 0) && allZero (b.drop 48) && decide (1 ≤ rd b 40 4 ∧ rd b 40 4 ≤ top ∧ 1 ≤ rd b 44 4 ∧ rd b 44 4 ≤ top)))

/-- The packets of a complete assembly, in order. -/
def SkimAsm.packets (a : SkimAsm) : List Bytes := (List.range a.parts).filterMap fun i => Sparse.find? a.got i

/-- A complete list is valid (07 R149, R152). -/
def SkimAsm.valid (cut : Nat) (a : SkimAsm) : Bool :=
  decide (a.count ≤ 256) && decide (a.parts = max 1 (ceilDiv a.count 16)) &&
  ((List.range a.parts).all fun i =>
    let p := (Sparse.find? a.got i).getD []
    decide (rd p 6 1 = min 16 (a.count - 16 * i)) && allZero (slice p 7 9) &&
    ((List.range (rd p 6 1)).all fun j => recordOk cut (slice p (16 + 64 * j) 64)))

/-- The records of a complete list. -/
def SkimAsm.records (a : SkimAsm) : List SkimRecord :=
  a.packets.flatMap fun p => (List.range (rd p 6 1)).map fun j => parseRecord (slice p (16 + 64 * j) 64)

/-- A bad list is noted (07 R152). -/
def State.badList (s : State) : State := (s.setFlag Reg.SKM_EVT 1).addSat Reg.SKM_COUNTS 31 16 1

/-- Takes a packet of a well-formed length into the assembly (07 R149, R152); `cut` is the coming cut. -/
def State.skimPacket (cut : Nat) (p : Bytes) (s : State) : State :=
  let seq := rd p 0 2
  let other := match s.skim.asm with
    | some a => decide (a.seq ≠ seq)
    | none => true
  let s := match s.skim.asm with
    | some a => if a.seq ≠ seq ∧ a.bad = false then s.setFlag Reg.SKM_EVT 3 else s
    | none => s
  let a := match s.skim.asm with
    | some a => if other then (⟨seq, rd p 3 1, rd p 4 2, false, []⟩ : SkimAsm) else a
    | none => ⟨seq, rd p 3 1, rd p 4 2, false, []⟩
  if a.bad then s
  else if rd p 3 1 ≤ rd p 2 1 ∨ rd p 3 1 ≠ a.parts ∨ rd p 4 2 ≠ a.count then
    (s.onSkim fun k => { k with asm := some { a with bad := true } }).badList
  else if (Sparse.find? a.got (rd p 2 1)).isSome then s.onSkim fun k => { k with asm := some a }
  else
    let a := { a with got := Sparse.put (rd p 2 1) p a.got }
    if a.got.length < a.parts then s.onSkim fun k => { k with asm := some a }
    else
      let s := s.onSkim fun k => { k with asm := none }
      if a.valid cut then s.onSkim fun k => { k with done := k.done ++ [⟨seq, a.records⟩] } else s.badList

/-- Serial arithmetic: `a` is newer than `b` (07 R153). -/
def newerSeq (a b : Nat) : Bool := decide (0 < (a + 65536 - b % 65536) % 65536 ∧ (a + 65536 - b % 65536) % 65536 < 32768)

/-! ### Prediction (07 R155 to R157) -/

/-- Nearest integer to a / b, halves away from zero. -/
def rnd (a : Int) (b : Nat) : Int :=
  if 0 ≤ a then (2 * a + b) / (2 * b) else -((-(2 * a) + b) / (2 * b))

/-- The centre of an object at lamp time `t` (07 R155). -/
def SkimRecord.centre (r : SkimRecord) (t : Nat) : Int × Int :=
  if r.fixed then (r.az, r.el)
  else
    let dt : Int := (t : Int) - r.t0
    let at1 := fun (p v a : Int) => clampInt (-angMax) angMax (p + rnd (v * dt * 200000000 + a * 1024 * dt * dt) 20000000000000000)
    (at1 r.az r.vAz r.aAz, at1 r.el r.vEl r.aEl)

/-- Tick placements and the case of R157 that a setup at a cut uses: T(k+1), T(k+2), T(k+N), T(k+N+1), and P_old, P_new of
a rate change. `frames`: N of R168. -/
structure SweepPlan where
  t1 : Nat
  t2 : Nat
  t3 : Nat
  t4 : Nat
  change : Option (Nat × Nat)
  frames : Nat
deriving DecidableEq, Repr

/-- The five instants s(0) to s(4) of a tile (07 R156, R157). -/
def State.sweeps (s : State) (p : SweepPlan) (n : TileId) : List Nat :=
  let s0 := fun (a b : Nat) => a + (s.tileEntry n).phaseSlot * (b - a) / 64 + s.fld (Reg.SKM_TILE_EMIT_LAT n) 15 0
  let held := s0 p.t3 p.t4 + (p.t4 - p.t3)
  let s0 := s0 p.t1 p.t2
  let plain := (List.range 5).map fun i => s0 + i * (p.t2 - p.t1) / 4
  let b := match p.change with
    | some (o, w) => if 1 < p.frames then max held (s0 + 2 * o + w) else s0 + 2 * o + w
    | none => held
  if p.change.isNone ∧ p.frames ≤ 1 then plain else (List.range 5).map fun i => s0 + i * (b - s0) / 4

/-- An object of the list in force would need too long a prediction (07 R154; log 113). -/
def State.horizonOver (p : SweepPlan) (s : State) : Bool :=
  let top := 100000 * min 1000 (max 10 (s.fld Reg.SKM_PRED 9 0))
  let objs := ((s.skim.list.map (·.records)).getD []).filter (fun r => decide (r.kind ≠ 0) && !r.fixed)
  tileIds.any fun n => s.declared n && bitAt (s.fld Reg.SKM_CTL 15 0) n.val &&
    (let t := (s.sweeps p n).getD 4 0
     objs.any fun r => decide (r.t0 + top < t))

/-! ### Mapping (07 R158, R159) -/

/-- The fourteen coefficients of a tile: H0 to H8, CX, CY, K1 to K3, as fixed-point numbers. -/
def State.skimCoefs (s : State) (n : TileId) : List Int :=
  ((List.range 9).map fun j => signedOf 32 (s.reg (Reg.SKM_TILE_H n j)).toNat * 2 ^ 64) ++
  [signedOf 32 (s.reg (Reg.SKM_TILE_CX n)).toNat * 2 ^ 64, signedOf 32 (s.reg (Reg.SKM_TILE_CY n)).toNat * 2 ^ 64] ++
  ((List.range 3).map fun j => signedOf 32 (s.reg (Reg.SKM_TILE_K n j)).toNat * 2 ^ 52)

/-- A coordinate rounded to sixteenths, halves up, and clamped (07 R158). -/
def mapRound (v dev : Int) : Int :=
  clampInt (-262144) 262144 ((v + clampInt (-(2 ^ 75)) (2 ^ 75) dev + 2 ^ 75) / 2 ^ 76)

/-- A direction, in fixed-point angle units, as composition coordinates in sixteenths; `none` where it lies behind
the projection (07 R158, R159). Where a cosine is exactly 0 the spec states no result: a free value (log 10). -/
def mapPoint (c : List Int) (az el : Int) : Option Pt :=
  let h := fun i => c.getD i 0
  let quarter := halfTurn * fxOne / 2
  let right := fun (a : Int) => decide (a % (halfTurn * fxOne) = quarter)
  let dev := Config.skimMapErr (c ++ [az, el])
  if right az || right el then some (clampInt (-262144) 262144 dev.1, clampInt (-262144) 262144 dev.2)
  else
    let a := fxRad az
    let e := fxRad el
    let xp := fxDiv (fxSin a) (fxCos a)
    let yp := fxDiv (fxDiv (fxSin e) (fxCos e)) (fxCos a)
    let row := fun i => fxMul (h i) xp + fxMul (h (i + 1)) yp + h (i + 2)
    let wh := row 6
    if wh ≤ 0 then none
    else
      let dx := fxDiv (row 0) wh - h 9
      let dy := fxDiv (row 3) wh - h 10
      let r2 := (fxMul dx dx + fxMul dy dy) / 1048576
      let r4 := fxMul r2 r2
      let f := fxOne + fxMul (h 11) r2 + fxMul (h 12) r4 + fxMul (h 13) (fxMul r4 r2)
      some (mapRound (h 9 + fxMul dx f) dev.1, mapRound (h 10 + fxMul dy f) dev.2)

/-! ### Shapes, hulls and merging (07 R160, R161, R166) -/

/-- The vertex offsets of an object, rotated, in fixed-point angle units (07 R160). -/
def SkimRecord.offsets (r : SkimRecord) : List (Int × Int) :=
  let g := fun i => r.shape.getD i 0
  let raw : List (Int × Int) :=
    if r.kind = 1 then
      let kappa := fxDiv fxOne (fxCos (fxRad (11796480 * fxOne)))
      (List.range 16).map fun (j : Nat) =>
        let phi := fxRad ((j : Int) * 23592960 * fxOne)
        (fxMul kappa (g 0 * fxCos phi), fxMul kappa (g 1 * fxSin phi))
    else if r.kind = 2 then (List.range (r.shape.length / 2)).map fun j => (256 * g (2 * j) * fxOne, 256 * g (2 * j + 1) * fxOne)
    else
      let w := g 0
      let h := g 1
      let corners : List Pt := [(-w, -h), (w, -h), (w, h), (-w, h)]
      (hullEdges corners).flatMap fun e => (List.range 4).map fun (q : Nat) =>
        ((4 * e.1.1 + q * (e.2.1 - e.1.1)) * fxOne / 4, (4 * e.1.2 + q * (e.2.2 - e.1.2)) * fxOne / 4)
  let th := fxRad ((r.rot : Int) * 5760 * fxOne)
  let co := fxCos th
  let si := fxSin th
  raw.map fun o => (fxMul o.1 co - fxMul o.2 si, fxMul o.1 si + fxMul o.2 co)

/-- The mapped vertices of an object at one instant, and whether one was dropped (07 R159). -/
def SkimRecord.mapped (c : List Int) (r : SkimRecord) (t : Nat) : List Pt × Bool :=
  let ctr := r.centre t
  let pts := r.offsets.map fun o => mapPoint c (ctr.1 * fxOne + o.1) (ctr.2 * fxOne + o.2)
  (pts.filterMap id, pts.any Option.isNone)

/-- An object as set up on a tile, if it has a vertex there, and whether a vertex was dropped (07 R161). -/
def SkimRecord.setUp (c : List Int) (inst : List Nat) (r : SkimRecord) : Option SkimObj × Bool :=
  let rows := inst.map (r.mapped c)
  let hulls := ((rows.zip rows.tail).map fun p => convexHull (p.1.1 ++ p.2.1)).filter (fun h => !h.isEmpty)
  (if hulls.isEmpty then none else some ⟨hulls, r.margin, r.soft, r.atten, r.hard, r.priority⟩, rows.any (·.2))

/-- The object reaches a tile (07 R166). -/
def SkimObj.reaches (t : TileEntry) (o : SkimObj) : Bool :=
  o.hulls.any (hullReaches (16 * (o.margin + o.soft) : Nat) (16 * t.width : Nat) (16 * t.height : Nat))

/-- The merged object of the objects beyond the first 63 (07 R166). -/
def mergeObjs (l : List SkimObj) : SkimObj :=
  let ext := l.flatMap fun o => o.hulls.flatMap (hullExtent (16 * o.margin : Nat))
  let lo := fun (f : Int × Int × Int × Int → Int) => match ext with
    | [] => 0
    | b :: r => r.foldl (fun (m : Int) b => min m (f b)) (f b)
  let hi := fun (f : Int × Int × Int × Int → Int) => -(lo fun b => -(f b))
  let x0 := lo (·.1)
  let y0 := lo (·.2.1)
  let x1 := hi (·.2.2.1)
  let y1 := hi (·.2.2.2)
  { hulls := [convexHull [(x0, y0), (x1, y0), (x1, y1), (x0, y1)]], margin := 0
    soft := (l.map (·.soft)).foldl max 0, atten := (l.map (·.atten)).foldl min 0xFFFF, hard := l.any (·.hard), priority := 0 }

/-- Rank of an object: hard before soft, then higher PRIORITY, then list order (07 R166). -/
def SkimObj.rank (o : SkimObj) : Nat := (if o.hard then 0 else 256) + (255 - o.priority)

/-- The objects kept on a tile, and whether some were merged (07 R166). -/
def keepObjs (l : List SkimObj) : List SkimObj × Bool :=
  if l.length ≤ 64 then (l, false)
  else
    let r := sortKey SkimObj.rank l
    (r.take 63 ++ [mergeObjs (r.drop 63)], true)

/-- A tile's part of a setup made now (07 R154, R159 to R166). -/
def State.setUpTile (p : SweepPlan) (s : State) (n : TileId) : SkimTile :=
  if !s.declared n then {}
  else
    let t := s.tileEntry n
    let c := s.skimCoefs n
    let un := (List.range 3).all fun j => decide (s.reg (Reg.SKM_TILE_H n (6 + j)) = 0#32)
    let en := bitAt (s.fld Reg.SKM_CTL 15 0) n.val
    let band := if en && (s.skim.blind || un) then
        some (s.fld Reg.SKM_BLIND_ATTEN 15 0, s.fld (Reg.SKM_TILE_BLIND n) 10 0, s.fld (Reg.SKM_TILE_BLIND n) 26 16) else none
    let rs := if en && band.isNone then (((s.skim.list.map (·.records)).getD []).filter (fun r => decide (r.kind ≠ 0))).map
        (SkimRecord.setUp c (s.sweeps p n)) else []
    let kept := keepObjs ((rs.filterMap (·.1)).filter (SkimObj.reaches t))
    let zs := (s.skim.zones.filter (fun z => z.enable && bitAt z.mask n.val)).map fun z =>
      (z.verts.map (fun v => mapPoint c (v.1 * fxOne) (v.2 * fxOne)), z.floor)
    { en := en, band := band, objs := kept.1, merged := kept.2, unmapped := en && un
      zones := (zs.map fun z => (convexHull (z.1.filterMap id), z.2)).filter (fun z => !z.1.isEmpty)
      outOfField := rs.any (·.2) || zs.any (fun z => z.1.any Option.isNone) }

/-! ### Masks and floors (07 R146, R148, R162, R165) -/

/-- M_o and C_o of an object at a pixel centre (07 R162). -/
def SkimObj.ramp (o : SkimObj) (p : Pt) : Nat × Bool :=
  let t := e16 o.hulls p - (16 * o.margin : Nat)
  if t ≤ 0 then (o.atten, true)
  else if o.soft = 0 ∨ ((16 * o.soft : Nat) : Int) ≤ t then (0xFFFF, false)
  else (o.atten + (0xFFFF - o.atten) * t.toNat / (16 * o.soft), true)

/-- M and H of a pixel (07 R146, R154, R162). -/
def SkimTile.mask (k : SkimTile) (x y : Nat) : Nat × Bool :=
  if !k.en then (0xFFFF, false)
  else
    match k.band with
    | some (a, top, bottom) => if top ≤ y ∧ y ≤ bottom then (a, true) else (0xFFFF, false)
    | none =>
      let p : Pt := ((16 * x + 8 : Nat), (16 * y + 8 : Nat))
      k.objs.foldl (fun (a : Nat × Bool) o =>
        let r := o.ramp p
        (min a.1 r.1, a.2 || (r.2 && o.hard))) (0xFFFF, false)

/-- F of a pixel (07 R165). -/
def SkimTile.floor (k : SkimTile) (x y : Nat) : Nat :=
  (k.zones.filter (fun z => decide (e16 [z.1] ((16 * x + 8 : Nat), (16 * y + 8 : Nat)) ≤ 0))).foldl (fun m z => max m z.2) 0

/-- The setup serves frame `f` (07 R168). -/
def SkimSetup.serves (u : SkimSetup) (f : Nat) : Bool := decide ((f + 2 ^ 32 - u.frame) % 2 ^ 32 < u.frames)
/-- The setup whose masks frame `f` uses, once it has ended (07 R167, R168): the newest that serves it. -/
def State.skimFor (s : State) (f : Nat) : Option SkimSetup :=
  let u := if s.skim.setup.any fun u => u.serves f then s.skim.setup else s.skim.prev.filter fun u => u.serves f
  u.filter fun u => u.done && !u.abandoned

/-- A pixel is indicated masked to the diagnostics engine (07 R148). -/
def State.pixelMasked (s : State) (n : TileId) (x y : Nat) : Bool :=
  match s.skimFor s.frame with
  | none => true
  | some u =>
    let m := (u.tiles.get n).mask x y
    (s.skim.maintEnd.get n).isNone && (decide (m.1 < 0xFFFF) || m.2)

/-! ### SKIM_ZONES_SET and SKIM_MAINT_WINDOW (07 R163, R164, R169) -/

def parseZone (e : Bytes) : SkimZone where
  enable := bitAt (rd e 1 1) 0
  mask := rd e 2 2
  floor := rd e 4 2
  verts := (List.range (rd e 6 1)).map fun j => (signedOf 32 (rd e (16 + 8 * j) 4), signedOf 32 (rd e (20 + 8 * j) 4))

/-- Entry `i` of a zone table is encoded as 07 R163 gives. -/
def zoneOk (e : Bytes) (i : Nat) : Bool :=
  decide (rd e 0 1 = i ∧ rd e 1 1 < 2 ∧ 1 ≤ rd e 4 2 ∧ 3 ≤ rd e 6 1 ∧ rd e 6 1 ≤ 8) && allZero (slice e 7 9) &&
  allZero (e.drop (16 + 8 * rd e 6 1)) && (parseZone e).verts.all (fun v => angOk v.1 && angOk v.2)

/-- A partition of KIND 1 or 4 holds `n` bytes at `a`. -/
def State.openPart (s : State) (a n : Nat) : Bool := s.parts.any fun p => decide (p.kind = 1 ∨ p.kind = 4) && p.holds a n

/-- SKIM_ZONES_SET from step 5 on (07 R164). How long the read of the table goes on after acceptance is free; it is over at
the cut (R170, log 74). -/
def skimZonesSetBody : Body := fun c ref s =>
  let a := par c 8 8
  let n := par c 16 1
  let b := s.dramRead a (80 * n)
  let entries := entriesOf b 80
  let used := [(8, 8), (16, 1)]
  let pre := [(decide (32 < n), Status.invalid, 16), (decide (a % 16 ≠ 0) || (decide (n = 0) && decide (a ≠ 0)), .invalid, 8),
    (decide (n ≠ 0) && !s.openPart a (80 * n), .range, 8)]
  let made := decide (unusedByte used c = none ∧ firstFail pre = none ∧ n ≠ 0)
  let t := checked used (pre ++
    [(!s.dramGood a (80 * n) || (List.range n).any (fun i => !zoneOk (entryOf b 80 i) i), .invalid, 8),
     (entries.any (fun e => (maskTiles (rd e 2 2)).any (fun t => !s.declared t)), .range, 8)]) c ref
    (fun s =>
      let s := s.accept ref
      let s := match s.skim.staged with
        | some (old, _) => s.completeWith old .aborted
        | none => s
      if n = 0 then s.onSkim fun k => { k with staged := some (ref, []), readUntil := s.lamp }
      else (s.onSkim fun k => { k with staged := some (ref, entries.map parseZone), readUntil := s.lamp + s.free }).useFree) s
  if made && !s.dramGood a (80 * n) then t.dramUncorr 3 0 a else t

/-- SKIM_MAINT_WINDOW from step 5 on (07 R169). -/
def skimMaintWindowBody : Body := fun c ref s =>
  checked [(8, 2), (10, 2)]
    [((maskTiles (par c 8 2)).any (fun t => !s.declared t), .range, 8), (decide (3600 < par c 10 2), .range, 10)] c ref
    (fun s => (s.accept ref).onSkim fun k => { k with maint := k.maint ++ [⟨ref, par c 8 2, par c 10 2⟩] }) s

/-- A maintenance window ends (07 R169). -/
def State.closeMaint (n : TileId) (s : State) : State := s.onSkim fun k => { k with maintEnd := k.maintEnd.set n none }

/-- The cut's part in maintenance windows: ended ones close, then the commands act in order (07 R169). -/
def State.maintCut (s : State) : State :=
  let s := forEach tileIds (fun n s => match s.skim.maintEnd.get n with
    | some e => if e ≤ s.lamp then s.closeMaint n else s
    | none => s) s
  let cmds := s.skim.maint
  forEach cmds (fun m s =>
    let s := forEach (maskTiles m.mask) (fun n s =>
      let e := if m.seconds = 0 then none else some (s.lamp + m.seconds * 100000000)
      s.onSkim fun k => { k with maintEnd := k.maintEnd.set n e }) s
    s.completeOk m.ref s.nextFrame) (s.onSkim fun k => { k with maint := [] })

/-! ### The cut and the setup (07 R153, R154, R164, R167, R168, R171) -/

/-- The staged zone set enters force (07 R164). -/
def State.zonesCut (s : State) : State :=
  match s.skim.staged with
  | some (ref, z) => (s.onSkim fun k => { k with zones := z, staged := none }).completeOk ref s.nextFrame
  | none => s

/-- STALE_LIMIT; 0 is taken as 1 (07 R172). -/
def State.staleLimit (s : State) : Nat := max 1 (s.fld Reg.SKM_CTL 19 16)

/-- A condition for BLIND holds (07 R154). -/
def State.mustBlind (p : SweepPlan) (s : State) : Bool := decide (s.staleLimit ≤ s.skim.age) || s.horizonOver p

/-- The engine enters BLIND (07 R154, R171). -/
def State.enterBlind (s : State) : State :=
  ((s.onSkim fun k => { k with blind := true }).setFlag Reg.SKM_EVT 4).raise 33 0

/-- The lists completed since the last cut are considered (07 R153). -/
def State.takeList (s : State) : State × Bool :=
  let done := s.skim.done
  let newer := done.filter fun l => match s.skim.list with
    | some f => newerSeq l.seq f.seq
    | none => true
  let s := s.onSkim fun k => { k with done := [] }
  let s := if newer.length < done.length then s.setFlag Reg.SKM_EVT 2 else s
  match newer with
  | [] =>
    let s := s.onSkim fun k => { k with age := satAdd 15 k.age 1 }
    (((s.setFlag Reg.SKM_EVT 0).addSat Reg.SKM_COUNTS 15 0 1).raise 32 0, false)
  | l :: ls =>
    let best := ls.foldl (fun b x => if newerSeq x.seq b.seq then x else b) l
    (s.onSkim fun k => { k with list := some best, age := 0 }, true)

/-- Lists, AGE and BLIND at a cut with a Deal in force (07 R153, R154). -/
def State.listCut (p : SweepPlan) (s : State) : State :=
  let r := s.takeList
  let s := r.1
  if s.mustBlind p then (if s.skim.blind then s else s.enterBlind)
  else if r.2 then s.onSkim fun k => { k with blind := false } else s

/-- SKIM_MASK_REPEAT for each tile of the frame, ascending (07 R171). -/
def State.maskRepeatReport (s : State) : State :=
  let m := s.skim.maskRepeat
  forEach tileIds (fun n s => if m.getLsbD n.val then s.raise 35 n.val else s) (s.onSkim fun k => { k with maskRepeat := 0 })

/-- Whether a setup runs at the cut before tick `k` (07 R168). -/
def State.setupDue (level k : Nat) (s : State) : Bool :=
  let n := 2 ^ level
  decide (level = 0) || decide (k % n = 0) ||
  (match s.skim.setup with
   | some u => u.abandoned || !decide ((k + 2 ^ 32 - u.frame) % 2 ^ 32 < u.frames)
   | none => true)

/-- The latency tolerance that the engine reports, in µs (07 R170). -/
def State.skimTolerance (s : State) : Nat := if s.skim.staged.isSome && decide (s.lamp < s.skim.readUntil) then 10 else 1023

/-- A setup begins, or the held one goes on (07 R167, R168). -/
def State.setupCut (p : SweepPlan) (level : Nat) (s : State) : State :=
  let k := s.nextFrame
  let due := s.setupDue level k
  let u : SkimSetup := ⟨k, 2 ^ level, s.lamp, false, false, Vector.ofFn (s.setUpTile p)⟩
  s.onSkim fun x => { x with level := level, held := !due, setup := if due then some u else x.setup, prev := if due then x.setup else x.prev }

/-- The skim engine's part of a cut. Without a Deal in force it takes no list (07 R153). -/
def State.skimCut (p : SweepPlan) (level : Nat) (s : State) : State :=
  let s := (s.zonesCut).maintCut.maskRepeatReport
  (if s.theDeal.isNone then s else s.listCut p).setupCut p level

/-- A setup ends after `counts` lamp counts, or is abandoned after an uncorrectable table read (07 R167). -/
def State.setupDone (counts : Nat) (ecc : Bool) (s : State) : State :=
  match s.skim.setup with
  | none => s
  | some u =>
    if u.done then s
    else
      let s := s.advanceTo (u.begun + counts)
      let s := s.setFld Reg.SKM_SETUP 15 0 (min 65535 counts)
      if ecc then
        (((s.onSkim fun k => { k with setup := some { u with done := true, abandoned := true } }).setFlag Reg.SKM_EVT 8).raise 7 3).raise 36 0
      else
        let s := s.onSkim fun k => { k with setup := some { u with done := true } }
        forEach tileIds (fun n s =>
          let t := u.tiles.get n
          let s := if t.outOfField then s.setFlag Reg.SKM_EVT 6 else s
          if t.merged then (s.setFlag Reg.SKM_EVT 5).raise 34 n.val else s) s

end Sys2Proof.Machine
end

