-- ==== Sys2Proof/Machine/Photo.lean ====
section
/-! DEFINITION. The photometric stage, the pot, calibration tables and the probe ledger (08; 06 R134). -/

namespace Sys2Proof.Machine

open Sys2Proof

def State.phot (s : State) (n : TileId) : Phot := s.phots.get n
def State.onPhot (n : TileId) (f : Phot → Phot) (s : State) : State := { s with phots := s.phots.set n (f (s.phots.get n)) }
def State.onPot (f : ChipPot → ChipPot) (s : State) : State := { s with pot := f s.pot }
def State.port (s : State) (n : TileId) : Port := s.ports.get n
def State.onPort (n : TileId) (f : Port → Port) (s : State) : State := { s with ports := s.ports.set n (f (s.ports.get n)) }

/-- A group input of the fault collector: offset `off` of the group of tile `n`, lane code 3 where no lane is concerned (14 R317). -/
def State.raiseGroup (n : TileId) (off lane : Nat) (s : State) : State :=
  s.raise (48 + 16 * groupOf n.val + off) (n.val + 16 * lane)

/-! ### Stage arithmetic (08 R173, R186) -/

/-- Knot `i` of the bank in force, at most 65,520 (08 R186). -/
def State.knot (s : State) (n : TileId) (i : Nat) : Nat :=
  let bank := s.fld (Reg.CHN_PHOT_CFG n) 0 0
  min 65520 (s.fld (Reg.CHN_TC n bank (i / 2)) (16 * (i % 2) + 15) (16 * (i % 2)))

/-- The transfer curve (08 R186). -/
def State.curve (s : State) (n : TileId) (y7 : Nat) : Nat :=
  let i := y7 / 256
  let f : Int := (y7 % 256 : Nat)
  let a : Int := s.knot n i
  let q := a + (((s.knot n (i + 1) : Nat) - a) * f + 128) / 256
  min ((q + 8) / 16).toNat 4095

/-- Step 5: the pot scale, then the floor where it is protected (08 R173). -/
def State.potStep (s : State) (n : TileId) (y4 f : Nat) (h : Bool) : Nat :=
  let y5 := (y4 * (s.phot n).scale + 32768) / 65536
  if s.bit (Reg.CHN_PHOT_CFG n) 1 && !h then max y5 f else y5

/-- Class of a pixel in the list latched for the frame; a listed 3 acts as DARK (08 R174). -/
def Phot.classOf (p : Phot) (x l : Nat) : Nat :=
  match p.classes.find? (fun e => e.1 = (x, l)) with
  | some e => if e.2 = 3 then 1 else e.2
  | none => 0

/-- Steps 7 and 8a: gain, boost, curve, dark (08 R173). -/
def State.driveCode (s : State) (n : TileId) (y6 g cls : Nat) : Nat :=
  let y7 := min ((y6 * g + 8192) / 16384) 0xFFFF
  let y7 := if cls = 2 then min ((y7 * s.fld (Reg.CHN_NB_GAIN n) 15 0 + 8192) / 16384) 0xFFFF else y7
  if cls = 1 then 0 else s.curve n y7

/-- PN of a rate bit number (04 R77, 08 R188). -/
def nominalPeriod (rate : Nat) : Nat := match rate with
  | 0 => 833333 | 1 => 500000 | 2 => 416666 | 3 => 277777 | _ => 208333
/-- On-time of a code in lamp counts (08 R188). -/
def onTime (rate code : Nat) : Nat := code * nominalPeriod rate / 16384

/-! ### Calibration tables (06 R134, 08 R182 to R185) -/

/-- Bytes of a table for a window (08 R183). -/
def calLength (t : TileEntry) : Nat := 64 + t.height * ceilDiv t.width 64 * 34

/-- Address of the block that holds pixel (x, l). -/
def CalTable.block (c : CalTable) (t : TileEntry) (x l : Nat) : Nat := c.addr + 64 + 34 * (l * ceilDiv t.width 64 + x / 64)

/-- The gain of a pixel; `none` where its block reads uncorrectable (06 R134). -/
def State.tableGain (s : State) (c : CalTable) (t : TileEntry) (x l : Nat) : Option Nat :=
  let a := c.block t x l
  if !s.dramGood a 34 then none
  else
    let m := x % 64
    let d := leVal (s.dramRead (a + 2 + m / 2) 1) / 16 ^ (m % 2) % 16
    some (clampInt 0 0xFFFF ((leVal (s.dramRead a 2) : Nat) + ((d : Nat) - 8) * 2 ^ c.dshift)).toNat

/-- The gain in effect at a pixel, during an entry too (08 R182, R184). -/
def State.gainAt (s : State) (n : TileId) (x l : Nat) : Option Nat :=
  let p := s.phot n
  let t := s.tileEntry n
  let old := match p.cal with
    | some c => s.tableGain c t x l
    | none => some 0x4000
  match p.calJob with
  | some j =>
    match j.table with
    | some c =>
      if 1 ≤ j.step then
        match old, s.tableGain c t x l with
        | some o, some w => some ((o : Int) + (((w : Int) - o) * j.step) / 64).toNat
        | _, _ => none
      else old
    | none => old
  | none => old

/-- The table whose stream is checked: the new one during an entry (08 R185). -/
def Phot.checkedTable (p : Phot) : Option CalTable :=
  match p.calJob with
  | some j => if 1 ≤ j.step then j.table else p.cal
  | none => p.cal

/-- The stream check at the end of a frame's composition (08 R185). -/
def State.streamCheck (n : TileId) (s : State) : State :=
  let p := s.phot n
  match p.checkedTable with
  | none => s
  | some c =>
    if p.calBad || !s.dramGood c.addr c.len then s
    else if p.calWrong || decide (crc32c (s.dramRead (c.addr + 64) (c.len - 64)) ≠ c.check) then
      (s.setFlag (Reg.CHN_CAL_STAT n) 9).raiseGroup n 9 3
    else s

/-- The checks of a table's content (06 R134, 08 R183). -/
def State.calContentOk (s : State) (t : TileEntry) (a len : Nat) : Bool :=
  let h := s.dramRead a 64
  s.dramGood a len &&
  decide (rd h 0 4 = 0x4C414351 ∧ rd h 4 2 = 1 ∧ rd h 10 1 ≤ 11 ∧ rd h 11 1 = 0 ∧ rd h 6 2 = t.width ∧ rd h 8 2 = t.height) &&
  allZero (slice h 16 48) && decide (rd h 12 4 = crc32c (s.dramRead (a + 64) (len - 64)))

/-- A load in progress completes without effect on the table in force. -/
def State.dropCalJob (n : TileId) (st : Status) (s : State) : State :=
  match (s.phot n).calJob with
  | some j => (s.onPhot n fun p => { p with calJob := none }).completeWith j.ref st
  | none => s

/-- The checks of a load complete (08 R183, R184). -/
def State.calChecksDone (n : TileId) (s : State) : State :=
  match (s.phot n).calJob with
  | none => s
  | some j =>
    if j.table.isSome then s
    else if s.calContentOk (s.tileEntry n) j.addr j.len then
      let h := s.dramRead j.addr 64
      s.onPhot n fun p => { p with calJob := some { j with table := some ⟨j.addr, j.len, rd h 10 1, rd h 12 4⟩ } }
    else
      let t := (s.onPhot n fun p => { p with calJob := none }).complete j.ref .invalid 16 0
      if s.dramGood j.addr j.len then t else t.dramUncorr 1 n.val j.addr

/-- Step 64: the new table alone is in force, and the command completes (08 R184). -/
def State.calEntered (n : TileId) (j : CalJob) (s : State) : State :=
  (s.onPhot n fun p => { p with cal := j.table, calJob := none, calStep := 64 }).completeOk j.ref 0

/-- The device has left LIT and HOLD since the last cut of the entry: at once (to SAFE_LIGHT or FATAL), or at this very cut
(to DEALT, straight from LIT or HOLD). -/
def State.leftAtCut (s : State) : Bool := decide (s.dev.state = .dealt ∧ (s.dev.prev = 5 ∨ s.dev.prev = 6))

/-- The cut's part in a calibration entry (08 R184): an entry that the tile or the device left ends at the next cut.
`composes`: the tile composes the next frame. -/
def State.calCut (composes : Bool) (n : TileId) (s : State) : State :=
  match (s.phot n).calJob with
  | none => s
  | some j =>
    if j.table.isNone then s
    else
      let lit := decide (s.dev.state = .lit ∨ s.dev.state = .hold)
      let inNow := (s.phot n).inPot
      let gone := j.wasLit && !lit
      let before := j.left || (j.wasIn && !inNow) || (gone && !s.leftAtCut)
      let j := { j with
        step := if decide (1 ≤ j.step) && before then 64 else j.step + 1
        wasLit := lit, wasIn := composes, left := before || gone || (inNow && !composes) }
      if 64 ≤ j.step then s.calEntered n j
      else s.onPhot n fun p => { p with calJob := some j, calStep := j.step }

/-! ### The pot (08 R175 to R181) -/

/-- G_n (08 R175). -/
def tileGrant (t : TileEntry) : Nat := t.potCap * t.width * t.height * 4095 / 65536
/-- G_c (08 R175). -/
def State.chipGrant (s : State) : Nat := s.fld Reg.DEV_POT_CHIP_CAP 23 0 * 65536

def Sums.add (a b : Sums) : Sums := ⟨a.qin + b.qin, a.qout + b.qout, a.cn + b.cn, a.ct + b.ct⟩

/-- A line is booked with its sums (08 R177, R180). -/
def State.bookLine (n : TileId) (l : Nat) (v : Sums) (s : State) : State :=
  s.onPhot n fun p => { p with sums := p.sums.add v, lines := Sparse.set (fun _ => ({} : Sums)) p.lines l v }
/-- A line sent as REPEAT is booked as last composed (08 R180). -/
def State.bookRepeat (n : TileId) (l : Nat) (s : State) : State :=
  s.onPhot n fun p => { p with sums := p.sums.add (Sparse.get (fun _ => {}) p.lines l) }

def PotLedger.book (g cn ct : Nat) (l : PotLedger) : PotLedger :=
  ⟨l.granted + g, l.consumed + cn, l.trump + ct, l.unspent + ((g : Int) - cn - ct)⟩
/-- The pot balance of 01 R24. -/
def PotLedger.balanced (l : PotLedger) : Bool := decide ((l.granted : Int) = l.consumed + l.trump + l.unspent)

/-- OVR_FRAMES; 0 is taken as 1 (08 R191). -/
def State.ovrFrames (s : State) (n : TileId) : Nat := max 1 (s.fld (Reg.CHN_PHOT_CFG n) 7 4)

/-- Counts a cut in debt, and reports persistence once (08 R179; log 114). -/
def State.debtCut (n : TileId) (s : State) : State :=
  let p := s.phot n
  if p.debt = 0 then s.onPhot n fun p => { p with debtCuts := 0, persisted := false }
  else
    let k := p.debtCuts + 1
    let s := s.onPhot n fun p => { p with debtCuts := k }
    if s.ovrFrames n ≤ k ∧ p.persisted = false then
      ((s.onPhot n fun p => { p with persisted := true }).setFlag (Reg.CHN_POT_STAT n) 26).raiseGroup n 10 3
    else s

/-- The bookings of a tile that composed the frame (08 R179, R181). -/
def State.potBookTile (n : TileId) (s : State) : State :=
  let p := s.phot n
  let spend := p.sums.cn + p.sums.ct
  let d := p.debt + spend - p.grant
  let s := s.onPhot n fun p => { p with
    debt := d, ledger := p.ledger.book p.grant p.sums.cn p.sums.ct, last := (p.grant, p.sums.cn, p.sums.ct, d) }
  if 0 < d then s.setFlag (Reg.CHN_POT_STAT n) 24 else s

/-- A Deal is in force and the ledgers are kept (01 R26). -/
def State.ledgersKept (s : State) : Bool := s.theDeal.isSome && s.dev.state.dealtOrLater

/-- The bookings at the cut that ends frame k, before any copy (08 R179, R181); none while the ledgers are reset (01 R26). -/
def State.potBook (s : State) : State :=
  if !s.ledgersKept then s else
  let who := tileIds.filter fun n => (s.phot n).inPot
  let cn := (who.map fun (n : TileId) => (s.phot n).sums.cn).foldl (· + ·) 0
  let ct := (who.map fun (n : TileId) => (s.phot n).sums.ct).foldl (· + ·) 0
  let g := s.chipGrant
  let s := forEach who State.potBookTile s
  let d := s.pot.debt + cn + ct - g
  let s := s.onPot fun c => { c with debt := d, ledger := c.ledger.book g cn ct }
  let s := if 0 < d then s.setFlag Reg.DEV_POT_CHIP_STAT 24 else s
  forEach tileIds State.debtCut s

/-- RES of the next frame (08 R178). -/
def State.trumpRes (s : State) (n : TileId) : Nat := (s.churn n).trumpSum * s.fld (Reg.CHN_PHOT_CFG n) 31 16 / 256

/-- Scale and grant of a tile that composes the next frame (08 R176, R177; log 114). -/
def State.potPlanTile (f : Nat) (n : TileId) (s : State) : State :=
  let p := s.phot n
  let g := tileGrant (s.tileEntry n) * f / 65536
  let a : Int := (g : Int) - p.debt - s.trumpRes n
  let target : Nat := if a ≤ 0 then 0
    else if p.sums.cn = 0 ∨ p.sums.qin = 0 then 65536
    else min 65536 (a.toNat * p.sums.qout * 65536 / (p.sums.cn * p.sums.qin))
  let rise := min 65536 (s.fld (Reg.CHN_POT_CTL n) 16 0)
  s.onPhot n fun p => { p with scale := min target (p.scale + rise), grant := g, atZero := decide (a ≤ 0) }

/-- The plan for frame k+1, after the copies of the cut (08 R176). -/
def State.potPlan (next : List TileId) (s : State) : State :=
  let budget : Int := (s.chipGrant : Int) - s.pot.debt
  let sumG := (next.map fun (n : TileId) => tileGrant (s.tileEntry n)).foldl (· + ·) 0
  let f := if budget ≤ 0 then 0 else if sumG = 0 then 65536 else min 65536 (budget.toNat * 65536 / sumG)
  let s := s.onPot fun c => { c with factor := f }
  let s := forEach next (State.potPlanTile f) s
  forEach tileIds (fun n s => s.onPhot n fun p => { p with inPot := next.contains n, sums := {} }) s

/-! ### The probe ledger (08 R190) -/

/-- A probe of a delivered line is booked at the horizon. -/
def State.bookProbes (n : TileId) (k : Nat) (s : State) : State :=
  s.onPhot n fun p => { p with
    added := p.added + 40 * k, scheduled := p.scheduled + 40 * k, frameCharge := p.frameCharge + 40 * k }
/-- At the tick the frame's charge moves to SUBTRACTED, its probe counts become those of the last frame, and the
decisions of the new frame begin empty (08 R189, R190, R191). -/
def State.moveCharge (n : TileId) (s : State) : State :=
  s.onPhot n fun p => { p with
    subtracted := p.subtracted + p.frameCharge, scheduled := p.scheduled - p.frameCharge, frameCharge := 0
    firedLast := p.frameCharge / 40, cancelledLast := p.cancelled, fired := [], cancelled := 0, calBad := false, calWrong := false }
/-- The probe balance of 01 R24. -/
def Phot.probeBalanced (p : Phot) : Bool := decide (p.added = p.subtracted + p.scheduled)

end Sys2Proof.Machine
end

