-- ==== Sys2Proof/Machine/Link.lean ====
section
/-! DEFINITION. The chip's tile ports: parcels, credits, sends, resends, delivery and lane loss (09). -/

namespace Sys2Proof.Machine

open Sys2Proof

/-! ### Lanes -/

/-- Lane number: 0 A, 1 B (09 R231). -/
def laneNum : TxLane → Nat
  | .a => 0
  | .b => 1
def otherLane : TxLane → TxLane
  | .a => .b
  | .b => .a

def Port.lock (p : Port) : TxLane → Bool
  | .a => p.lockA
  | .b => p.lockB
def Port.pwr (p : Port) : TxLane → Nat
  | .a => p.pwrA
  | .b => p.pwrB
/-- The return lane's power state at a lamp time: LS2, or LS1 once the tile has sent nothing for 20 µs (09 R229). -/
def Port.retPower (p : Port) (lamp : Nat) : Nat :=
  if p.pwrRet = 2 then 2 else if p.retLock && decide (p.retAt + 2000 ≤ lamp) then 1 else p.pwrRet
def Port.cred (p : Port) : TxLane → Nat
  | .a => p.credA
  | .b => p.credB
def Port.park (p : Port) : TxLane → Nat
  | .a => p.parkA
  | .b => p.parkB
def Port.inFlight (p : Port) : TxLane → Nat
  | .a => p.inA
  | .b => p.inB
def Port.inKitty (p : Port) : TxLane → Nat
  | .a => p.inKA
  | .b => p.inKB
def Port.txCount (p : Port) : TxLane → Nat
  | .a => p.txA
  | .b => p.txB
def Port.setLock (l : TxLane) (v : Bool) (p : Port) : Port := match l with
  | .a => { p with lockA := v }
  | .b => { p with lockB := v }
def Port.setPwr (l : TxLane) (v : Nat) (p : Port) : Port := match l with
  | .a => { p with pwrA := v }
  | .b => { p with pwrB := v }
def Port.setCred (l : TxLane) (v : Nat) (p : Port) : Port := match l with
  | .a => { p with credA := v }
  | .b => { p with credB := v }
def Port.setPark (l : TxLane) (v : Nat) (p : Port) : Port := match l with
  | .a => { p with parkA := v }
  | .b => { p with parkB := v }
def Port.setInFlight (l : TxLane) (v : Nat) (p : Port) : Port := match l with
  | .a => { p with inA := v }
  | .b => { p with inB := v }
def Port.setInKitty (l : TxLane) (v : Nat) (p : Port) : Port := match l with
  | .a => { p with inKA := v }
  | .b => { p with inKB := v }
def Port.setTx (l : TxLane) (v : Nat) (p : Port) : Port := match l with
  | .a => { p with txA := v }
  | .b => { p with txB := v }
def Port.setUnpark (l : TxLane) (v : Bool) (p : Port) : Port := match l with
  | .a => { p with unparkA := v }
  | .b => { p with unparkB := v }

/-- Transmit lanes the chip drives: both, or the one the PARTNER entry names (02 R41, 09 R194). -/
def State.chipLanes (s : State) : List TxLane :=
  if s.role = 0 then [.a, .b] else if ((s.theDeal.map (·.lane)).getD 0) = 0 then [.a] else [.b]

/-- Lanes under test now (09 R230): bit 0 A, 1 B, 2 return. -/
def Port.testMask (p : Port) : Nat := match p.test with
  | some t => if t.running then t.mask else 0
  | none => 0
def Port.underTest (p : Port) (l : TxLane) : Bool := bitAt p.testMask (laneNum l)

/-- Lanes that may carry parcels now: driven, locked, in LS0, not under test. -/
def State.openLanes (s : State) (n : TileId) : List TxLane :=
  let p := s.port n
  s.chipLanes.filter fun l => p.lock l && decide (p.pwr l = 0) && !p.underTest l

/-- The port is in single-lane operation (09 R194, R219, R230). -/
def State.singleLane (s : State) (n : TileId) : Bool :=
  let p := s.port n
  decide ((s.chipLanes.filter fun l => p.lock l && !p.underTest l).length = 1)

/-- Bit of a domain in READY: CHURN_g is 7 + g, LINK_g 11 + g (17 R385, R405). -/
def State.ready (s : State) (d : Nat) : Bool := s.power.ready.getLsbD d
/-- The port works: its tile is declared, or a re-deal that removed it still retires it (02 R47, R48). -/
def State.served (s : State) (n : TileId) : Bool := s.declared n || (s.port n).retirement.isSome
/-- The port may send on its lanes (17 R386; 14 R326). -/
def State.portOn (s : State) (n : TileId) : Bool :=
  s.served n && s.ready (11 + groupOf n) && !s.partner.lanesOff &&
  decide (s.dev.state = .dealt ∨ s.dev.state = .lit ∨ s.dev.state = .hold ∨ s.dev.state = .safeLight)

def State.inLit (s : State) (n : TileId) : Bool := s.dev.litSet.getLsbD n.val
/-- ADMITTED, LIT, HELD or FALLBACK. -/
def Port.admitted (p : Port) : Bool := decide (2 ≤ p.state) && decide (p.state ≤ 5)
/-- The tile's retire handshake has begun. -/
def Port.retiring (p : Port) : Bool := p.retirement.any fun r => decide (1 ≤ r.stage)
/-- The port sends frame parcels of its churn's lines (09 R225). -/
def State.sendsFrames (s : State) (n : TileId) : Bool :=
  s.portOn n && !(s.port n).retiring && s.inLit n && ((s.port n).admitted || ((s.port n).blind && decide ((s.port n).state = 0)))

/-! ### Event records (09 R231) -/

/-- LANE record of port `n`. The lane's error count is its CRC count, the return lane's its BAD count (log 115). -/
def State.laneRecord (n : TileId) (lane event : Nat) (s : State) : State :=
  let errs := if lane = 0 then s.fld (Reg.TL_CRC n) 15 0 else if lane = 1 then s.fld (Reg.TL_CRC n) 31 16 else s.fld (Reg.TL_RET_ERR n) 15 0
  s.post 0x41 (113 + 4 * n.val) (le 1 lane ++ le 1 event ++ le 2 0 ++ le 4 errs)

/-! ### The ledger (09 R207, R225; 14 R330) -/

/-- Credits of a port: 144, or 72 for each chip of a pair. -/
def State.portTotal (s : State) : Nat := if s.role = 0 then 144 else 72

/-- The credit balance of 01 R24. -/
def Port.creditSum (p : Port) : Nat :=
  p.credA + p.credB + p.kitty + p.parkA + p.parkB + p.inA + p.inB + p.inKA + p.inKB + p.tileHeld

/-- The ledger's initial state; SEQ tracking and blind operation end (09 R225). -/
def State.resetLedger (n : TileId) (s : State) : State :=
  let total := s.portTotal
  let was := (s.port n).blind
  let s := s.onPort n fun p => { p with
    credA := 0, credB := 0, kitty := 0, parkA := 0, parkB := 0, inA := 0, inB := 0, inKA := 0, inKB := 0
    tileHeld := total, relA := 0, relB := 0, relK := 0, tracks := [], blind := false, leaveBlind := false
    unparkA := false, unparkB := false, txA := 0, txB := 0 }
  if was then s.laneRecord n 2 6 else s

/-- A change of the chip's view of a tile state, with its record (09 R225, R231). Entry to TRAINING, and to ABSENT
outside blind operation, resets the ledger. -/
def State.setTileState (n : TileId) (new cause : Nat) (s : State) : State :=
  let old := (s.port n).state
  let reset := decide (new = 1) || (decide (new = 0) && !(s.port n).blind)
  let s := if reset then s.resetLedger n else s
  if old = new then s
  else
    let s := if new = 4 then s.setFlag (Reg.TL_EVT n) 3 else if new = 5 then s.setFlag (Reg.TL_EVT n) 4 else s
    let s := s.onPort n fun p => { p with
      state := new, enteredHeld := p.enteredHeld || decide (new = 4), enteredFallback := p.enteredFallback || decide (new = 5)
      identFrames := 0 }
    s.post 0x40 (112 + 4 * n.val)
      (le 1 old ++ le 1 new ++ le 1 cause ++ le 1 0 ++ le 4 (((s.port n).ident.map (·.serial.toNat)).getD 0) ++ le 4 s.frame)

/-- Credits granted to a lane: usable, or parked where the lane is unlocked (09 R223). -/
def Port.grant (l : TxLane) (k : Nat) (p : Port) : Port :=
  if p.lock l then p.setCred l (p.cred l + k) else p.setPark l (p.park l + k)

/-- Releases counted against a lane: its copies on lane credits first, then its copies on kitty credits, then a grant
from the tile (09 R209, R223). REL_K does not name a lane, so a release of a good copy of the other lane may have been
counted against this lane's kitty copies: what is still over goes to the other lane's. An unlocked lane's credits are
parked already and count no releases (R219). -/
def Port.release (l : TxLane) (d : Nat) (p : Port) : Port :=
  let x := min d (p.inFlight l)
  let y := min (d - x) (p.inKitty l)
  let y' := min (d - x - y) (p.inKitty (otherLane l))
  let z := min (d - x - y - y') p.tileHeld
  let p := (p.setInFlight l (p.inFlight l - x)).grant l x
  let p := { p.setInKitty l (p.inKitty l - y) with kitty := p.kitty + y }
  let p := { p.setInKitty (otherLane l) (p.inKitty (otherLane l) - y') with kitty := p.kitty + y' }
  { p.grant l z with tileHeld := p.tileHeld - z }

/-- Releases counted on the kitty: copies in flight on it, then a grant from the tile. -/
def Port.releaseKitty (d : Nat) (p : Port) : Port :=
  let x := min d p.inKA
  let y := min (d - x) p.inKB
  let z := min (d - x - y) p.tileHeld
  { p with inKA := p.inKA - x, inKB := p.inKB - y, tileHeld := p.tileHeld - z, kitty := p.kitty + x + y + z }

/-- Difference of two readings of a cumulative 16-bit counter. -/
def diff16 (new old : Nat) : Nat := (new + 65536 - old) % 65536

/-- A reading of the three release counters (09 R207); `lanes` are the lanes the chip drives. Blind operation moves
no credit (R220). -/
def Port.takeReleases (lanes : List TxLane) (a b k : Nat) (p : Port) : Port :=
  if p.blind then p
  else
    let one := fun (l : TxLane) (d : Nat) (p : Port) => if lanes.contains l then p.release l d else p
    let q := one .b (diff16 b p.relB) (one .a (diff16 a p.relA) (p.releaseKitty (diff16 k p.relK)))
    { q with relA := a, relB := b, relK := k }
/-- The release counters of a record of port `n`. -/
def State.releases (n : TileId) (a b k : BitVec 16) (s : State) : State :=
  let ls := s.chipLanes
  s.onPort n fun p => p.takeReleases ls a.toNat b.toNat k.toNat

/-! ### Queueing and choosing parcels (09 R194, R200, R201, R208) -/

def Track.tn (t : Track) : Nat := t.parcel.type.toNat
def Track.seq (t : Track) : Nat := t.parcel.seq.toNat
def Track.isPixels (t : Track) : Bool := decide (t.tn = 1)
def Track.isProbes (t : Track) : Bool := decide (t.tn = 2)
def Track.isClose (t : Track) : Bool := decide (t.tn = 3)

/-- NEXT_SEQ once a parcel with a SEQ has been given out: it does not move back, but for the ADMIT of an admission,
which begins at 0 (09 R201). -/
def Port.seqAfter (p : Port) (seq : Nat) (fresh : Bool) : Nat :=
  if fresh || decide (diff16 ((seq + 1) % 65536) p.nextSeq < 32768) then (seq + 1) % 65536 else p.nextSeq
/-- Queues a parcel of a port under a SEQ. -/
def State.addTrack (n : TileId) (seq : Nat) (t : Track) (s : State) : State :=
  s.onPort n fun p => { p with nextSeq := p.seqAfter seq (decide (t.tn = 5)), tracks := p.tracks ++ [t] }
/-- A new parcel's header and payload (09 R200). -/
def mkParcel (type addr arg frame seq : Nat) (payload : Bytes) : Parcel :=
  ⟨BitVec.ofNat 4 type, false, 0, BitVec.ofNat 8 frame, BitVec.ofNat 16 seq, BitVec.ofNat 16 addr, BitVec.ofNat 16 arg,
    padTo 256 payload⟩
/-- Queues a new parcel of a port with the next SEQ (09 R201). In a locked pair the primary sends the secondary its plan,
without the payload of PIXELS, and the secondary originates none (14 R331). -/
def State.newParcel (n : TileId) (type addr arg : Nat) (payload : Bytes) (frame : Nat) (line : Option Nat) (s : State) : State :=
  if s.lockedSecondary then s
  else
    let seq := (s.port n).nextSeq
    let p := mkParcel type addr arg frame seq payload
    let s := s.addTrack n seq { parcel := p, frame := frame, line := line }
    if s.lockedPrimary then
      s.emit (.partner (.plan n frame line (if type = 1 then { p with payload := [] } else p)))
    else s

/-- A control parcel: its FRAME is the present frame. -/
def State.control (n : TileId) (type arg : Nat) (payload : Bytes) (s : State) : State :=
  s.newParcel n type 0 arg payload s.frame none

/-- Order on a lane: CLOSE, RETIME, resends, other control, PROBES, PIXELS, FLASH (09 R208). -/
def Track.rank (t : Track) : Nat :=
  if t.tn = 3 then 0 else if t.tn = 4 then 1 else if !t.copies.isEmpty then 2
  else if t.tn = 2 then 4 else if t.tn = 1 then 5 else if t.tn = 8 then 6 else 3

/-- CLOSE of the present frame is not resent from 10 µs before the tick on (09 R212). -/
def State.closeLate (s : State) : Bool := decide (s.timing.lastTick + s.timing.period ≤ s.lamp + 1000)
/-- A first copy of a CLOSE that is still due on lane `l` (09 R212). -/
def Track.firstDue (l : TxLane) (t : Track) : Bool := t.isClose && t.due.contains l && !(t.copies.any (fun c => c.1 = l))

/-- The parcel may still be sent: PIXELS and PROBES only until the horizon of their frame, an acknowledged CLOSE only
on a lane that still lacks its first copy (09 R212); no PROBES in blind operation (R220). -/
def State.mayGo (s : State) (n : TileId) (t : Track) : Bool :=
  (!t.acked || t.firstDue .a || t.firstDue .b) && !t.failed &&
  (!(t.isPixels || t.isProbes) || (decide (t.frame = s.frame) && !s.timing.pastHorizon)) &&
  !(t.isProbes && (s.port n).blind)

/-- The lane of the next new parcel: more usable credits, then not the last used (09 R194). -/
def State.stripe (s : State) (n : TileId) : Option TxLane :=
  let p := s.port n
  match s.openLanes n with
  | [] => none
  | [l] => some l
  | _ => some (if p.credB < p.credA then .a else if p.credA < p.credB then .b else otherLane p.lastNew)

/-- A parcel has a copy to send on lane `l` now. -/
def State.dueOn (s : State) (n : TileId) (l : TxLane) (t : Track) : Bool :=
  s.mayGo n t &&
  (if (s.port n).blind then !(t.copies.any (fun c => c.1 = l))
   else (t.due.contains l && !(t.isClose && !t.firstDue l && s.closeLate)) || (t.copies.isEmpty && t.due.isEmpty && decide (s.stripe n = some l)))

/-- Pools a copy can take: 0 the lane's credits, 1 the kitty (09 R208); `none` where it must wait. Blind operation
consumes none. -/
def State.poolFor (s : State) (n : TileId) (l : TxLane) (t : Track) : Option Nat :=
  let p := s.port n
  if p.blind ∨ 0 < p.cred l then some 0
  else if t.isClose then (if 0 < p.kitty then some 1 else none)
  else if (!t.copies.isEmpty || decide (4 ≤ t.tn ∧ t.tn ≠ 8)) && decide (2 < p.kitty) then some 1
  else none

/-- The track the port sends next on lane `l` (09 R208). -/
def State.nextTrack (s : State) (n : TileId) (l : TxLane) : Option Track :=
  ((s.port n).tracks.filter (fun t => s.dueOn n l t && (s.poolFor n l t).isSome)).foldl (fun b t =>
    match b with
    | none => some t
    | some x => if t.rank < x.rank then some t else some x) none

/-- Updates the track with a SEQ. -/
def Port.onTrack (seq : Nat) (f : Track → Track) (p : Port) : Port :=
  { p with tracks := p.tracks.map fun t => if t.seq = seq then f t else t }

/-- Sends a copy of a track on a lane (09 R200, R207, R208, R210, R211). -/
def State.sendCopy (n : TileId) (l : TxLane) (t : Track) (s : State) : State :=
  match s.poolFor n l t with
  | none => s
  | some pool =>
    let blind := (s.port n).blind
    let first := t.copies.isEmpty
    let resend := !blind && !first && !(t.isClose && !(t.copies.any (fun c => c.1 = l)) && decide (t.parcel.tryN = 0))
    let q := { t.parcel with tryN := if resend then t.parcel.tryN + 1 else t.parcel.tryN, kitty := decide (pool = 1) }
    let s := s.onPort n fun p =>
      let p := if blind then p
        else if pool = 0 then (p.setCred l (p.cred l - 1)).setInFlight l (p.inFlight l + 1)
        else { p.setInKitty l (p.inKitty l + 1) with kitty := p.kitty - 1 }
      let p := p.onTrack t.seq fun t => { t with
        parcel := q, copies := t.copies ++ [(l, p.txCount l)], lane := l, sentAt := s.lamp, due := t.due.erase l, spilled := false }
      { p.setTx l ((p.txCount l + 1) % 65536) with
        lastNew := if first && !t.isClose then l else p.lastNew, resends := p.resends + b2n resend }
    (s.emit (.parcel n l q))

/-! ### Delivery (09 R195, R212, R220) -/

/-- A parcel counts as done: acknowledged, or, in blind operation, sent on every locked lane. -/
def State.trackDone (s : State) (n : TileId) (t : Track) : Bool :=
  if (s.port n).blind then !(t.isProbes) && !t.failed && !t.copies.isEmpty &&
    (s.openLanes n).all (fun l => t.copies.any (fun c => c.1 = l)) || (t.isPixels && t.acked)
  else t.acked

/-- The tracks of line `l` of the present frame. -/
def State.lineTracks (s : State) (n : TileId) (l : Nat) : List Track :=
  (s.port n).tracks.filter fun t => t.line = some l ∧ t.frame = s.frame ∧ (t.isPixels || (t.isProbes && !(s.port n).blind))

/-- Lines of the present frame that were composed and handed to the link. -/
def State.linkLines (s : State) (n : TileId) : List Nat :=
  (((s.port n).tracks.filter (fun t => t.isPixels ∧ t.frame = s.frame)).filterMap (·.line)).eraseDups

def State.lineDelivered (s : State) (n : TileId) (l : Nat) : Bool :=
  let ts := s.lineTracks n l
  ts.any (·.isPixels) && ts.all (s.trackDone n)
/-- A line with a failed parcel. -/
def State.lineFailed (s : State) (n : TileId) (l : Nat) : Bool := (s.lineTracks n l).any (·.failed)
/-- Every line of the frame is delivered or failed, or was a churn REPEAT (09 R212). -/
def State.linesDecided (s : State) (n : TileId) : Bool :=
  decide ((s.port n).composedTo = (s.tileEntry n).height) &&
  (s.linkLines n).all (fun l => s.lineDelivered n l || s.lineFailed n l)

/-- Composed lines none of whose PIXELS parcels has been sent: they wait in the line output and the spill region (09 R195). -/
def State.waitingLines (s : State) (n : TileId) : List Nat :=
  ((((s.port n).tracks.filter (fun t => t.isPixels ∧ t.frame = s.frame ∧ t.copies.isEmpty ∧ !t.acked ∧ !t.failed)).filterMap (·.line)).eraseDups)

/-- A newly composed line goes to the spill region where 8 lines wait before it (09 R195). -/
def State.spillCheck (n : TileId) (line : Nat) (s : State) : State :=
  let k := (s.waitingLines n).length
  if k ≤ 8 then s
  else s.onPort n fun p => { p with
    spilled := max p.spilled (k - 8)
    tracks := p.tracks.map fun t => if t.line = some line ∧ t.frame = s.frame ∧ t.isPixels then { t with spilled := true } else t }

/-- The port's spill region: base address and length, if the Deal has a partition of KIND 5. -/
def State.spillRegion (s : State) (n : TileId) : Option Nat :=
  (s.parts.find? (fun p => p.kind = 5)).map fun p => p.base + n.val * 1048576

/-- A spilled line is read back before it is sent; where the region holds an uncorrectable word, the line may be one of
those it touches, and is then not delivered (09 R195, log 18). -/
def State.readSpill (n : TileId) (t : Track) (s : State) : State :=
  match s.spillRegion n with
  | none => s
  | some a =>
    if !t.spilled || s.dramGood a 1048576 then s
    else
      let lost := decide (s.free % 2 = 1)
      let s := s.useFree
      if lost then
        (s.onPort n fun p => { p with tracks := p.tracks.map fun x =>
          if x.line = t.line ∧ x.frame = t.frame ∧ x.isPixels then { x with failed := true, spilled := false } else x }).dramUncorr 7 n.val a
      else s.onPort n fun p => { p with tracks := p.tracks.map fun x =>
        if x.line = t.line ∧ x.frame = t.frame then { x with spilled := false } else x }

/-! ### Failing and resending (09 R211) -/

def State.failTrack (n : TileId) (seq : Nat) (s : State) : State :=
  s.onPort n fun p => { p.onTrack seq (fun t => { t with failed := true, due := [] }) with failedCnt := p.failedCnt + 1 }

/-- A resend becomes due on the other lane where it is open, else on the same lane (09 R211). -/
def State.dueResend (n : TileId) (t : Track) (s : State) : State :=
  let l := if (s.openLanes n).contains (otherLane t.lane) then otherLane t.lane else t.lane
  s.onPort n fun p => p.onTrack t.seq fun t => { t with due := [l] }

/-- Notes an error on a lane in the present frame (09 R214). -/
def State.laneError (n : TileId) (l : Nat) (s : State) : State :=
  s.onPort n fun p => { p with errLanes := p.errLanes ||| (1#3 <<< l) }

/-- The latest send of a track counts as lost: it is resent, or fails after TRY 3 (09 R211). Outside the retry of its
frame, and in blind operation, nothing follows. -/
def State.sendLost (n : TileId) (t : Track) (s : State) : State :=
  if t.acked || t.failed || (s.port n).blind || !t.due.isEmpty || !s.mayGo n t || (t.isClose && s.closeLate) then s
  else if t.parcel.tryN = 3 then s.failTrack n t.seq
  else s.dueResend n t

/-! ### Lanes lost and restored, blind operation (09 R219 to R221) -/

/-- A copy due on a lost lane becomes due on the other one; a first copy of a CLOSE that has another copy is dropped. -/
def Track.moveDue (l : TxLane) (t : Track) : Track :=
  let rest := t.due.erase l
  if !(t.due.contains l) then t
  else if t.isClose && !t.copies.isEmpty then { t with due := rest }
  else if rest.contains (otherLane l) then { t with due := rest }
  else { t with due := rest ++ [otherLane l] }

/-- LANE_DOWN, or a STATUS that shows the lane unlocked (09 R219). A lane in LS2 or under test is not lost (R229). -/
def State.laneDownAt (n : TileId) (l : TxLane) (s : State) : State :=
  let p := s.port n
  if !p.lock l then s
  else if p.pwr l = 2 then s.onPort n fun p => p.setLock l false
  else
    let s := s.onPort n fun p =>
      let p := (p.setLock l false).setUnpark l false
      let back := p.inKitty l
      let p := if p.blind then p
        else { p.setInKitty l 0 with kitty := p.kitty + back }
      let p := ((p.setPark l (p.park l + p.cred l + p.inFlight l)).setCred l 0).setInFlight l 0
      { p with lostLanes := p.lostLanes ||| (1#3 <<< laneNum l) }
    let s := s.setFlag (Reg.TL_LANE_STAT n) (16 + laneNum l)
    let s := s.laneRecord n (laneNum l) 1
    -- a parcel whose fourth send was on the lost lane fails by its timeout, not now (R211)
    let cut := ((s.port n).tracks.filter fun t => !t.copies.isEmpty && decide (t.lane = l) && !t.acked && !t.failed && t.parcel.tryN != 3)
    let s := forEach cut (fun t s => (s.onPort n fun p => p.onTrack t.seq fun t => { t with due := [] }).sendLost n { t with due := [] }) s
    -- a resend or first copy that was due on the lost lane moves to the other lane
    s.onPort n fun p => { p with tracks := p.tracks.map (Track.moveDue l) }

/-- A lane is reported locked again: numbering restarts, and its credits unpark at the next tick (09 R210, R221). -/
def State.laneUpAt (n : TileId) (l : TxLane) (s : State) : State :=
  let p := s.port n
  if p.lock l then s
  else
    let old (c : TxLane × Nat) : TxLane × Nat := if c.1 = l then (l, c.2 % 65536 + 65536) else c
    let s := s.onPort n fun p => { ((p.setLock l true).setTx l 0).setUnpark l true with
      tracks := p.tracks.map fun t => { t with copies := t.copies.map old } }
    s.laneRecord n (laneNum l) 2

/-- At the next tick parked credits of a restored lane return (09 R221). -/
def State.unparkAt (n : TileId) (l : TxLane) (s : State) : State :=
  s.onPort n fun p =>
    let flag := match l with
      | .a => p.unparkA
      | .b => p.unparkB
    if flag && p.lock l && decide (p.pwr l ≠ 2) && !p.underTest l then
      ((p.setCred l (p.cred l + p.park l)).setPark l 0).setUnpark l false
    else p

/-- Credits in flight become held by the chip (09 R220); so does a re-deal set the ledger of an admitted tile to its
initial values (01 R26, 02 R47). -/
def Port.landCredits (p : Port) : Port :=
  let q := (p.grant .a p.inA).grant .b p.inB
  { q with inA := 0, inB := 0, kitty := p.kitty + p.inKA + p.inKB, inKA := 0, inKB := 0 }

/-- Blind operation begins: in-flight credits become held by the chip (09 R220). -/
def State.enterBlindPort (n : TileId) (s : State) : State :=
  if (s.port n).blind then s
  else
    let s := s.onPort n fun p => { p.landCredits with blind := true, tracks := p.tracks.map fun t => { t with due := [] } }
    (s.setFlag (Reg.TL_EVT n) 6).laneRecord n 2 5

/-- The RESYNC event: its counters are baselines, all credits are held, and blind operation ends at the next tick (09 R221). -/
def State.resyncPort (n : TileId) (a b k : Nat) (s : State) : State :=
  s.onPort n fun p =>
    let lane := fun (l : TxLane) (p : Port) =>
      let all := p.cred l + p.park l + p.inFlight l
      let p := ((p.setCred l 0).setPark l 0).setInFlight l 0
      p.grant l all
    let p := lane .b (lane .a p)
    { p with kitty := p.kitty + p.inKA + p.inKB, inKA := 0, inKB := 0, relA := a, relB := b, relK := k
             leaveBlind := p.blind }

end Sys2Proof.Machine
end

