-- ==== Sys2Proof/Machine/LinkIn.lean ====
section
/-! DEFINITION. What a port does with its return records and lanes; admission, retirement, lane power, tests, flash (09 R210 to R230). -/

namespace Sys2Proof.Machine

open Sys2Proof

/-! ### Record reception (09 R226) -/

/-- A good return record: gaps of RSEQ are counted as lost (09 R226, log 20), then `f` acts. Without return-lane lock
no record arrives, and a port declared empty has its receivers off (02 R48). -/
def State.recordIn (n : TileId) (h : RecHdr) (f : State → State) (s : State) : State :=
  let p := s.port n
  if !p.retLock || !s.served n then s
  else
    let gap := match p.lastRseq with
      | none => 0
      | some r => diff16 h.rseq.toNat ((r + 1) % 65536)
    f ((s.onPort n fun p => { p with lastRseq := some h.rseq.toNat, retAt := s.lamp }).addWrap (Reg.TL_RET_ERR n) 31 16 gap)

/-- The first good copy of an EVENT_ID acts (09 R226; log 115). -/
def State.eventIn (n : TileId) (h : RecHdr) (e : EventBody) (f : State → State) (s : State) : State :=
  s.recordIn n h fun s =>
    if (s.port n).events.contains e.id.toNat then s
    else f (s.onPort n fun p => { p with events := (e.id.toNat :: p.events).take 16 })

/-! ### Identity (09 R222, 02 R48) -/

/-- The last IDENT differs from the TILE entry; TILE_TYPE 0xFFFF and SERIAL 0 of an entry match any (02 R32). -/
def State.identWrong (s : State) (n : TileId) : Bool :=
  let t := s.tileEntry n
  match (s.port n).ident with
  | none => false
  | some i => decide (t.type ≠ 0xFFFF ∧ i.tileType.toNat ≠ t.type) || decide (t.serial ≠ 0 ∧ i.serial.toNat ≠ t.serial) ||
      decide (i.arrayW.toNat < t.width) || decide (i.arrayH.toNat < t.height)

/-- An identity check; a failed one is reported (09 R222). -/
def State.identCheck (n : TileId) (s : State) : State :=
  if s.identWrong n then
    ((s.setFlag Reg.DEV_DEAL_MISMATCH (16 + n.val)).setFlag (Reg.TL_EVT n) 5).raise 5 n.val
  else s

/-- The check repeated every 256 frames while the tile stays TRAINING. -/
def State.identRecheck (n : TileId) (s : State) : State :=
  if (s.port n).state = 1 ∧ 256 ≤ (s.port n).identFrames then
    (s.onPort n fun p => { p with identFrames := 0 }).identCheck n
  else s

/-! ### Admission (09 R223) -/

def State.diag (s : State) (n : TileId) : Diag := s.diags.get n
def State.onDiag (n : TileId) (f : Diag → Diag) (s : State) : State := { s with diags := s.diags.set n (f (s.diags.get n)) }
/-- The tile has been admitted: its map is initialised and REF is taken anew (10 R238, R248). -/
def State.diagAdmitted (n : TileId) (s : State) : State :=
  (s.onDiag n fun d => { d with initDue := true, refDue := true }).onPhot n fun p => { p with lines := [] }

/-- The ADMIT payload (09 R206). -/
def State.admitPayload (s : State) (n : TileId) : Bytes :=
  let t := s.tileEntry n
  let lane := if s.role = 0 then 0 else 1 + (s.theDeal.map (·.lane)).getD 0
  le 1 n.val ++ le 1 0 ++ le 2 t.width ++ le 2 t.height ++ le 1 (b2n t.mirrorX + 2 * b2n t.mirrorY) ++ le 1 t.phaseSlot ++
  le 1 t.holdFrames ++ le 1 s.timing.rate ++ le 1 lane ++ le 1 0 ++ le 4 ((s.theDeal.map (·.seq)).getD 0)

/-- A parcel of an admission: ADMIT or FALLBACK. -/
def Track.admits (t : Track) : Bool := decide (t.tn = 5 ∨ t.tn = 7)

/-- The steps of an admission begin: SEQ 0, then ADMIT. What an earlier attempt left is tracked no more. -/
def State.startAdmission (n : TileId) (ref : Option CmdRef) (s : State) : State :=
  let s := s.onPort n fun p => { p with
    nextSeq := 0, admission := some ⟨ref, s.lamp, false⟩, readmit := false, tracks := p.tracks.filter (!·.admits) }
  s.control n 5 0 (s.admitPayload n)

/-- TRAINING, the return lane and a transmit lane locked, the LINK domain ready (09 R223, 17 R386). -/
def State.canAdmit (s : State) (n : TileId) : Bool :=
  let p := s.port n
  s.portOn n && decide (p.state = 1) && p.retLock && s.chipLanes.any p.lock

/-- A partnered chip's tile must have a second return output (14 R328). -/
def State.capsWrong (s : State) (n : TileId) : Bool :=
  decide (s.role ≠ 0) && (s.port n).ident.any fun i => !i.caps.getLsbD 0
/-- An admission without a command may start (02 R47; 14 R329). -/
def State.admissible (s : State) (n : TileId) : Bool :=
  s.canAdmit n && !s.identWrong n && !s.capsWrong n && (s.port n).admission.isNone

/-- TILE_ADMIT from step 4 on (03 R68, R70; 09 R223; 14 R328). -/
def tileAdmitBody : Body := fun c ref s =>
  let n := opTile c
  if !s.canAdmit n || (decide (s.dev.state = .lit) && !(s.tileEntry n).hotSwap) then s.completeWith ref .state
  else
    let wrong := s.identWrong n || s.capsWrong n
    let busy := (s.port n).admission.isSome || (s.port n).retirement.isSome
    checked [(8, 1)] [(wrong, .range, 8), (busy, .busy, 0xFF)] c ref
      (fun s => (s.accept ref).startAdmission n (some ref)) s

/-- The fallback set is sent: 8 parcels with a new SET value (09 R217). -/
def State.sendFallbackSet (n : TileId) (s : State) : State :=
  let set := ((s.port n).fallbackSet + 1) % 256
  let s := s.onPort n fun p => { p with fallbackSet := set }
  forEach (List.range 8) (fun i s => s.control n 7 (i + 256 * set) (slice (s.fallback n.val) (256 * i) 256)) s

/-- Every FALLBACK parcel is acknowledged: the tile is ADMITTED (09 R223). -/
def State.admissionDone (n : TileId) (s : State) : State :=
  let p := s.port n
  match p.admission with
  | none => s
  | some a =>
    if a.acked && !(p.tracks.any fun t => t.tn = 7) then
      let s := ((s.onPort n fun p => { p with admission := none }).setTileState n 2 1).diagAdmitted n
      match a.ref with
      | some ref => s.completeOk ref (((s.port n).ident.map (·.serial.toNat)).getD 0)
      | none => s
    else s

/-- ADMIT_ACK: the lane credits are granted, and the fallback set is sent (09 R223). -/
def State.admitAckIn (n : TileId) (e : EventBody) (s : State) : State :=
  match (s.port n).admission with
  | none => s
  | some a =>
    if a.acked then s
    else
      let s := s.releases n e.relA e.relB e.relK
      (s.onPort n fun p => { p with admission := some { a with acked := true } }).sendFallbackSet n

/-- 100 ms without completion: TIMEOUT, the tile stays TRAINING (09 R223). -/
def State.admitTimeout (n : TileId) (s : State) : State :=
  match (s.port n).admission with
  | none => s
  | some a =>
    let s := (s.advanceTo (a.since + msCounts 100)).onPort n fun p => { p with
      admission := none, tracks := p.tracks.filter (!·.admits) }
    match a.ref with
    | some ref => s.completeWith ref .timeout
    | none => s

/-! ### Retirement (09 R224) -/

/-- TILE_RETIRE from step 4 on. -/
def tileRetireBody : Body := fun c ref s =>
  let n := opTile c
  if !(s.port n).admitted || (s.inLit n && !(s.tileEntry n).hotSwap) then s.completeWith ref .state
  else
    checked [(8, 1)] [((s.port n).admission.isSome || (s.port n).retirement.isSome, .busy, 0xFF)] c ref
      (fun s => (s.accept ref).onPort n fun p => { p with retirement := some ⟨some ref, 0, 0, false⟩ }) s

/-- The tile is RETIRED: all credits return to it, and the command completes (09 R224). -/
def State.retireDone (n : TileId) (cause : Nat) (st : Status) (s : State) : State :=
  match (s.port n).retirement with
  | none => s
  | some r =>
    let s := (s.onPort n fun p => { p with retirement := none, readmit := r.readmit, dark := false }).resetLedger n
    let s := s.setTileState n 6 cause
    let s := if s.declared n then s
      else (s.setTileState n 0 5).onPort n fun p => { p with lockA := false, lockB := false, retLock := false }
    match r.ref with
    | some ref => s.complete ref st 0xFF 0
    | none => s

/-- RETIRE_ACK has come: the tile is RETIRED once no parcel is left unacknowledged (09 R224 step 3, log 91). -/
def State.retireCheck (n : TileId) (s : State) : State :=
  match (s.port n).retirement with
  | some r => if r.stage = 4 ∧ (s.port n).tracks.all (fun t => t.acked || t.failed) then s.retireDone n 1 .ok else s
  | none => s

/-- RETIRE_ACK; it acknowledges the RETIRE parcel itself, whose SEQ the tile forgets as it answers (09 R201). -/
def State.retireAckIn (n : TileId) (s : State) : State :=
  match (s.port n).retirement with
  | some r =>
    if 2 ≤ r.stage then
      (s.onPort n fun p => { p with
        retirement := some { r with stage := 4 }, tracks := p.tracks.filter fun t => t.tn ≠ 6 }).retireCheck n
    else s
  | none => s

/-- No RETIRE_ACK within 16 frames. -/
def State.retireTimeout (n : TileId) (s : State) : State :=
  match (s.port n).retirement with
  | some r => if 16 ≤ r.frames then s.retireDone n 3 .timeout else s
  | none => s

/-! ### Acknowledgements (09 R210, R211) -/

/-- The ACK record reports a SEQ good. -/
def ackCovers (b : AckBody) (seq : Nat) : Bool :=
  let i := diff16 seq b.base.toNat
  decide (i < 256) && b.map.getLsbD i

/-- A lane enters LS1 once CLOSE is acknowledged and nothing waits (09 R229; log 116). -/
def State.enterLs1 (n : TileId) (s : State) : State :=
  let p := s.port n
  if s.bit (Reg.TL_CFG n) 0 && p.closeAcked && !(p.tracks.any fun t => s.mayGo n t) then
    forEach (s.openLanes n) (fun l s => (s.onPort n (Port.setPwr l 1)).emit (.laneIdle n l true)) s
  else s

/-- An acknowledged parcel: nothing of it is due but the first copies of a CLOSE (09 R212). -/
def Track.ackedNow (t : Track) : Track :=
  { t with acked := true, due := t.due.filter fun l => t.isClose && !(t.copies.any (fun c => c.1 = l)) }

/-- Acknowledged parcels of no frame are no longer tracked; those of the frame stay until its tick. -/
def Track.finished (t : Track) : Bool := t.acked && t.line.isNone && !t.isClose

/-- An ACK record (09 R207, R210). A secondary notes what the tile has acknowledged of its held lines (14 R331). -/
def State.ackIn (n : TileId) (b : AckBody) (s : State) : State :=
  let s := s.releases n b.relA b.relB b.relK
  let hit := fun (t : Track) => !t.copies.isEmpty && !t.failed && ackCovers b t.seq
  let closed := (s.port n).tracks.any fun t => t.isClose && decide (t.frame = s.frame) && hit t
  let s := s.onPort n fun p => { p with
    tracks := (p.tracks.map fun t => if hit t then t.ackedNow else t).filter (fun t => !t.finished)
    closeAcked := p.closeAcked || closed }
  let held (h : HeldLine) : HeldLine := if h.tile ≠ n then h else { h with
    acked := h.acked ++ (h.plan.filter fun a => ackCovers b a.2).map (·.1), plan := h.plan.filter fun a => !ackCovers b a.2 }
  let s := if s.partner.held.isEmpty then s else s.onPartner fun p => { p with held := p.held.map held }
  ((s.admissionDone n).retireCheck n).enterLs1 n

def Port.crcSeen (p : Port) : TxLane → Option Nat
  | .a => p.crcSeenA
  | .b => p.crcSeenB
def Port.setCrcSeen (l : TxLane) (v : Option Nat) (p : Port) : Port := match l with
  | .a => { p with crcSeenA := v }
  | .b => { p with crcSeenB := v }

/-- A NAK record (09 R210, R211): the copy sent at that position is resent. -/
def State.nakIn (n : TileId) (b : NakBody) (s : State) : State :=
  let l := laneNum b.lane
  let s := ((s.laneError n l).addWrap (Reg.TL_CRC n) (15 + 16 * l) (16 * l) 1).onPort n fun p =>
    p.setCrcSeen b.lane ((p.crcSeen b.lane).map fun v => (v + 1) % 65536)
  match (s.port n).tracks.find? (fun t => t.copies.contains (b.lane, b.laneCount.toNat)) with
  | none => s
  | some t =>
    let latest := decide (t.copies.getLast? = some (b.lane, b.laneCount.toNat))
    if t.parcel.tryN = 3 ∧ latest = false then s else s.sendLost n t

/-- ACK_TIMEOUT in lamp counts; below 4 µs counts as 4 (09 R232). -/
def State.ackTimeout (s : State) (n : TileId) : Nat := usCounts (max 4 (s.fld (Reg.TL_CFG n) 15 8))

/-- Lamp times of the retry horizon and of the next frame tick (04 R81, 09 R212). -/
def State.horizonAt (s : State) : Nat := s.timing.lastTick + s.timing.period - 15000
def State.nextTick (s : State) : Nat := s.timing.lastTick + s.timing.period

/-- ACK_TIMEOUT passes for a SEQ (09 R211, R212). A CLOSE is not resent from 10 µs before its tick. -/
def State.resendTimeout (n : TileId) (seq : Nat) (s : State) : State :=
  let p := s.port n
  match p.tracks.find? (fun t => t.seq = seq) with
  | none => s
  | some t =>
    let due := t.sentAt + s.ackTimeout n
    let late := if t.isClose then decide (s.nextTick ≤ due + 1000)
      else (t.isPixels || t.isProbes) && decide (s.horizonAt ≤ due)
    if t.acked || t.failed || t.copies.isEmpty || !t.due.isEmpty || p.blind || late || !s.mayGo n t then s
    else ((s.advanceTo due).laneError n (laneNum t.lane)).sendLost n t

/-! ### STATUS, IDENT and lane events (09 R219, R221, R225) -/

/-- Lanes as a record reports them: bit 0 A, bit 1 B. -/
def State.lanesReport (n : TileId) (lanes : Nat) (s : State) : State :=
  forEach [TxLane.a, TxLane.b] (fun l s => if bitAt lanes (laneNum l) then s.laneUpAt n l else s.laneDownAt n l) s

/-- Moves of a tile state on a STATUS record (09 R225). -/
def statusMove (old new : Nat) (dark : Bool) : Bool :=
  (decide (new = 3) && decide (old = 2 ∨ old = 4 ∨ old = 5)) || (decide (new = 4) && decide (old = 3 ∨ old = 5)) ||
  (decide (new = 5) && decide (old = 3 ∨ old = 4)) || (decide (new = 2) && decide (3 ≤ old ∧ old ≤ 5) && dark)

/-- CRC_A or CRC_B of a STATUS record: errors and runts that no NAK has reported, such as the runt of a copy that a lost
lane cut off, are counted now (09 R219, R227, R232, log 93). -/
def State.crcReport (n : TileId) (l : TxLane) (v : Nat) (s : State) : State :=
  let d := match (s.port n).crcSeen l with
    | some old => if diff16 v old < 32768 then diff16 v old else 0
    | none => 0
  let s := if d = 0 then s
    else (s.laneError n (laneNum l)).addWrap (Reg.TL_CRC n) (15 + 16 * laneNum l) (16 * laneNum l) d
  s.onPort n fun p => p.setCrcSeen l (some v)

/-- LANE resync is sent while blind operation waits for it (09 R221). -/
def State.sendResync (n : TileId) (s : State) : State :=
  let p := s.port n
  if p.blind && !p.leaveBlind && !(p.tracks.any fun t => t.tn = 9 ∧ t.copies.isEmpty) then
    (s.onPort n fun p => { p with tracks := p.tracks.filter (fun t => t.tn ≠ 9) }).control n 9 3 []
  else s

/-- A STATUS record (09 R219, R221, R225, R434). -/
def State.statusIn (n : TileId) (b : StatusBody) (s : State) : State :=
  let s := (((s.onPort n fun p => { p with status := some b }).crcReport n .a b.crcA.toNat).crcReport n .b b.crcB.toNat).lanesReport
    n b.lanes.toNat
  let p := s.port n
  let s := if statusMove p.state b.state.toNat (p.dark || p.retirement.isSome) then s.setTileState n b.state.toNat 2 else s
  let s := if b.state = 2#8 then s.onPort n fun p => { p with dark := false } else s
  s.sendResync n

/-- A flash load or read whose tile leaves the link can end only by its timeout (09 R228, log 23). -/
def State.strandFlash (n : TileId) (s : State) : State :=
  s.onPort n fun p => { p with flash := p.flash.map fun j => { j with committed := j.committed.or (some s.lamp) } }

/-- An IDENT record (09 R221, R222, R225). -/
def State.identIn (n : TileId) (b : IdentBody) (s : State) : State :=
  let old := (s.port n).state
  let s := s.onPort n fun p => { p with ident := some b }
  let s := if old = 1 && !(s.port n).blind then s
    else
      let s := (s.setTileState n 1 4).strandFlash n
      let s := s.onPort n fun p => { p with events := [], dark := false, crcSeenA := none, crcSeenB := none }
      s.identCheck n
  let s := s.onPort n fun p => { p.releaseKitty (diff16 b.relK.toNat p.relK) with relK := b.relK.toNat }
  let s := s.lanesReport n b.lanes.toNat
  if (s.port n).readmit && s.admissible n then s.startAdmission n none else s

/-- A record body's lane event: counters become baselines for that lane (09 R219, R221). -/
def State.baseline (n : TileId) (e : EventBody) (s : State) : State :=
  s.onPort n fun p => { p with relA := e.relA.toNat, relB := e.relB.toNat, relK := e.relK.toNat }

/-- LANE_DOWN. Releases on the other pools are counted before the baseline is taken. -/
def State.laneDownIn (n : TileId) (l : TxLane) (e : EventBody) (s : State) : State :=
  let s := s.laneDownAt n l
  let others := s.chipLanes.filter (· ≠ l)
  (s.onPort n fun p => p.takeReleases others e.relA.toNat e.relB.toNat e.relK.toNat).baseline n e
/-- LANE_UP. -/
def State.laneUpIn (n : TileId) (l : TxLane) (e : EventBody) (s : State) : State :=
  let others := s.chipLanes.filter (· ≠ l)
  ((s.onPort n fun p => p.takeReleases others e.relA.toNat e.relB.toNat e.relK.toNat).baseline n e).laneUpAt n l

/-- RESYNC. An ABSENT tile takes the state its STATUS reported (09 R225). -/
def State.resyncIn (n : TileId) (e : EventBody) (s : State) : State :=
  if !(s.port n).blind then s
  else
    let s := s.resyncPort n e.relA.toNat e.relB.toNat e.relK.toNat
    match (s.port n).status with
    | some b => if (s.port n).state = 0 then s.setTileState n b.state.toNat 2 else s
    | none => s

/-- RETIME_ACK (04 R90, 09 R218). -/
def State.retimeAckIn (n : TileId) (s : State) : State :=
  let ack := fun (r : Retime) =>
    if r.noticed.getLsbD n.val && r.decided.isNone then { r with acked := r.acked ||| (1#16 <<< n.val) } else r
  s.onTiming fun t => { t with retime := t.retime.map ack }

/-! ### The return lane (09 R220, R221, R225) -/

/-- The return lane locks at the chip. -/
def State.retLaneLock (n : TileId) (s : State) : State :=
  if (s.port n).retLock || !s.declared n || !s.ready (11 + groupOf n) then s
  else
    let s := s.onPort n fun p => { p with
      retLock := true, lastRseq := none, retAt := s.lamp, unlockedFrames := 0, missingFrames := 0 }
    (s.laneRecord n 2 2).identCheck n

/-- The return lane loses lock at the chip. -/
def State.retLaneLost (n : TileId) (s : State) : State :=
  let p := s.port n
  if !p.retLock then s
  else if p.pwrRet = 2 ∨ bitAt p.testMask 2 = true then s.onPort n fun p => { p with retLock := false }
  else
    let s := s.onPort n fun p => { p with retLock := false, unlockedFrames := 0, lostLanes := p.lostLanes ||| 4#3 }
    let s := (s.setFlag (Reg.TL_LANE_STAT n) 18).laneRecord n 2 1
    if p.state = 6 then s.setTileState n 0 5
    else if p.state = 0 then s
    else s.enterBlindPort n

/-- Blind operation of an ABSENT port ends once its tile is out of the lit set (09 R220, R225). -/
def State.blindDropped (n : TileId) (s : State) : State :=
  let p := s.port n
  if p.blind && decide (p.state = 0) && !s.inLit n then s.resetLedger n else s

/-- 64 consecutive frames without return-lane lock (09 R220, R225). Blind operation goes on only for a tile of the lit set. -/
def State.absentTimeout (n : TileId) (s : State) : State :=
  let p := s.port n
  if !p.retLock && decide (p.state ≠ 0) && decide (64 ≤ p.unlockedFrames) then
    ((s.setTileState n 0 5).blindDropped n).strandFlash n
  else s

/-- No lane has locked for 64 frames while DEALT or LIT (02 R48). -/
def State.mismatchMissing (n : TileId) (s : State) : State :=
  let p := s.port n
  if s.declared n && decide (p.state = 0) && !p.missed && decide (64 ≤ p.missingFrames) then
    ((s.onPort n fun p => { p with missed := true }).setFlag Reg.DEV_DEAL_MISMATCH n.val).raise 5 n.val
  else s

/-- A record that fails its CRC (09 R226). -/
def State.badRecord (n : TileId) (s : State) : State :=
  if (s.port n).retLock && s.served n then (s.onPort n fun p => { p with retAt := s.lamp }).addWrap (Reg.TL_RET_ERR n) 15 0 1 else s

/-! ### LS2 (09 R229) -/

/-- LANE LS2 entry goes out for an ADMITTED or RETIRED tile outside the lit set; any other request is discarded. -/
def State.ls2Enter (n : TileId) (s : State) : State :=
  let p := s.port n
  if decide (p.state = 2 ∨ p.state = 6) && !s.inLit n && decide (p.ls2 = 0) then
    (s.onPort n fun p => { p with ls2 := 1 }).control n 9 1 (le 1 7)
  else if p.ls2 ≠ 0 then s
  else (s.setFlag (Reg.TL_LANE_PWR n) 8).setFld (Reg.TL_LANE_PWR n) 0 0 0

/-- LS2_ACK: both ends turn off; the credits are parked (09 R229). -/
def State.ls2AckIn (n : TileId) (s : State) : State :=
  if (s.port n).ls2 ≠ 1 then s
  else
    let s := s.onPort n fun p =>
      let off := fun (l : TxLane) (p : Port) =>
        ((((p.setPark l (p.park l + p.cred l + p.inFlight l)).setCred l 0).setInFlight l 0).setPwr l 2).setLock l false
      { off .b (off .a p) with ls2 := 2, pwrRet := 2, retLock := false }
    let s := forEach [TxLane.a, TxLane.b] (fun l s => s.emit (.laneIdle n l true)) s
    forEach (List.range 3) (fun l s => s.laneRecord n l 3) s

/-- LS2 is left: the lanes hunt again (09 R229). -/
def State.ls2Leave (n : TileId) (s : State) : State :=
  let p := s.port n
  if p.ls2 = 0 then s
  else
    let s := s.onPort n fun p => { p with ls2 := 0, pwrA := 0, pwrB := 0, pwrRet := 0 }
    if p.ls2 = 1 then s
    else
      let s := forEach [TxLane.a, TxLane.b] (fun l s => s.emit (.laneIdle n l false)) s
      forEach (List.range 3) (fun l s => s.laneRecord n l 4) s

/-- A lane leaves LS1 by sending IDLE, 2 µs before the next tick (09 R229). -/
def State.ls1Exit (n : TileId) (l : TxLane) (s : State) : State :=
  if (s.port n).pwr l = 1 then
    ((s.advanceTo (s.nextTick - 200)).onPort n (Port.setPwr l 0)).emit (.laneIdle n l false)
  else s

/-! ### LINK_TEST (09 R230) -/

/-- A LANE_MASK the tile's state permits. -/
def State.testMaskOk (s : State) (n : TileId) (m : Nat) : Bool :=
  let p := s.port n
  if s.inLit n then p.admitted && ((decide (m = 1) && p.lockB) || (decide (m = 2) && p.lockA)) else decide (p.state = 2)

/-- LINK_TEST from step 4 on. Mask 0 and bits 7:3 are no LANE_MASK (03 R67). -/
def linkTestBody : Body := fun c ref s =>
  let n := opTile c
  let m := par c 9 1
  if !s.testMaskOk n m then s.completeWith ref .state
  else
    checked [(8, 1), (9, 1), (10, 2)]
      [(decide (m = 0 ∨ 7 < m), .invalid, 9), (decide (par c 10 2 = 0), .invalid, 10), ((s.port n).test.isSome, .busy, 0xFF)] c ref
      (fun s =>
        let s := (s.accept ref).onPort n fun p => { p with test := some ⟨some ref, m, par c 10 2, false, par c 10 2, 0, m⟩ }
        s.control n 9 2 (le 1 m ++ le 1 0 ++ le 2 (par c 10 2))) s

/-- From the tick after LANE test start, each tested lane carries the sequence and its credits are parked. -/
def State.testStart (n : TileId) (s : State) : State :=
  match (s.port n).test with
  | some t =>
    if t.running || ((s.port n).tracks.any fun x => x.tn = 9 && decide (x.parcel.arg = 2#16) && x.copies.isEmpty) then s
    else s.onPort n fun p =>
      let on := fun (l : TxLane) (p : Port) => if bitAt t.mask (laneNum l)
        then ((p.setPark l (p.park l + p.cred l + p.inFlight l)).setCred l 0).setInFlight l 0 else p
      { on .b (on .a p) with test := some { t with running := true } }
  | none => s

/-- The test completes once every tested lane's count is in. -/
def State.testDone (n : TileId) (s : State) : State :=
  match (s.port n).test with
  | some t =>
    if t.wait ≠ 0 then s
    else
      let s := s.onPort n fun p => { p with test := none }
      match t.ref with
      | some ref => s.completeOk ref t.errors
      | none => s
  | none => s

/-- After FRAMES ticks the lanes return to normal use; `errors` is the chip's count on the return lane. -/
def State.testEnd (n : TileId) (errors : Nat) (s : State) : State :=
  match (s.port n).test with
  | some t =>
    if !t.running || decide (0 < t.left) then s
    else
      let ret := bitAt t.mask 2
      let t' := { t with running := false, errors := if ret then satAdd (2 ^ 32 - 1) t.errors (min (2 ^ 32 - 1) errors) else t.errors
                         wait := if ret then t.wait % 4 else t.wait }
      let s := s.onPort n fun p =>
        let back := fun (l : TxLane) (p : Port) => if bitAt t.mask (laneNum l) && p.lock l
          then (p.setCred l (p.cred l + p.park l)).setPark l 0 else p
        { back .b (back .a p) with test := some t' }
      s.testDone n
  | none => s

/-- TEST_RESULT of a lane. -/
def State.testResultIn (n : TileId) (l : TxLane) (e : EventBody) (s : State) : State :=
  match (s.port n).test with
  | some t =>
    if bitAt t.wait (laneNum l) then
      (s.onPort n fun p => { p with test := some { t with
        wait := t.wait - 2 ^ laneNum l, errors := satAdd (2 ^ 32 - 1) t.errors e.value.toNat } }).testDone n
    else s
  | none => s

/-! ### Tile flash (09 R228; 12 R295) -/

/-- The non-volatile window of the die is open (12 R295). -/
def State.nvOpen (s : State) : Bool := s.house.therm.nvOpen
/-- The tile's last T_SINK is in its window. -/
def State.sinkOk (s : State) (n : TileId) : Bool :=
  match (s.port n).sensor with
  | some b => decide (b.tSink.toNat ≤ 850)
  | none => false
/-- Both halves of the thermal check of a tile flash write. -/
def State.flashThermal (s : State) (n : TileId) : Bool := s.nvOpen && s.sinkOk n

/-- A flash load ends with a status. -/
def State.flashEnd (n : TileId) (st : Status) (s : State) : State :=
  match (s.port n).flash with
  | some j => (s.onPort n fun p => { p with flash := none }).completeWith j.ref st
  | none => s

/-- What FLASH work the port may queue next when a lane has nothing else to send: the next chunk, or the commit once
every chunk is acknowledged or failed, or the read request outstanding (log 26). -/
def State.queueFlash (n : TileId) (s : State) : State :=
  let p := s.port n
  let waiting := p.tracks.any fun t => t.tn = 8 ∧ !t.failed
  match p.flash with
  | some j =>
    if j.committed.isSome ∨ !p.admitted then s
    else if 256 * j.queued < j.len then
      if s.dramGood (j.addr + 256 * j.queued) (min 256 (j.len - 256 * j.queued)) then
        (s.onPort n fun p => { p with flash := some { j with queued := j.queued + 1 } }).newParcel n 8 j.queued 0
          (s.dramRead (j.addr + 256 * j.queued) (min 256 (j.len - 256 * j.queued))) s.frame none
      else (s.flashEnd n .invalid).dramUncorr 6 n.val j.addr
    else if waiting then s
    else if !s.flashThermal n then
      -- no commit is sent, and the tile discards the chunks it holds (12 R295, log 92)
      let s := s.flashEnd n .thermal
      { s with tiles := s.tiles.set n { s.tiles.get n with flashIn := [] } }
    else
      (s.onPort n fun p => { p with flash := some { j with committed := some s.lamp } }).newParcel n 8 0 1
        (le 4 j.len ++ le 4 (crc32c (s.dramRead j.addr j.len))) s.frame none
  | none => s

/-- FLASH_DONE. -/
def State.flashDoneIn (n : TileId) (failed : Bool) (s : State) : State :=
  match (s.port n).flash with
  | some j => if j.committed.isSome then s.flashEnd n (if failed then .invalid else .ok) else s
  | none => s

/-- 30 s after the commit without FLASH_DONE. -/
def State.flashTimeout (n : TileId) (s : State) : State :=
  match (s.port n).flash with
  | some j =>
    match j.committed with
    | some t => (s.advanceTo (t + msCounts 30000)).flashEnd n .timeout
    | none => s
  | none => s

/-- Requests bytes `a` to `b - 1` of a flash read. -/
def State.askFlash (n : TileId) (j : ReadJob) (a b : Nat) (s : State) : State :=
  (s.onPort n fun p => { p with read := some { j with at0 := a, upTo := b } }).newParcel n 8 0 2 (le 4 a ++ le 4 (b - a)) s.frame none

/-- A TILE_CAL_READ ends with its completion; the next one of the tile begins. -/
def State.readEnd (n : TileId) (done : State → State) (s : State) : State :=
  let s := done (s.onPort n fun p => { p with read := none })
  match (s.port n).readWait with
  | j :: rest => (s.onPort n fun p => { p with readWait := rest }).askFlash n j 0 (min j.len 49152)
  | [] => s

/-- Bytes a read has written. -/
def ReadJob.written (j : ReadJob) : Nat := (j.got.map fun o => min 48 (j.len - o)).foldl (· + ·) 0

/-- The end of a request is judged: missing offsets are asked for again up to 3 times, then the next request goes out,
or the command completes with the number of bytes written. -/
def State.judgeRead (n : TileId) (j : ReadJob) (s : State) : State :=
  let base := j.at0 / 49152 * 49152
  let top := min j.len (base + 49152)
  let missing := ((List.range 1024).map (fun i => base + 48 * i)).filter (fun o => o < top ∧ !j.got.contains o)
  match missing with
  | o :: _ =>
    if j.tries < 3 then s.askFlash n { j with tries := j.tries + 1 } o (min top (((missing.getLast?).getD o) + 48))
    else if top < j.len then s.askFlash n { j with tries := 0 } top (min j.len (top + 49152))
    else s.readEnd n fun s => s.completeOk j.ref j.written
  | [] =>
    if top < j.len then s.askFlash n { j with tries := 0 } top (min j.len (top + 49152))
    else s.readEnd n fun s => s.completeOk j.ref j.written

/-- FLASH_DATA: its body goes to host memory (09 R228). With the link down the command fails (16 R435); while bus
mastering is off or the function is in D3hot the body is not taken, and is asked for again (log 19). -/
def State.flashDataIn (n : TileId) (off : Nat) (data : Bytes) (s : State) : State :=
  match (s.port n).read with
  | none => s
  | some j =>
    if j.at0 ≤ off ∧ off < j.upTo ∧ (off - j.at0) % 48 = 0 then
      if !s.host.linkUp then s.readEnd n fun s => s.completeWith j.ref .timeout
      else
        let s := if s.hostReady then s.emit (.hostWrite (j.addr + off) (padTo (min 48 (j.len - off)) data)) else s
        let j := { j with got := if j.got.contains off || !s.hostReady then j.got else j.got ++ [off], fresh := true }
        let s := s.onPort n fun p => { p with read := some j }
        if j.upTo ≤ off + 48 then s.judgeRead n j else s
    else s

/-- TILE_CAL_READ from step 5 on (09 R228; 17 R407 reads a tile before it is admitted). A LENGTH of 0 is INVALID with
DETAIL 24, and a second read of a tile waits for the first (DESIGN CHOICE, log 25). -/
def tileCalReadBody : Body := fun c ref s =>
  let n := opTile c
  let len := par c 24 4
  checked [(8, 1), (16, 8), (24, 4)]
    [(decide (len = 0), .invalid, 24), (!s.declared n, .range, 8)] c ref
    (fun s =>
      let j : ReadJob := ⟨ref, par c 16 8, len, 0, 0, 0, [], true⟩
      if (s.port n).read.isSome then (s.accept ref).onPort n fun p => { p with readWait := p.readWait ++ [j] }
      else (s.accept ref).askFlash n j 0 (min len 49152)) s

/-- At a frame tick a request that has brought nothing for a frame is judged (log 19). -/
def State.readTick (n : TileId) (s : State) : State :=
  match (s.port n).read with
  | none => s
  | some j =>
    let asked := (s.port n).tracks.any fun t => t.tn = 8 ∧ !t.failed
    if j.fresh ∨ asked then s.onPort n fun p => { p with read := some { j with fresh := asked } }
    else s.judgeRead n j

/-! ### PARCEL_SEND (09 R194, R208) -/

/-- The port sends the next parcel on a lane. `ecc`: its retry buffer reads uncorrectable, so a resend fails (01 R21; 14 R317). -/
def State.parcelSend (n : TileId) (l : TxLane) (ecc : Bool) (s : State) : State :=
  if !s.portOn n || !(s.openLanes n).contains l then s
  else
    let s := match s.nextTrack n l with
      | some t => s.readSpill n t
      | none => s.queueFlash n
    match s.nextTrack n l with
    | none => s
    | some t =>
      if ecc && !t.copies.isEmpty && !(s.port n).blind then
        ((s.failTrack n t.seq).raise 7 9).raiseGroup n 13 3
      else s.sendCopy n l t

end Sys2Proof.Machine
end

