-- ==== Sys2Proof/Machine/CalLoad.lean ====
section
/-! DEFINITION. TILE_CAL_LOAD to either target (08 R183; 09 R228; 12 R295). -/

namespace Sys2Proof.Machine

open Sys2Proof

/-- TILE_CAL_LOAD from step 5 on. A flash image's source lies in the tile's CAL_PART too (log 26). -/
def tileCalLoadBody : Body := fun c ref s =>
  let n := opTile c
  let target := par c 9 1
  let a := par c 16 8
  let len := par c 24 4
  let t := s.tileEntry n
  let inPart := match s.partEntry t.calPart with
    | some p => p.holds a len
    | none => false
  let busy := (s.phot n).calJob.isSome || (s.port n).flash.isSome
  let head := [(decide (1 < target), Status.invalid, 9), (!t.present, .range, 8)]
  let used := [(8, 1), (9, 1), (16, 8), (24, 4)]
  if target = 0 then
    checked used (head ++ [(decide (a % 64 ≠ 0), .invalid, 16), (!inPart, .range, 16), (decide (len ≠ calLength t), .invalid, 24),
        (busy, .busy, 0xFF)]) c ref
      (fun s => (s.accept ref).onPhot n fun p => { p with calJob := some ⟨ref, a, len, none, 0, false, false, false⟩ }) s
  else
    let caps := match (s.port n).ident with
      | some i => bitAt i.caps.toNat 1
      | none => false
    checked used (head ++ [(!caps, .range, 9), (!inPart, .range, 16), (decide (len = 0), .invalid, 24), (busy, .busy, 0xFF),
        (!s.flashThermal n, .thermal, 0xFF)]) c ref
      (fun s => (s.accept ref).onPort n fun p => { p with flash := some ⟨ref, a, len, 0, none⟩ }) s

end Sys2Proof.Machine
end

