-- ==== Sys2Proof/Machine/Compose.lean ====
section
/-! DEFINITION. One composed line: layers, blending, mask, floor, pot, trump, gain, curve, probes, REPEAT, parcels (05 R96 to R115,
07 R146 to R148, 08 R173 to R189, 09 R203, R204; 14 R323, R324). -/

namespace Sys2Proof.Machine

open Sys2Proof

/-! ### Blending (05 R99 to R101) -/

/-- mul of 05 R100. -/
def mul16 (x y : Nat) : Nat := (x * y + 32767) / 65535

/-- One blend step. -/
def blend (op alpha d : Nat) (sa : Nat × Nat) : Nat :=
  let a := mul16 alpha sa.2
  match op with
  | 0 => mul16 a sa.1 + mul16 (0xFFFF - a) d
  | 1 => min (d + mul16 a sa.1) 0xFFFF
  | 2 => mul16 d (0xFFFF - mul16 a (0xFFFF - sa.1))
  | 3 => max d (mul16 a sa.1)
  | _ => d - mul16 a sa.1

/-- The layer covers window pixel (x, y) (05 R101). -/
def Layer.covers (L : Layer) (x y : Nat) : Bool :=
  decide (L.x ≤ (x : Int)) && decide ((x : Int) < L.x + L.w) && decide (L.y ≤ (y : Int)) && decide ((y : Int) < L.y + L.h)
/-- The layer has a pixel on window line `y`. -/
def Layer.onLine (t : TileEntry) (L : Layer) (y : Nat) : Bool :=
  L.meets t && decide (L.y ≤ (y : Int)) && decide ((y : Int) < L.y + L.h)

/-- The scaler of a slot, for video slots. -/
def State.slotScaler (s : State) (n : TileId) (sl : Fin 8) : Option Nat :=
  match s.slotEntry n sl with
  | some e => if e.role = 2 then some e.scaler else none
  | none => none

/-- The unsuppressed layers that line `y` needs, bottom first (05 R98, R113). -/
def State.lineLayers (s : State) (n : TileId) (y : Nat) : List (Fin 8 × Layer) :=
  let c := s.churn n
  c.order.filterMap fun k =>
    let sl : Fin 8 := ⟨k % 8, Nat.mod_lt _ (by decide)⟩
    match c.layer sl with
    | some L => if L.onLine (s.tileEntry n) y && !c.suppressed.getLsbD sl.val then some (sl, L) else none
    | none => none

/-- Columns of the window that a layer covers on a line. -/
def Layer.cols (t : TileEntry) (L : Layer) : List Nat := (List.range t.width).filter fun x => decide (L.x ≤ (x : Int)) && decide ((x : Int) < L.x + L.w)

/-- A layer's own coordinates of window pixel (x, y). -/
def Layer.at (L : Layer) (x y : Nat) : Nat × Nat := (((x : Int) - L.x).toNat, ((y : Int) - L.y).toNat)

/-- The first address at which a layer's data for a line reads uncorrectable. -/
def State.layerBad (s : State) (n : TileId) (sl : Fin 8) (L : Layer) (y : Nat) : Bool :=
  (L.cols (s.tileEntry n)).any fun x =>
    (s.sourcesOf (s.slotScaler n sl) L (L.at x y).1 (L.at x y).2).any fun p => !pixelGood s L.surface L.hdr p.1 p.2

/-- A Curd block that the line needs fails to decode (05 R115, 06 R133). -/
def State.layerUndecoded (s : State) (n : TileId) (sl : Fin 8) (L : Layer) (y : Nat) : Bool :=
  (L.cols (s.tileEntry n)).any fun x => (s.layerPixel (s.slotScaler n sl) L (L.at x y).1 (L.at x y).2).isNone

/-- The blend result d of a pixel (05 R99, R100; 14 R324 in SAFE_LIGHT). -/
def State.blendPixel (s : State) (n : TileId) (ls : List (Fin 8 × Layer)) (x y : Nat) : Nat :=
  if s.dev.state = .safeLight then leVal (slice (s.fallback n.val) (y / 32 * 64 + x / 32) 1) * 257
  else
    ls.foldl (fun d e =>
      if e.2.covers x y then
        match s.layerPixel (s.slotScaler n e.1) e.2 (e.2.at x y).1 (e.2.at x y).2 with
        | some sa => blend e.2.blend e.2.alpha d sa
        | none => d
      else d) (s.fld (Reg.CHN_BG n) 15 0)

/-! ### REPEAT causes (05 R115, R124; 07 R167; 01 R21) -/

/-- Slots of a mask among the line's layers. -/
def slotMask (l : List (Fin 8)) : Nat := (l.map fun sl => 2 ^ sl.val).foldl (· ||| ·) 0

/-- Slots with an uncorrectable read, slots with a failed block. -/
def State.eccSlots (s : State) (n : TileId) (ls : List (Fin 8 × Layer)) (y : Nat) : List (Fin 8) :=
  (ls.filter fun e => (s.churn n).headerEcc.getLsbD e.1.val || s.layerBad n e.1 e.2 y).map (·.1)
def State.undecodedSlots (s : State) (n : TileId) (ls : List (Fin 8 × Layer)) (y : Nat) : List (Fin 8) :=
  (ls.filter fun e => s.layerUndecoded n e.1 e.2 y).map (·.1)

/-- A gain of the line is missing or uncorrectable (08 R182). -/
def State.gainBad (s : State) (n : TileId) (y : Nat) : Bool :=
  (List.range (s.tileEntry n).width).any fun x => (s.gainAt n x y).isNone

/-- The causes of a line as R115 numbers them, and the slots they concern. -/
def State.repeatCauses (s : State) (n : TileId) (y : Nat) (env : LineEnv) : Nat × Nat :=
  let ls := if s.dev.state = .safeLight then [] else s.lineLayers n y
  let under := (ls.filter fun e => env.underrun.getLsbD e.1.val).map (·.1)
  let ecc := s.eccSlots n ls y
  let dec := s.undecodedSlots n ls y
  let c := s.churn n
  let sram := fun r => env.sram.getLsbD r
  let cause := b2n (!under.isEmpty) + 2 * b2n (!ecc.isEmpty) + 4 * b2n (env.calMissing || sram 4 || s.gainBad n y) +
    8 * b2n (sram 1 || sram 2 || sram 3 || sram 6) + 16 * b2n (!dec.isEmpty) +
    32 * b2n (c.trumpCovers y && (c.withdrawn || env.trumpRuns)) + 64 * b2n (s.skimFor s.frame).isNone
  (cause, slotMask under ||| slotMask ecc ||| slotMask dec ||| b2n (bitAt cause 5))

/-- Uncorrectable reads of the line go to the fault collector (01 R21, 14 R317). -/
def State.lineFaults (n : TileId) (y : Nat) (env : LineEnv) (s : State) : State :=
  let ls := if s.dev.state = .safeLight then [] else s.lineLayers n y
  let bad := ls.filter fun e => s.layerBad n e.1 e.2 y
  let gain := s.gainBad n y
  let s := forEach bad (fun e s => s.dramUncorr (if (s.slotScaler n e.1).isSome then 2 else 0) n.val e.2.surface) s
  let s := if gain then (s.onPhot n fun p => { p with calBad := true }).dramUncorr 1 n.val (((s.phot n).cal.map (·.addr)).getD 0) else s
  let s := if env.calFlip then s.onPhot n fun p => { p with calWrong := true } else s
  let s := if env.sram.getLsbD 4 then s.onPhot n fun p => { p with calBad := true } else s
  let regions := [1, 2, 3, 4, 6].filter fun r => env.sram.getLsbD r
  let s := forEach regions (fun r s => s.raise 7 r) s
  if regions.any (fun r => decide (r ≠ 3)) then s.raiseGroup n 12 3 else s

/-- The page check of a line, and of the page at its last line (05 R124). -/
def State.trumpLineCheck (n : TileId) (y : Nat) (env : LineEnv) (s : State) : State :=
  let c := s.churn n
  if !c.trumpCovers y then s
  else
    let s := if env.trumpRuns || env.trumpFlip then s.onChurn n fun c => { c with pageBad := true } else s
    if !c.trumpCovers (y + 1) && (s.churn n).pageBad && !(s.churn n).pageFailed then
      let s := (s.onChurn n fun c => { c with pageFailed := true }).setFlag (Reg.CHN_EVT n) 3
      let s := s.trumpRecord n 4 (s.churn n).page (s.churn n).trumpSeq
      s.raiseGroup n 8 3
    else s

/-! ### The pixels of a line (08 R173, R177, R189) -/

/-- What one pixel gives: y4, y5, code, whether the trump page replaced it. -/
structure PixelOut where
  y4 : Nat
  y5 : Nat
  code : Nat
  trump : Bool
deriving DecidableEq, Repr

/-- The trump level at a pixel; where the decoded data differs from the set, any palette entry or none (log 85). -/
def State.trumpAt (s : State) (n : TileId) (x y : Nat) (flip : Bool) : Option Nat :=
  let c := s.churn n
  if flip && c.trumpCovers y then
    let i := Config.freeValue (s.freeSeq + x) % 16
    match c.trump with
    | some t => if i = 0 then none else some (trumpLevel t.image c.page i)
    | none => none
  else c.trumpPixel x y

/-- One pixel through steps 3 to 8a. -/
def State.pixelOut (s : State) (n : TileId) (k : SkimTile) (ls : List (Fin 8 × Layer)) (env : LineEnv) (y x : Nat) : PixelOut :=
  let d := s.blendPixel n ls x y
  let m := k.mask x y
  let f := k.floor x y
  let y3 := mul16 d m.1
  let y4 := if m.2 then y3 else max y3 f
  let y5 := s.potStep n y4 f m.2
  let tr := s.trumpAt n x y env.trumpFlip
  let y6 := tr.getD y5
  let g := if env.calFlip then Config.freeValue (s.freeSeq + 4096 + x) % 65536 else (s.gainAt n x y).getD 0x4000
  ⟨y4, y5, s.driveCode n y6 g ((s.phot n).classOf x y), tr.isSome⟩

def PixelOut.sums (p : PixelOut) : Sums := if p.trump then ⟨0, 0, 0, p.code⟩ else ⟨p.y4, p.y5, p.code, 0⟩

/-- The outcome of R189 for a scheduled pixel: cancelled for DARK (1), OWN (2), MASKED (3), or fired (0). -/
def State.probeOutcome (s : State) (n : TileId) (px : Pixel) (code : Nat) : Nat :=
  if code = 0 ∨ (s.phot n).classOf px.1 px.2 = 1 then 1
  else if 32 ≤ onTime s.timing.rate code then 2
  else if s.pixelMasked n px.1 px.2 then 3 else 0

/-- A cancellation marks the pending entry with the frame (10 R244). -/
def State.cancelProbe (n : TileId) (px : Pixel) (masked : Bool) (s : State) : State :=
  let f := s.frame
  let mark := fun (e : PendProbe) => if e.pix = px then { e with cancelled := some f } else e
  let s := s.onDiag n fun d => { d with pend := d.pend.map mark, deferred := d.deferred + b2n masked }
  let s := if masked then s.addWrap (Reg.TL_DIAG_DEFER n) 31 0 1 else s
  s.onPhot n fun p => { p with cancelled := p.cancelled + 1 }

/-- Probe decisions of a line; answers the fired pixels in column order. -/
def State.probeLine (n : TileId) (y : Nat) (codes : List Nat) (s : State) : State × List Pixel :=
  let px := sortKey (·.1) ((s.phot n).sched.filter (fun p => p.2 = y))
  px.foldl (fun (a : State × List Pixel) p =>
    let o := a.1.probeOutcome n p (codes.getD p.1 0)
    if o = 0 then (a.1, a.2 ++ [p]) else (a.1.cancelProbe n p (decide (o = 3)), a.2)) (s, [])

/-! ### Parcels of a line (09 R203, R204) -/

/-- The line stream: 12 bits a code, least significant first. -/
def lineStream (codes : List Nat) : Nat := codes.foldr (fun c acc => c + 4096 * acc) 0
/-- Bytes of a line stream, whole segments. -/
def segCount (w : Nat) : Nat := ceilDiv (ceilDiv (12 * w) 8) 256

/-- The stream of a line, whole segments (09 R203). -/
def streamBytes (codes : List Nat) : Bytes := le (ceilDiv (12 * codes.length) 8) (lineStream codes)
/-- ADDR and payload of the PIXELS parcels of a line. -/
def pixelSegs (y : Nat) (codes : List Nat) : List (Nat × Bytes) :=
  let v := lineStream codes
  (List.range (segCount codes.length)).map fun i => (y + 1024 * i, le 256 (v >>> (2048 * i)))

/-! ### The held lines of a secondary (14 R331, R332) -/

/-- Updates the held line of a tile, frame and line, made where there is none. -/
def State.onHeld (n : TileId) (k y : Nat) (f : HeldLine → HeldLine) (s : State) : State :=
  let is := fun (h : HeldLine) => decide (h.tile = n ∧ h.frame = k ∧ h.line = y)
  s.onPartner fun p =>
    if p.held.any is then { p with held := p.held.map fun h => if is h then f h else h }
    else { p with held := p.held ++ [f { tile := n, frame := k, line := y }] }
/-- A PIXELS track of the plan. -/
def planTrack (k y : Nat) (seq : Nat) (seg : Nat × Bytes) : Track :=
  { parcel := mkParcel 1 seg.1 0 k seq seg.2, frame := k, line := some y }
/-- Sends of a held line what the plan has numbered, once its digests agree; where they differ the line is divergent. -/
def State.releaseHeld (n : TileId) (k y : Nat) (s : State) : State :=
  match s.partner.held.find? (fun h => h.tile = n ∧ h.frame = k ∧ h.line = y) with
  | none => s
  | some h => match h.own, h.peer with
    | some (own, segs), some peer =>
      if own = peer then
        let go := h.plan.filterMap fun a => (segs.find? fun g => g.1 = a.1).map fun g => (a.2, g)
        let s := forEach go (fun a s => s.addTrack n a.1 (planTrack k y a.1 a.2)) s
        s.onHeld n k y fun h => { h with
          plan := h.plan.filter fun a => !(segs.any fun g => g.1 = a.1)
          own := some (own, segs.filter fun g => !(h.plan.any fun a => a.1 = g.1)) }
      else if h.divergent then s
      else
        (s.onHeld n k y fun h => { h with divergent := true }).onPartner fun p => { p with
          divergeLines := (p.divergeLines + 1) % 2 ^ 32
          divergeTile := p.divergeTile.or (some n.val) }
    | _, _ => s

/-- The PROBES parcels of a line's fired probes, 64 a parcel (09 R204). -/
def State.queueProbes (n : TileId) (k y : Nat) (fired : List Pixel) (s : State) : State :=
  forEach (List.range (ceilDiv fired.length 64)) (fun i s =>
    let es := (fired.drop (64 * i)).take 64
    s.newParcel n 2 y (y + 1024 * (es.length - 1)) (es.flatMap fun p => le 4 (p.1 + 2048 * p.2)) k (some y)) s

/-- The PROBES and PIXELS parcels of a line. The primary of a locked pair sends the line's digest; the secondary holds
the line (14 R331, R332). -/
def State.queueLine (n : TileId) (y : Nat) (codes : List Nat) (fired : List Pixel) (s : State) : State :=
  let k := s.frame
  if s.lockedSecondary then
    (s.onHeld n k y fun h => { h with
      own := some (crc32c (streamBytes codes), pixelSegs y codes), fired := fired }).releaseHeld n k y
  else
    let s := s.queueProbes n k y fired
    let s := forEach (pixelSegs y codes) (fun g s => s.newParcel n 1 g.1 0 g.2 k (some y)) s
    let s := if s.lockedPrimary then s.emit (.partner (.digest n y (crc32c (streamBytes codes)))) else s
    s.spillCheck n y

/-! ### CHURN_LINE -/

/-- Lamp time at which line `y` begins: 12 µs after the tick, then (WIDTH + 16) × 1.25 ns a line (05 R96). -/
def State.lineStart (s : State) (n : TileId) (y : Nat) : Nat :=
  s.timing.lastTick + 1200 + y * ((s.tileEntry n).width + 16) / 8

/-- The line is over: composition goes on, and the frame's ends are noted at the last line (05 R126, 08 R185). -/
def State.lineDone (n : TileId) (y : Nat) (s : State) : State :=
  let s := s.onChurn n fun c => { c with line := some y }
  let s := s.onPort n fun p => { p with composedTo := y + 1 }
  if y + 1 = (s.tileEntry n).height then
    (s.setFld (Reg.CHN_COMP_END n) 23 0 (1200 + (y + 1) * ((s.tileEntry n).width + 16) / 8)).streamCheck n
  else s

/-- A line sent as REPEAT (05 R115, 08 R180). -/
def State.repeatLine (n : TileId) (y cause slots : Nat) (s : State) : State :=
  let s := (s.noteRepeat n y cause slots).bookRepeat n y
  if 64 ≤ cause then (s.onSkim fun k => { k with maskRepeat := k.maskRepeat ||| (1#16 <<< n.val) }).setFlag Reg.SKM_EVT 7 else s

/-- A line composed from complete data. -/
def State.composeLine (n : TileId) (y : Nat) (env : LineEnv) (s : State) : State :=
  let ls := if s.dev.state = .safeLight then [] else s.lineLayers n y
  let k : SkimTile := match s.skimFor s.frame with
    | some u => u.tiles.get n
    | none => {}
  let outs := (List.range (s.tileEntry n).width).map (s.pixelOut n k ls env y)
  let codes := outs.map (·.code)
  let sums := (outs.map PixelOut.sums).foldl Sums.add {}
  let s := if env.trumpFlip || env.calFlip then { s with freeSeq := s.freeSeq + 8192 } else s
  let s := s.bookLine n y sums
  let r := s.probeLine n y codes
  let s := r.1.onPhot n fun p => { p with fired := p.fired ++ r.2 }
  if s.sendsFrames n then s.queueLine n y codes r.2 else s

/-- A churn composes its next line at its scheduled start, or sends it as REPEAT (05 R96). A line that is not the
churn's next does nothing. -/
def State.churnLine (n : TileId) (y : Nat) (env : LineEnv) (s : State) : State :=
  let c := s.churn n
  let next := match c.line with
    | some l => l + 1
    | none => 0
  if !c.composing || s.timing.pastCut || decide (y ≠ next) || decide ((s.tileEntry n).height ≤ y) then s
  else
    let s := s.advanceTo (s.lineStart n y)
    if c.drained then (s.repeatLine n y 0 0).lineDone n y
    else
      let r := s.repeatCauses n y env
      let s := (s.lineFaults n y env).trumpLineCheck n y env
      (if r.1 ≠ 0 then s.repeatLine n y r.1 r.2 else s.composeLine n y env).lineDone n y

end Sys2Proof.Machine
end

