-- ==== Sys2Proof/Machine/Float64.lean ====
section
/-! DEFINITION. IEEE 754 binary64 arithmetic, round to nearest even, for the profile generator (11 R263).
Values carry a 53-bit significand; the exponent has no bound, which no quantity of the generator reaches (log 38). -/

namespace Sys2Proof.Machine

open Sys2Proof

/-- Bits of a natural number below 2^400: its length. -/
def bitLen (n : Nat) : Nat := if n = 0 then 0 else Nat.log2 n + 1

/-- `n` / 2^k rounded to nearest, ties to even. -/
def rne (n k : Nat) : Nat :=
  let q := n / 2 ^ k
  let r := n % 2 ^ k
  if 2 ^ k < 2 * r ∨ (2 * r = 2 ^ k ∧ q % 2 = 1) then q + 1 else q

/-- The value `m * 2^e` rounded to 53 bits; 0 is (0, 0), any other significand has 53 bits. -/
def Dy.norm (m e : Int) : Dy :=
  let a := m.natAbs
  let sg : Int := if m < 0 then -1 else 1
  let k := bitLen a
  if a = 0 then ⟨0, 0⟩
  else if k ≤ 53 then ⟨sg * ((a * 2 ^ (53 - k) : Nat) : Int), e - ((53 - k : Nat) : Int)⟩
  else
    let q := rne a (k - 53)
    let x : Int := e + ((k - 53 : Nat) : Int)
    if q = 2 ^ 53 then ⟨sg * ((2 ^ 52 : Nat) : Int), x + 1⟩ else ⟨sg * (q : Int), x⟩

def Dy.ofInt (x : Int) : Dy := Dy.norm x 0
def Dy.neg (a : Dy) : Dy := ⟨-a.m, a.e⟩
def Dy.abs (a : Dy) : Dy := ⟨(a.m.natAbs : Nat), a.e⟩

/-- Both significands on the smaller exponent. -/
def Dy.align (a b : Dy) : Int × Int × Int :=
  let e := min a.e b.e
  (a.m * ((2 ^ (a.e - e).toNat : Nat) : Int), b.m * ((2 ^ (b.e - e).toNat : Nat) : Int), e)

def Dy.add (a b : Dy) : Dy :=
  let x := a.align b
  Dy.norm (x.1 + x.2.1) x.2.2
def Dy.sub (a b : Dy) : Dy := a.add b.neg
def Dy.mul (a b : Dy) : Dy := Dy.norm (a.m * b.m) (a.e + b.e)
/-- The correctly rounded quotient; the divisor is not 0. -/
def Dy.div (a b : Dy) : Dy :=
  let n := a.m.natAbs * 2 ^ 60
  let d := b.m.natAbs
  let q := 2 * (n / d) + (if n % d = 0 then 0 else 1)
  let sg : Int := if (a.m < 0) = (b.m < 0) then 1 else -1
  Dy.norm (sg * (q : Int)) (a.e - b.e - 61)
/-- The correctly rounded square root of a value that is not negative. -/
def Dy.sqrt (a : Dy) : Dy :=
  let odd := a.e % 2
  let n := a.m.natAbs * 2 ^ (60 + odd.toNat)
  let r := isqrt n
  let q := 2 * r + (if r * r = n then 0 else 1)
  Dy.norm (q : Int) ((a.e - odd - 60) / 2 - 1)
def Dy.le (a b : Dy) : Bool :=
  let x := a.align b
  decide (x.1 ≤ x.2.1)
def Dy.min (a b : Dy) : Dy := if a.le b then a else b
def Dy.max (a b : Dy) : Dy := if a.le b then b else a
def Dy.clamp (x lo hi : Dy) : Dy := Dy.max lo (Dy.min x hi)
/-- The integer nearest, halves away from zero (11 R263). -/
def Dy.round (a : Dy) : Int :=
  let k := a.m.natAbs
  let v : Nat := if 0 ≤ a.e then k * 2 ^ a.e.toNat
    else (k + 2 ^ ((-a.e).toNat - 1)) / 2 ^ (-a.e).toNat
  if a.m < 0 then -(v : Int) else v

end Sys2Proof.Machine
end

