-- ==== Sys2Proof/Machine/Control.lean ====
section
/-! DEFINITION. The closed-loop control engine: banks, law, set-points, hand-overs, swaps, traces (11). -/

namespace Sys2Proof.Machine

open Sys2Proof

/-! ### The engine's parts of the state -/

def State.onCtl (f : Ctl → Ctl) (s : State) : State := { s with ctl := f s.ctl }
def State.loop (s : State) (l : LoopId) : LoopSt := s.ctl.loops.get l
def State.onLoop (l : LoopId) (f : LoopSt → LoopSt) (s : State) : State :=
  s.onCtl fun c => { c with loops := c.loops.set l (f (c.loops.get l)) }
def State.onTrace (c : Fin 4) (f : TraceCh → TraceCh) (s : State) : State :=
  s.onCtl fun k => { k with traces := k.traces.set c (f (k.traces.get c)) }
def loopIds : List LoopId := List.finRange 64
/-- The group of a loop as MEMPART.GROUP codes it; 0xFF for a chip-wide loop (02 R36). -/
def LoopEntry.groupCode (e : LoopEntry) : Nat := e.group.getD 0xFF

/-! ### Arithmetic (R258) -/

def i32Max : Int := 2147483647
def i32Min : Int := -2147483648
def sat32 (x : Int) : Int := clampInt i32Min i32Max x
def sat64 (x : Int) : Int := clampInt (-9223372036854775808) 9223372036854775807 x
/-- Half of `2^sh`, 0 for no shift: what rounds half toward plus infinity. -/
def halfUp (sh : Nat) : Int := if sh = 0 then 0 else 2 ^ (sh - 1)
/-- A coefficient: VALUE and SHIFT. -/
abbrev Coef := Int × Nat
def term (c : Coef) (x : Int) : Int := (c.1 * x + halfUp c.2) / 2 ^ c.2
/-- A sum of terms in the accumulator. -/
def accum (l : List Int) : Int := l.foldl (fun a t => sat64 (a + t)) 0
/-- The physical value of an integrator, before sat32. -/
def physRaw (is : Nat) (z : Int) : Int := (z + halfUp is) / 2 ^ is
def phys (is : Nat) (z : Int) : Int := sat32 (physRaw is z)
/-- sat32 would change one of the values. -/
def anyOvf (l : List Int) : Bool := l.any fun x => decide (sat32 x ≠ x)

/-! ### Bank images (R267 to R269) -/

def rdS (b : Bytes) (off : Nat) : Int := signedOf 32 (rd b off 4)
/-- LENGTH of an image for an order. -/
def bankLength (n : Nat) : Nat := 192 + 8 * (n * n + 16 * n + 28)
def bankIs (b : Bytes) : Nat := rd b 12 1
def bankCondInt (b : Bytes) : Bool := bitAt (rd b 13 1) 0
/-- The slew limit of a mode (R261). -/
def bankSlew (b : Bytes) (mode : Nat) : Nat := match mode with
  | 2 => rd b 32 4
  | 3 => rd b 48 4
  | _ => rd b 16 4
/-- VMAX, AMAX, JMAX of a closed mode. -/
def bankVmax (b : Bytes) (mode : Nat) : Nat := rd b (if mode = 3 then 52 else 36) 4
def bankAmax (b : Bytes) (mode : Nat) : Nat := rd b (if mode = 3 then 56 else 40) 4
def bankJmax (b : Bytes) (mode : Nat) : Nat := rd b (if mode = 3 then 60 else 44) 4
def outMin (b : Bytes) (o : Nat) : Int := rdS b (64 + 16 * o)
def outMax (b : Bytes) (o : Nat) : Int := rdS b (68 + 16 * o)
def zMin (b : Bytes) (o : Nat) : Int := rdS b (72 + 16 * o)
def zMax (b : Bytes) (o : Nat) : Int := rdS b (76 + 16 * o)
def resLim (b : Bytes) (i : Nat) : Nat := rd b (128 + 8 * i) 4
def resN (b : Bytes) (i : Nat) : Nat := rd b (132 + 8 * i) 1
def resAction (b : Bytes) (i : Nat) : Nat := rd b (133 + 8 * i) 1
def coefAt (b : Bytes) (off idx : Nat) : Coef := (rdS b (off + 8 * idx), rd b (off + 8 * idx + 4) 1 % 32)
def offB (n : Nat) : Nat := 192 + 8 * n * n
def offC (n : Nat) : Nat := offB n + 32 * n
def offD (n : Nat) : Nat := offB n + 64 * n
def offL (n : Nat) : Nat := 320 + 8 * n * n + 64 * n
def offK (n : Nat) : Nat := offL n + 32 * n
def offFF (n : Nat) : Nat := offL n + 64 * n
def offKI (n sel : Nat) : Nat := offFF n + 32 + 32 * sel
/-- Matrices: start, rows, columns, row length, rows in use, columns in use. -/
def bankMatrices (n nin nout : Nat) : List (Nat × Nat × Nat × Nat × Nat) :=
  [(192, n, n, n, n), (offB n, n, 4, n, nout), (offC n, 4, n, nin, n), (offD n, 4, 4, nin, nout), (offL n, n, 4, n, nin),
   (offK n, 4, n, nout, n), (offFF n, 4, 1, nout, 1), (offKI n 0, 4, 1, nout, 1),
   (offKI n 1, 4, 1, if nin = 1 then 0 else nout, 1)]
/-- A coefficient entry: the spare bits are 0, and all of it is 0 where it is not in use. -/
def coefOk (b : Bytes) (off : Nat) (used : Bool) : Bool :=
  decide (rd b (off + 4) 1 < 32) && decide (rd b (off + 5) 3 = 0) && (used || decide (rd b off 8 = 0))
def matrixOk (b : Bytes) (m : Nat × Nat × Nat × Nat × Nat) : Bool :=
  (List.range m.2.1).all fun r => (List.range m.2.2.1).all fun c =>
    coefOk b (m.1 + 8 * (r * m.2.2.1 + c)) (decide (r < m.2.2.2.1) && decide (c < m.2.2.2.2))
/-- The range of an output code (R253). -/
def outRangeMax (code : Nat) : Int := if code / 256 = 0x12 then 2000 else 65535
def profileOk (b : Bytes) (off n : Nat) : Bool :=
  let ok (v : Nat) := decide (1 ≤ v) && decide (v ≤ 0x7FFFFFFF)
  ok (rd b (off + 4) 4) &&
  (if n = 8 then decide (rd b (off + 8) 8 = 0) else ok (rd b (off + 8) 4) && ok (rd b (off + 12) 4))
def limitOk (b : Bytes) (e : LoopEntry) (o : Nat) : Bool :=
  if o < e.outs.length then
    decide (outMin b o ≤ outMax b o) && decide (0 ≤ outMin b o) && decide (outMax b o ≤ outRangeMax (e.outs.getD o 0)) &&
    decide (zMin b o ≤ zMax b o)
  else decide (rd b (64 + 16 * o) 16 = 0)
def resOk (b : Bytes) (e : LoopEntry) (i : Nat) : Bool :=
  if i < e.ins.length then
    decide (resLim b i ≤ 0x7FFFFFFF) && decide (1 ≤ resN b i) && decide (resAction b i ≤ 1) && decide (rd b (134 + 8 * i) 2 = 0)
  else decide (rd b (128 + 8 * i) 8 = 0)
/-- IS is at most the SHIFT of every KI0 and KI1 entry in use (R270). -/
def shiftOk (b : Bytes) (e : LoopEntry) : Bool :=
  (List.range e.outs.length).all fun o =>
    decide (bankIs b ≤ (coefAt b (offKI e.order 0) o).2) &&
    (decide (e.ins.length = 1) || decide (bankIs b ≤ (coefAt b (offKI e.order 1) o).2))
/-- The header, limits and coefficient block agree with R267 to R269 and the LOOP entry (R270). -/
def bankOk (b : Bytes) (e : LoopEntry) : Bool :=
  let n := e.order
  decide (rd b 0 4 = 0x504F4C51) && decide (rd b 4 2 = 1) && decide (rd b 6 2 = bankLength n) &&
  decide (rd b 8 1 = e.loop) && decide (rd b 9 1 = n) && decide (rd b 10 1 = e.ins.length) && decide (rd b 11 1 = e.outs.length) &&
  decide (bankIs b ≤ 31) && decide (rd b 13 1 ≤ 1) && decide (rd b 14 2 = 0) && decide (rd b 24 8 = 0) &&
  decide (rd b 20 4 = crc32c (zeroAt b 20 4)) && profileOk b 32 n &&
  (if e.ins.length = 1 then decide (rd b 48 16 = 0) else profileOk b 48 n) &&
  (List.range 4).all (limitOk b e) && (List.range 4).all (resOk b e) && allZero (slice b 160 32) &&
  (bankMatrices n e.ins.length e.outs.length).all (matrixOk b) && shiftOk b e

/-- The bank in force, where it is valid. -/
def LoopSt.bank (lp : LoopSt) : Option Bytes := if lp.bankB then lp.imgB else lp.imgA
def LoopSt.otherBank (lp : LoopSt) : Option Bytes := if lp.bankB then lp.imgA else lp.imgB
/-- SAT: integrators at a limit, under the bank in force (R260). -/
def LoopSt.sat (lp : LoopSt) (nout : Nat) : List Bool := match lp.bank with
  | none => []
  | some b => (List.range nout).map fun o =>
    let z := lp.z.getD o 0
    let k : Int := 2 ^ bankIs b
    decide (z = zMin b o * k) || decide (z = zMax b o * k)
/-- A list of flags as a mask. -/
def maskOf (l : List Bool) : Nat := l.foldr (fun b a => b2n b + 2 * a) 0

/-! ### Signals (R253, R257) -/

/-- The default of an output code (R253). -/
def sigDefault (code : Nat) : Int := match code / 256 with
  | 0x11 => 65535
  | 0x12 => 2000
  | _ => 0
/-- What an output code carries now: its loop's output, its default where no loop names it or the loop has not started. -/
def State.sigOut (s : State) (code : Nat) : Int :=
  match s.theDeal.bind (·.loops.find? (fun e => e.outs.contains code)) with
  | none => sigDefault code
  | some e =>
    let lp := s.loop ⟨e.loop % 64, Nat.mod_lt _ (by decide)⟩
    if lp.started then lp.vp.getD (e.outs.idxOf code) (sigDefault code) else sigDefault code
/-- I_REF and V_HR of a tile (R253). -/
def State.iRef (s : State) (n : Nat) : Nat := (s.sigOut (0x1100 + n)).toNat
def State.vHr (s : State) (n : Nat) : Nat := (s.sigOut (0x1200 + n)).toNat
/-- A loop names the output code. -/
def State.isLoopOut (s : State) (code : Nat) : Bool :=
  match s.theDeal with
  | some d => d.loops.any fun e => e.outs.contains code
  | none => false

def State.milk (s : State) (c : Nat) : MilkCh := (s.house.channels.toList).getD c {}
/-- An input is stale at this sample tick (R257). -/
def State.inputStale (s : State) (code : Nat) : Bool :=
  let n : TileId := ⟨code % 16, Nat.mod_lt _ (by decide)⟩
  if code / 256 = 4 then
    match (s.milk (code % 256)).conv with
    | none => true
    | some t => decide (3200000 < s.lamp - t)
  else !((s.port n).admitted) || decide (8 ≤ s.ctl.sensorTicks.get n)
/-- The latched value of an input (R253, R256). -/
def State.inputValue (s : State) (code : Nat) : Int :=
  let n : TileId := ⟨code % 16, Nat.mod_lt _ (by decide)⟩
  if code / 256 = 4 then (s.milk (code % 256)).code
  else match (s.port n).sensor with
    | none => 0
    | some b => match code / 256 with
      | 1 => b.vfMean.toNat
      | 2 => b.tSink.toInt
      | _ => b.light.toNat
/-- A SENSOR record has come for the port (R257). -/
def State.sensorSeen (n : TileId) (s : State) : State :=
  s.onCtl fun c => { c with sensorTicks := c.sensorTicks.set n 0 }

/-! ### Events (R276) -/

def State.loopEvent (l : LoopId) (event arg flags : Nat) (v1 v2 : Int) (tag : Nat) (s : State) : State :=
  s.post 0x60 (240 + l.val) (le 1 event ++ le 1 arg ++ le 1 flags ++ le 1 s.timing.sample ++
    le 4 (patternOf 32 v1) ++ le 4 (patternOf 32 v2) ++ le 2 tag ++ zeros 2)
/-- Sets a flag of CTL_EVT and one of the loop's own. -/
def State.loopFlag (l : LoopId) (all own : Nat) (s : State) : State :=
  (s.setFlag Reg.CTL_EVT all).setFlag (Reg.CTL_LOOP_EVT l) own

/-! ### The set-point generators (R263, R264) -/

def LoopSt.generate (lp : LoopSt) (b : Bytes) (order : Nat) (target : Int) (h : Dy) : LoopSt :=
  let t := Dy.ofInt target
  let vmax := Dy.ofInt (bankVmax b lp.mode)
  let d := t.sub lp.r
  if order = 8 then
    let lim := vmax.mul h
    let r := lp.r.add (d.clamp (vmax.neg.mul h) lim)
    { lp with r := r, rs := sat32 r.round }
  else
    let amax := Dy.ofInt (bankAmax b lp.mode)
    let jmax := Dy.ofInt (bankJmax b lp.mode)
    let v := vmax.min (((Dy.ofInt 2).mul amax).mul d.abs).sqrt
    let vd := if d.m < 0 then v.neg else v
    let ad := ((vd.sub lp.vr).div h).clamp amax.neg amax
    let ar := lp.ar.add ((ad.sub lp.ar).clamp (jmax.neg.mul h) (jmax.mul h))
    let vr := (lp.vr.add (ar.mul h)).clamp vmax.neg vmax
    let rn := lp.r.add (vr.mul h)
    let past := ((t.sub rn).mul d).le (Dy.ofInt 0)
    if past then { lp with r := t, vr := {}, ar := {}, rs := sat32 t.round }
    else { lp with r := rn, vr := vr, ar := ar, rs := sat32 rn.round }

/-! ### The law (R259 to R262) -/

/-- What a computation answers beside the loop's new state. -/
structure LoopCalc where
  y : List Int
  yh : List Int
  res : List Int
  /-- The control error, in a closed mode. -/
  e : Option Int
  rs : Int
  v : List Int
  z : List Int
  xh : List Int
  ovf : Bool
  clamped : Bool
deriving DecidableEq, Repr

/-- `range`-indexed sums of terms with a row of coefficients. -/
def dot (row : Nat → Coef) (x : List Int) : List Int := (List.range x.length).map fun j => term (row j) (x.getD j 0)

/-- One integrator step, or the preload of a hand-over (R260, R266). -/
def stepZ (b : Bytes) (o : Nat) (ki : Coef) (e vpo w z : Int) (pre : Bool) : Int × Bool :=
  let is := bankIs b
  let lo := zMin b o * 2 ^ is
  let hi := zMax b o * 2 ^ is
  if pre then
    let raw := (vpo - w) * 2 ^ is
    let z' := clampInt lo hi raw
    (z', decide (z' ≠ raw))
  else
    let t := term (ki.1, ki.2 - is) e
    let skip := bankCondInt b && ((decide (vpo = outMax b o) && decide (0 < t)) || (decide (vpo = outMin b o) && decide (t < 0)))
    (if skip then z else clampInt lo hi (z + t), false)

/-- A tick of the hand-over window passes, computed or not (R266). -/
def LoopSt.windowTick (lp : LoopSt) : LoopSt :=
  { lp with left := lp.left - 1, outMode := if lp.left - 1 = 0 then none else lp.outMode }

/-- The computation of a tick under bank `b`. `pre`: this tick preloads. -/
def LoopSt.compute (lp : LoopSt) (b : Bytes) (en : LoopEntry) (y man : List Int) (pre : Bool) : LoopSt × LoopCalc :=
  let n := en.order
  let nin := en.ins.length
  let nout := en.outs.length
  let closed := decide (2 ≤ lp.mode)
  let sel := lp.mode - 2
  let rs := if closed then lp.rs else 0
  let yhRaw := (List.range nin).map fun i =>
    accum (dot (fun j => coefAt b (offC n) (i * n + j)) lp.xh ++ dot (fun o => coefAt b (offD n) (i * 4 + o)) lp.vp)
  let yh := yhRaw.map sat32
  let resRaw := (List.range nin).map fun i => y.getD i 0 - yh.getD i 0
  let res := resRaw.map sat32
  let eRaw := rs - y.getD sel 0
  let e := sat32 eRaw
  let wRaw := (List.range nout).map fun o =>
    accum (dot (fun j => coefAt b (offK n) (o * n + j)) lp.xh ++ [term (coefAt b (offFF n) o) rs])
  let w := wRaw.map sat32
  let zs := (List.range nout).map fun o =>
    if closed then stepZ b o (coefAt b (offKI n sel) o) e (lp.vp.getD o 0) (w.getD o 0) (lp.z.getD o 0) pre
    else (lp.z.getD o 0, false)
  let z := zs.map (·.1)
  let zPhys := z.map (physRaw (bankIs b))
  let vtRaw := (List.range nout).map fun o => match lp.mode with
    | 0 => lp.vp.getD o 0
    | 1 => man.getD o 0
    | _ => w.getD o 0 + sat32 (zPhys.getD o 0)
  let slew : Int := bankSlew b (match lp.left, lp.outMode with
    | _ + 1, some m => m
    | _, _ => lp.mode)
  let v := (List.range nout).map fun o =>
    let p := lp.vp.getD o 0
    let t := sat32 (vtRaw.getD o 0)
    clampInt (outMin b o) (outMax b o) (if slew = 0 then t else clampInt (p - slew) (p + slew) t)
  let xhRaw := (List.range n).map fun j =>
    accum (dot (fun k => coefAt b 192 (j * n + k)) lp.xh ++ dot (fun o => coefAt b (offB n) (j * 4 + o)) v ++
      dot (fun i => coefAt b (offL n) (j * 4 + i)) res)
  let ovf := anyOvf (yhRaw ++ resRaw ++ wRaw ++ vtRaw ++ xhRaw) || (closed && (anyOvf zPhys || anyOvf [eRaw]))
  let xh := xhRaw.map sat32
  ({ lp.windowTick with xh := xh, z := z, vp := v },
   { y := y, yh := yh, res := res, e := if closed then some e else none, rs := rs, v := v, z := zPhys.map sat32
     xh := xh, ovf := ovf, clamped := zs.any (·.2) })

/-- The residual counters after a computation (R262). -/
def LoopSt.countResiduals (lp : LoopSt) (b : Bytes) (res : List Int) : LoopSt :=
  let cnt (i : Nat) (c : Nat) : Nat :=
    if res.length ≤ i ∨ resLim b i = 0 then c
    else if resLim b i < (res.getD i 0).natAbs then satAdd 255 c 1 else 0
  let counts := lp.resCnt.zipIdx.map fun c => cnt c.2 c.1
  { lp with resCnt := counts, tripped := (lp.tripped.zip counts).map fun t => t.1 && decide (t.2 ≠ 0) }

/-- Input `i` trips: its counter has reached RES_N and it has not tripped since it last was 0 (R262). -/
def State.tripDue (s : State) (l : LoopId) (i : Nat) : Bool :=
  let lp := s.loop l
  match lp.bank, s.loopEntry l with
  | some b, some e =>
    decide (i < e.ins.length) && lp.started && decide (resLim b i ≠ 0) &&
    !(lp.tripped.getD i false) && decide (resN b i ≤ lp.resCnt.getD i 0)
  | _, _ => false

/-- The trip of an input (R262): its flag, record, fault and, with RES_ACTION, the hand-over at the next tick. -/
def State.residualTrip (l : LoopId) (i : Nat) (res : Int) (s : State) : State :=
  if s.tripDue l i then
    let b := ((s.loop l).bank).getD []
    let s := s.onLoop l fun lp => { lp with
      tripped := lp.tripped.set i true
      holdDue := lp.holdDue || decide (resAction b i = 1) }
    let s := (s.loopFlag l 0 1).loopEvent l 3 i 0 res (resLim b i) 0
    s.raise 27 (l.val + 256 * i)
  else s

/-! ### A loop at a sample tick (R255, R265, R266, R272 to R274) -/

/-- What happened to a loop at a tick, for the traces (R277). -/
structure LoopOut where
  swapped : Bool := false
  satSwap : Bool := false
  handed : Bool := false
  trip : Bool := false
  comp : Option LoopCalc := none
deriving DecidableEq, Repr

/-- Takes a LOOP_SWAP away from every loop it names. -/
def State.dropSwap (ref : CmdRef) (s : State) : State :=
  forEach loopIds (fun l s => if (s.loop l).swap = some ref then s.onLoop l fun lp => { lp with swap := none } else s) s

/-- The pending commands of a loop complete ABORTED (R273; log 46). -/
def State.abortLoop (l : LoopId) (s : State) : State :=
  let lp := s.loop l
  let s := match lp.load with
    | some (ref, _) => s.completeWith ref .aborted
    | none => s
  let s := match lp.modeCmd with
    | some (ref, _) => s.completeWith ref .aborted
    | none => s
  let s := match lp.swap with
    | some ref => (s.dropSwap ref).completeWith ref .aborted
    | none => s
  s.onLoop l fun lp => { lp with load := none, swap := none, modeCmd := none }

/-- The start of a loop (R255). -/
def State.startLoop (l : LoopId) (e : LoopEntry) (s : State) : State :=
  (s.abortLoop l).onLoop l fun _ =>
    { started := true, xh := List.replicate e.order 0, z := List.replicate e.outs.length 0, vp := e.outs.map sigDefault }

/-- Every declared loop that has not started starts at this sample tick, before the commands of the tick are looked at (R255). -/
def State.startLoops (s : State) : State :=
  forEach loopIds (fun l s => match s.loopEntry l with
    | some e => if (s.loop l).started then s else s.startLoop l e
    | none => s) s

/-- Steps 3 to 5 of a swap to bank `b` (R272). -/
def LoopSt.carry (lp : LoopSt) (b : Bytes) : LoopSt :=
  let isNew := bankIs b
  let isOld := (lp.bank.map bankIs).getD isNew
  let z := lp.z.zipIdx.map fun p =>
    let x : Int := if isOld ≤ isNew then sat64 (p.1 * 2 ^ (isNew - isOld)) else physRaw (isOld - isNew) p.1
    clampInt (zMin b p.2 * 2 ^ isNew) (zMax b p.2 * 2 ^ isNew) x
  let vmax := Dy.ofInt (bankVmax b lp.mode)
  let amax := Dy.ofInt (bankAmax b lp.mode)
  let lp := if 2 ≤ lp.mode then { lp with vr := lp.vr.clamp vmax.neg vmax, ar := lp.ar.clamp amax.neg amax } else lp
  { lp with z := z, bankB := !lp.bankB }

/-- The swap of a loop at its tick, with its record (R272, R276). -/
def State.swapLoop (l : LoopId) (e : LoopEntry) (s : State) : State × LoopOut :=
  let lp := s.loop l
  match lp.swap, lp.otherBank with
  | some ref, some b =>
    let before := phys ((lp.bank.map bankIs).getD (bankIs b)) (lp.z.getD 0 0)
    let sat := (lp.sat e.outs.length).any id
    let lp' := lp.carry b
    let s := s.onLoop l fun _ => { lp' with swap := none }
    let s := if sat then s.loopFlag l 1 0 else s
    (s.loopEvent l 1 (b2n lp'.bankB) (b2n sat) (phys (bankIs b) (lp'.z.getD 0 0)) before ref.tag,
     { swapped := true, satSwap := sat })
  | _, _ => (s, {})

/-- The inputs stale at this tick, as a mask (R257). -/
def State.staleMask (s : State) (e : LoopEntry) : Nat := maskOf (e.ins.map s.inputStale)

/-- A tick held for a stale input (R257). -/
def State.holdStale (l : LoopId) (mask : Nat) (s : State) : State :=
  let told := (s.loop l).staleTold
  let s := (s.loopFlag l 2 3).onLoop l fun lp => { lp with stale := mask, staleTold := true }
  if told then s
  else s.loopEvent l 4 (((List.range 4).find? (fun i => bitAt mask i)).getD 0) 0 0 0 0

/-- A LOOP_MODE that names the mode in force completes (R265; log 46). -/
def State.sameMode (l : LoopId) (s : State) : State :=
  match (s.loop l).modeCmd with
  | some (ref, m, _) =>
    if m = (s.loop l).mode && !(s.loop l).holdDue then
      (s.onLoop l fun lp => { lp with modeCmd := none }).completeOk ref s.frame
    else s
  | none => s

/-- The hand-over due at this tick: its mode, and its command (none where hardware makes it, R262). A pending LOOP_MODE
that meets a hand-over under RES_ACTION completes ABORTED. -/
def State.dueHandover (l : LoopId) (s : State) : State × Option (Nat × Option CmdRef) :=
  let lp := s.loop l
  if lp.holdDue then
    let s := match lp.modeCmd with
      | some (ref, _) => s.completeWith ref .aborted
      | none => s
    (s.onLoop l fun lp => { lp with modeCmd := none, holdDue := false }, if lp.mode = 0 then none else some (0, none))
  else match lp.modeCmd with
    | some (ref, m, _) => (s.onLoop l fun lp => { lp with modeCmd := none }, some (m, some ref))
    | none => (s, none)

/-- Enters a mode: the window opens and, in a closed mode, the set-point starts from the measurement (R264, R266). -/
def LoopSt.enter (lp : LoopSt) (m : Nat) (y : List Int) : LoopSt :=
  let lp := { lp with mode := m, left := 8, outMode := some lp.mode }
  let r := y.getD (m - 2) 0
  if 2 ≤ m then { lp with r := Dy.ofInt r, vr := {}, ar := {}, rs := sat32 r } else lp

/-- The computation of a loop whose inputs are fresh, with its hand-over (R259, R266). -/
def State.computeLoop (l : LoopId) (e : LoopEntry) (b : Bytes) (h : Dy) (out : LoopOut) (s : State) : State × LoopOut :=
  let due := s.dueHandover l
  let s := due.1.onLoop l fun lp => { lp with stale := 0, staleTold := false }
  let y := e.ins.map s.inputValue
  let man := (List.range 4).map fun k => (s.reg (Reg.CTL_LOOP_MAN l k)).toInt
  let target := (s.reg (Reg.CTL_LOOP_TARGET l)).toInt
  let lp := s.loop l
  let vp0 := lp.vp.getD 0 0
  let lp1 := match due.2 with
    | some (m, _) => lp.enter m y
    | none => if 2 ≤ lp.mode then lp.generate b e.order target h else lp
  -- rs is a sat32 result too (R258, R263)
  let rsOvf := due.2.isNone && decide (2 ≤ lp.mode) && anyOvf [lp1.r.round]
  let pre := due.2.isSome && decide (2 ≤ lp1.mode)
  let r := lp1.compute b e y man pre
  let s := s.onLoop l fun _ => r.1.countResiduals b r.2.res
  let s := if r.2.ovf || rsOvf then s.loopFlag l 5 4 else s
  let s := if r.2.clamped then s.loopFlag l 4 2 else s
  let s := match due.2 with
    | some (m, ref) =>
      let s := s.loopEvent l 2 m (2 * b2n r.2.clamped + 4 * b2n ref.isNone) vp0
        (if pre then r.2.z.getD 0 0 else 0) ((ref.map (·.tag)).getD 0)
      match ref with
      | some ref => s.completeOk ref s.frame
      | none => s
    | none => s
  let trips := (List.range 4).filter (s.tripDue l)
  let s := forEach trips (fun i s => s.residualTrip l i (r.2.res.getD i 0)) s
  (s, { out with handed := due.2.isSome, trip := !trips.isEmpty, comp := some r.2 })

/-- A missed computation (R274). -/
def State.missLoop (l : LoopId) (s : State) : State :=
  let s := (s.loopFlag l 3 5).addSat Reg.CTL_MISSED 31 0 1
  ((s.loopEvent l 5 0 0 0 0 0).raise 9 0x50).raise 28 l.val

/-- A loop at a sample tick, in the order of R273. -/
def State.loopTick (h : Dy) (missed : Bool) (l : LoopId) (s : State) : State × LoopOut :=
  match s.loopEntry l with
  | none => (s, {})
  | some e =>
    let sw := s.swapLoop l e
    let s := sw.1.sameMode l
    if missed then ((s.onLoop l (·.windowTick)).missLoop l, sw.2)
    else
      let mask := s.staleMask e
      if mask ≠ 0 then ((s.onLoop l (·.windowTick)).holdStale l mask, sw.2)
      else match (s.loop l).bank with
        | none => (s.onLoop l fun lp => { lp.windowTick with stale := 0, staleTold := false }, sw.2)
        | some b => s.computeLoop l e b h sw.2

/-! ### Trace channels (R277) -/

def State.traceFld (s : State) (c : Fin 4) (hi lo : Nat) : Nat := s.fld (Reg.CTL_TRC_CFG c) hi lo
/-- The traced signal as computed; `none` where the computation gives no such value (log 36). -/
def LoopCalc.signal (k : LoopCalc) (sig i : Nat) : Option Int := match sig with
  | 0 => k.y[i]?
  | 1 => k.v[i]?
  | 2 => some k.rs
  | 3 => k.e
  | 4 => k.res[i]?
  | 5 => k.xh[i]?
  | 6 => k.z[i]?
  | _ => k.yh[i]?
/-- Writes an entry at WR_INDEX. -/
def TraceCh.write (v : Nat) (t : TraceCh) : TraceCh :=
  { t with
    entries := Sparse.set (fun _ => 0) t.entries t.wr v
    wr := (t.wr + 1) % 16384
    wrapped := t.wrapped || decide (t.wr = 16383) }
/-- A one-shot channel that has written its entries stops. -/
def TraceCh.postEnd (oneshot : Bool) (t : TraceCh) : TraceCh :=
  if t.armed && t.triggered && oneshot && decide (t.postLeft = 0) then { t with armed := false, stopped := true } else t
def State.tracePostEnd (c : Fin 4) (s : State) : State := s.onTrace c (·.postEnd (s.bit (Reg.CTL_TRC_CFG c) 28))
/-- The trigger of a channel fell at this tick. -/
def traceTrigger (trig : Nat) (out : LoopOut) (first : Bool) : Bool := match trig with
  | 1 => out.swapped
  | 2 => out.handed
  | 3 => out.trip
  | 4 => out.satSwap
  | 5 => first
  | _ => false

/-- STOP ends a channel's recording at the next sample tick, whether the engine computes at it or not (R277, R278). -/
def TraceCh.takeStop (t : TraceCh) : TraceCh :=
  if t.stopReq then { t with stopReq := false, armed := false, stopped := t.stopped || t.armed } else t

/-- A channel at a sample tick: `out` is its loop's, `first` says that channel 0 triggered at this tick. A trigger at a tick that
computes nothing writes no entry, and restarts the decimation count all the same. -/
def State.traceTick (c : Fin 4) (out : LoopOut) (first : Bool) (s : State) : State × Bool :=
  let t := (s.ctl.traces.get c)
  if t.stopReq then (s.onTrace c (·.takeStop), false)
  else if !t.armed then (s, false)
  else
    let hit := traceTrigger (s.traceFld c 26 24) out first && !t.triggered
    let cnt := if out.comp.isSome then t.count + 1 else t.count
    let due := out.comp.isSome && (hit || decide (2 ^ s.traceFld c 19 16 ≤ cnt))
    let sig := out.comp.bind fun k => k.signal (s.traceFld c 10 8) (s.traceFld c 14 12)
    let v := match sig with
      | some v => patternOf 32 v
      | none => s.free % 2 ^ 32
    let s := if due && sig.isNone then s.useFree else s
    let f := fun (t : TraceCh) =>
      let t1 := { t with count := if due || hit then 0 else cnt }
      let t2 := if due then t1.write v else t1
      if hit then
        { t2 with
          triggered := true, trigIndex := t.wr, trigFrame := s.timing.frame, trigSample := s.timing.sample
          postLeft := s.fld (Reg.CTL_TRC_POST c) 13 0 }
      else { t2 with postLeft := if due && t.triggered then t.postLeft - 1 else t.postLeft }
    ((s.onTrace c f).tracePostEnd c, hit)

/-! ### The sample tick (R256) -/

/-- The engine computes in this state (R275). -/
def State.ctlRuns (s : State) : Bool :=
  decide (s.dev.state = .dealt ∨ s.dev.state = .lit ∨ s.dev.state = .hold ∨ s.dev.state = .safeLight)

/-- S(m, j) (04 R78). -/
def State.sampleAt (s : State) (j : Nat) : Nat := s.timing.lastTick + j * s.timing.period / 8

/-- The clock divisor under the throttle level in force (12 R294). -/
def State.throttle (s : State) : Nat := s.house.therm.level

/-- The engine's part of a sample tick (R256); h runs from the previous sample tick's placement to this one's (R263). -/
def State.ctlTick (missed : List LoopId) (s : State) : State :=
  let s := s.copyRws (fun off => decide (0x060000 ≤ off) && decide (off < 0x070000))
  let placed := s.sampleAt s.timing.sample
  let s := if !s.ctlRuns then forEach (List.finRange 4) (fun c s => s.onTrace c (·.takeStop)) s
    else
      let h := (Dy.ofInt ((placed - s.ctl.lastTick : Nat) : Int)).div (Dy.ofInt 100000000)
      let s := s.startLoops
      let swaps := s.ctl.emptySwaps ++ (loopIds.filterMap fun l => (s.loop l).swap).eraseDups
      let s := s.onCtl fun k => { k with emptySwaps := [] }
      let r := loopIds.foldl (fun (acc : State × List LoopOut) l =>
        let x := acc.1.loopTick h (missed.contains l) l
        (x.1, acc.2 ++ [x.2])) (s, [])
      let s := swaps.foldl (fun s ref => s.completeOk ref s.frame) r.1
      let outOf (c : Fin 4) : LoopOut := r.2.getD (s.traceFld c 5 0) {}
      let t0 := s.traceTick 0 (outOf 0) false
      let s := forEach [1, 2, 3] (fun c s => (s.traceTick c (outOf c) t0.2).1) t0.1
      let us := min 255 (s.free % (60 * 2 ^ s.throttle + 1))
      s.useFree.onCtl fun c => { c with lastUs := us, div := s.throttle, sample := s.timing.sample }
  s.onCtl fun c => { c with
    lastTick := placed
    sensorTicks := c.sensorTicks.map fun k => min 8 (k + 1) }

/-- The end of a hand-over window (R266): the slew limit is the new mode's. -/
def State.handoverEnd (l : LoopId) (s : State) : State :=
  if (s.loop l).left = 0 then s.onLoop l fun lp => { lp with outMode := none } else s

/-- A LOOP_MODE that has waited 1,000 ms for fresh inputs (R257). -/
def State.loopModeTimeout (l : LoopId) (s : State) : State :=
  match (s.loop l).modeCmd with
  | some (ref, _, since) =>
    ((s.advanceTo (since + msCounts 1000)).onLoop l fun lp => { lp with modeCmd := none }).completeWith ref .timeout
  | none => s

/-! ### The commands (R265, R270, R271) -/

def opLoop (c : Cmd) : LoopId := ⟨par c 8 1 % 64, Nat.mod_lt _ (by decide)⟩

def loopModeBody : Body := fun c ref s =>
  let l := opLoop c
  let m := par c 9 1
  let e := s.loopEntry l
  checked [(8, 1), (9, 1)]
    [(decide (63 < par c 8 1), .invalid, 8), (decide (3 < m), .invalid, 9), (e.isNone, .range, 8),
     (decide (m = 3) && decide ((e.map (·.ins.length)).getD 0 < 2), .range, 9),
     (decide (m ≠ 0) && (s.loop l).bank.isNone, .state, 0xFF), ((s.loop l).modeCmd.isSome, .busy, 0xFF)] c ref
    (fun s => (s.accept ref).onLoop l fun lp => { lp with modeCmd := some (ref, m, s.lamp) }) s

/-- The loops of a LOOP_MASK. -/
def maskLoops (m : Nat) : List LoopId := loopIds.filter fun l => bitAt m l.val

def loopSwapBody : Body := fun c ref s =>
  let ls := maskLoops (par c 8 8)
  checked [(8, 8)]
    [(ls.any fun l => (s.loopEntry l).isNone, .range, 8), (ls.any fun l => (s.loop l).otherBank.isNone, .state, 0xFF),
     (ls.any fun l => (s.loop l).load.isSome || (s.loop l).swap.isSome, .busy, 0xFF)] c ref
    (fun s =>
      let s := s.accept ref
      if ls.isEmpty then s.onCtl fun k => { k with emptySwaps := k.emptySwaps ++ [ref] }
      else forEach ls (fun l s => s.onLoop l fun lp => { lp with swap := some ref }) s) s

/-- The image lies in a partition the loop may use (R270). -/
def State.loopPart (s : State) (e : LoopEntry) (a n : Nat) : Bool :=
  s.parts.any fun p => decide (p.kind = 1 ∨ p.kind = 4) && (decide (p.group = e.groupCode) || decide (p.group = 0xFF)) && p.holds a n

def loopLoadBody : Body := fun c ref s =>
  let l := opLoop c
  let a := par c 16 8
  let n := par c 24 4
  match s.loopEntry l with
  | none => checked [(8, 1), (16, 8), (24, 4)]
      [(decide (63 < par c 8 1), .invalid, 8), (decide (a % 64 ≠ 0), .invalid, 16), (true, .range, 8)] c ref id s
  | some e =>
    let pre : List (Bool × Status × Nat) :=
      [(decide (63 < par c 8 1), .invalid, 8), (decide (a % 64 ≠ 0), .invalid, 16), (!s.loopPart e a n, .range, 16),
       (decide (n ≠ bankLength e.order), .invalid, 24), ((s.loop l).load.isSome || (s.loop l).swap.isSome, .busy, 0xFF)]
    let img := s.dramRead a n
    let read := (firstFail pre).isNone && (unusedByte [(8, 1), (16, 8), (24, 4)] c).isNone && !s.dramGood a n
    let s := if read then s.dramUncorr 5 0 a else s
    checked [(8, 1), (16, 8), (24, 4)] (pre ++ [(read || !bankOk img e, .invalid, 16)]) c ref
      (fun s => (s.accept ref).onLoop l fun lp => { lp with load := some (ref, img) }) s

/-- A LOOP_LOAD writes its bank and completes (R270). -/
def State.loopLoadDone (l : LoopId) (s : State) : State :=
  match (s.loop l).load with
  | some (ref, img) =>
    (s.onLoop l fun lp =>
      let lp := { lp with load := none }
      if lp.bankB then { lp with imgA := some img } else { lp with imgB := some img }).completeOk ref 0
  | none => s

/-! ### Trace control (R277) -/

def State.traceArm (c : Fin 4) (s : State) : State :=
  s.onTrace c fun t => { t with wr := 0, wrapped := false, triggered := false, stopped := false, armed := true, count := 0, postLeft := 0 }
def State.traceStop (c : Fin 4) (s : State) : State := s.onTrace c fun t => { t with stopReq := true }

end Sys2Proof.Machine
end

