-- ==== Sys2Proof/Machine/House.lean ====
section
/-! DEFINITION. Housekeeping: the milk round, self-calibration, save and restore, the thermal monitor (12; 19 R417). -/

namespace Sys2Proof.Machine

open Sys2Proof

def State.onHouse (f : House → House) (s : State) : State := { s with house := f s.house }
def State.onTherm (f : Therm → Therm) (s : State) : State := s.onHouse fun h => { h with therm := f h.therm }

/-! ### Trims (R283, R289) -/

def trimIds : List (Fin 30) := List.finRange 30
/-- The factory value of a trim (R289); GAIN is unsigned. -/
def factoryTrim (w : Nat) : Int := if w = 1 then (Config.factoryTrim w).toNat else (Config.factoryTrim w).toInt
/-- Trim `w` in force. -/
def House.trim (h : House) (w : Fin 30) : Int := (h.trims.get w).getD (factoryTrim w)
def House.trimN (h : House) (w : Nat) : Int := h.trim ⟨w % 30, Nat.mod_lt _ (by decide)⟩
/-- Where the entry in progress leads trim `w`; the value in force where none does. -/
def House.target (h : House) (w : Fin 30) : Int := if h.entry.isSome then (h.targets.get w).getD (h.trim w) else h.trim w
/-- The item a trim belongs to (R283). -/
def itemOf (w : Nat) : Nat := if w ≤ 5 then w else if w ≤ 13 then 6 else 7
/-- The range of a trim (R283). -/
def trimInRange (w : Nat) (v : Int) : Bool := match itemOf w with
  | 0 => decide (-255 ≤ v) && decide (v ≤ 255)
  | 1 => decide (0x7000 ≤ v) && decide (v ≤ 0x9000)
  | 6 => decide (-100 ≤ v) && decide (v ≤ 100)
  | 7 => decide (-63 ≤ v) && decide (v ≤ 63)
  | _ => decide (-128 ≤ v) && decide (v ≤ 127)
/-- TOL of an item, from HK_CAL_TOL as read at acceptance (R283, R297). -/
def itemTol (tol item : Nat) : Nat := match item with
  | 0 => bitsOf tol 5 0
  | 1 => bitsOf tol 11 6
  | 6 => bitsOf tol 23 18
  | 7 => bitsOf tol 29 24
  | _ => bitsOf tol 17 12

/-! ### Corrected codes (R279 to R282) -/

/-- The corrected code of a raw code under OFS and GAIN (R281). -/
def correct (ofs gain : Int) (r : Nat) : Int := clampInt 0 4095 (((r + ofs) * gain + 16384) / 32768)
/-- Channels that read 0 (R280). -/
def reservedChannel (c : Nat) : Bool := decide (c = 86 ∨ c = 87) || decide (91 ≤ c)
/-- The code stored for channel `c` (R280, R281). -/
def House.code (h : House) (c r : Nat) : Nat :=
  if reservedChannel c then 0
  else
    let v := correct (h.trimN 0) (h.trimN 1) (r % 4096)
    (if 8 ≤ c ∧ c ≤ 23 then clampInt 0 4095 (v + h.trimN (14 + (c - 8))) else v).toNat
/-- Lamp counts of a round and of a slot (R279: 16 ms and 125 µs). -/
def roundCounts : Nat := 1600000
def slotCounts : Nat := 12500
def House.roundStart (h : House) : Nat := (h.base + (h.round * roundCounts : Nat)).toNat
/-- The raw code of slot `k` from the conversions of a round, 16 a slot: their average, rounded half up (R279). -/
def slotCode (conv : List Nat) (k : Nat) : Nat := (((conv.drop (16 * k)).take 16).foldl (· + ·) 0 + 8) / 16
/-- The raw codes of the 128 slots of a round (R279). -/
def slotCodes (conv : List Nat) : List Nat := (List.range 128).map (slotCode conv)
/-- Stores the code of channel `c` converted in the round in progress. -/
def State.storeCode (raw : List Nat) (c : Fin 96) (s : State) : State :=
  s.onHouse fun h =>
    let m : MilkCh := { code := h.code c (raw.getD c 0), round := h.round, conv := some (h.roundStart + (c.val + 1) * slotCounts) }
    { h with channels := h.channels.set c m }
/-- The reading of sensor `k` without SOFS_k (R282). -/
def bareTemp (k : Nat) (code : Int) : Int := code * Config.tempSlope k / 4096 + Config.tempIcept k

/-! ### The thermal monitor (R282, R292, R293, R295) -/

def insertInt (x : Int) : List Int → List Int
  | [] => [x]
  | y :: ys => if x ≤ y then x :: y :: ys else y :: insertInt x ys
/-- The median; of an even count the mean of the two middle values, rounded down (R282). -/
def median (l : List Int) : Int :=
  let q := l.foldr insertInt []
  let n := q.length
  if n % 2 = 1 then q.getD (n / 2) 0 else (q.getD (n / 2 - 1) 0 + q.getD (n / 2) 0) / 2
def tempInRange (t : Int) : Bool := decide (-550 ≤ t) && decide (t ≤ 1750)
/-- Which of the eight readings are valid (R282). -/
def validSensors (ts : List Int) : List Bool :=
  let mid := median ((ts.take 6).filter tempInRange)
  ts.zipIdx.map fun p => tempInRange p.1 && (decide (6 ≤ p.2) || decide ((p.1 - mid).natAbs ≤ 150))
/-- The readings at the indices that are valid. -/
def validOf (ts : List Int) (ok : List Bool) : List (Nat × Int) :=
  (ts.zip ok).zipIdx.filterMap fun p => if p.1.2 then some (p.2, p.1.1) else none
/-- The largest reading, the lowest index among equals. -/
def hottestOf : List (Nat × Int) → Option (Nat × Int)
  | [] => none
  | p :: rest => some (rest.foldl (fun b q => if b.2 < q.2 then q else b) p)

/-- Reads the sensors of the round (R282): codes, temperatures, validity and their fault. -/
def State.readSensors (raw : List Nat) (s : State) : State :=
  let s := forEach ((List.finRange 96).take 8) (fun c s => s.storeCode raw c) s
  let ts := (List.range 8).map fun k => bareTemp k (s.milk k).code + s.house.trimN (6 + k)
  let ok := validSensors ts
  forEach (List.finRange 8) (fun k s =>
    let v := ok.getD k false
    let told := (s.house.therm.sensors.get k).told
    let s := s.onTherm fun t => { t with sensors := t.sensors.set k ⟨ts.getD k 0, v, !v⟩ }
    if v || told then s else (s.setFlag Reg.HK_THERM_EVT 4).raise 19 k) s

/-- Consecutive evaluations below a threshold. -/
def coolCount (h limit : Int) (n : Nat) : Nat := if h < limit then n + 1 else 0

/-- WARN and L_T after an evaluation with hottest reading `h` (R292). -/
def Therm.judge (h : Int) (t : Therm) : Therm :=
  let wc := coolCount h 1070 t.warnCool
  let warn := decide (1100 ≤ h) || (t.warn && decide (wc < 8))
  let up : Nat := if 1220 ≤ h then 2 else if 1180 ≤ h then 1 else 0
  let t := { t with warn := warn, warnCool := if warn then wc else 0 }
  if t.lT < up then { t with lT := up, cool := 0 }
  else
    let c := coolCount h (if t.lT = 2 then 1190 else 1150) t.cool
    if 8 ≤ c ∧ 0 < t.lT then { t with lT := t.lT - 1, cool := 0 } else { t with cool := c }

/-- RISE_LIMIT in force (R297). -/
def State.riseLimit (s : State) : Int := max 10 (s.fld Reg.HK_THERM_CFG 7 0)
/-- The level decided: the one about to take effect, or the one in force. -/
def Therm.decided (t : Therm) : Nat := (t.next.map (·.1)).getD t.level

/-- The rate of rise and its judgement (R293). What RATE was at the previous evaluation is kept whether RISE_EN is 1 or 0. -/
def State.judgeRise (h : Int) (s : State) : State :=
  let t := s.house.therm
  let old := t.history
  let rate : Int := if 64 ≤ old.length then Int.tdiv ((h - old.getD 63 0) * 1000) 1024 else 0
  let above := decide (64 ≤ old.length ∧ s.riseLimit < rate)
  let calm := if above then 0 else t.calm + 1
  let s := s.onTherm fun t => { t with rate := rate, history := (h :: old).take 64, above := above, calm := calm }
  if old.length < 64 ∨ !s.bit Reg.HK_THERM_CFG 8 then s
  else if above && !t.above then
    let s := s.onTherm fun t => { t with lR := min 2 (t.level + 1) }
    (((s.setFlag Reg.HK_THERM_EVT 2).addSat Reg.HK_THERM_CNT 15 0 1)).raise 18 s.house.therm.hotSensor
  else s.onTherm fun t => { t with lR := if 64 ≤ calm then 0 else t.lR }

/-- The sensors' loss (R282). -/
def State.judgeLoss (s : State) : State :=
  let six := (s.house.therm.sensors.toList).take 6
  let loss := decide ((six.filter (·.valid)).length < 3)
  let was := s.house.therm.loss
  let s := s.onTherm fun t => { t with loss := loss }
  if loss && !was then s.raise 20 (six.findIdx fun x => !x.valid) else s

/-- The non-volatile window (R295). -/
def State.judgeWindow (s : State) : State :=
  let open' := ((s.house.therm.sensors.toList).take 6).all fun x => !x.valid || (decide (0 ≤ x.temp) && decide (x.temp ≤ 850))
  let was := s.house.therm.nvOpen
  let s := s.onTherm fun t => { t with nvOpen := open' }
  if open' = was then s else s.setFlag Reg.HK_THERM_EVT 5

/-- Trip and over-temperature (R292): whether each is raised now. -/
def State.judgeTrip (h : Int) (s : State) : State × Bool × Bool :=
  let t := s.house.therm
  let trip := decide (1280 ≤ h) && !t.tripTold
  let tooHot := decide (1400 ≤ h) && !t.overTold
  let k := t.hotSensor
  let s := s.onTherm fun t => { t with
    tripTold := decide (1250 ≤ h) && (t.tripTold || trip)
    overTold := decide (1250 ≤ h) && (t.overTold || tooHot) }
  let s := if trip || tooHot then s.setFlag Reg.HK_THERM_EVT 3 else s
  let s := if trip then (s.raise 21 k).safeLightDue 0x0A else s
  (if tooHot then s.raise 22 k else s, trip, tooHot)

/-- The new level takes effect (R292). -/
def State.applyLevel (s : State) : State := match s.house.therm.next with
  | some (l, t) => (s.advanceTo t).onTherm fun t => { t with level := l, next := none }
  | none => s

/-- The level that WARN, rate and sensor loss give, with its raises (R292). -/
def State.decideLevel (s : State) : State :=
  let t := s.house.therm
  let new := if t.loss then 2 else max t.lT t.lR
  let old := t.decided
  if new = old then s
  else
    let s := s.onTherm fun t => { t with next := some (new, s.lamp + slotCounts) }
    let s := if old < new then s.setFlag Reg.HK_THERM_EVT 1 else s
    if old = 0 then (s.addSat Reg.HK_THERM_CNT 31 16 1).raise 17 t.hotSensor else s

/-- The THERMAL record (R296). -/
def State.thermalRecord (trip tooHot : Bool) (s : State) : State :=
  let t := s.house.therm
  s.post 0x70 304 (le 2 (patternOf 16 t.hottest) ++ le 1 t.decided ++
    le 1 (b2n t.warn + 2 * b2n (decide (0 < t.lR)) + 4 * b2n t.nvOpen + 8 * b2n trip + 16 * b2n tooHot + 32 * b2n t.loss) ++
    le 2 (patternOf 16 t.rate) ++ le 1 t.hotSensor ++ zeros 1 ++ le 4 (s.house.round % 2 ^ 32))

/-- What the records of R296 watch. -/
def Therm.watched (t : Therm) : Nat × Bool × Bool × Bool := (t.decided, t.warn, decide (0 < t.lR), t.nvOpen)

/-- The readings H and the coldest; a free value where no sensor is valid (R282, log 40). -/
def State.extremes (s : State) : State :=
  let ss := s.house.therm.sensors.toList
  let all := validOf (ss.map (·.temp)) (ss.map (·.valid))
  let low := (all.filter fun p => decide (p.1 < 6)).map (·.2)
  let h := (hottestOf all).getD (s.free % 8, signedOf 16 s.free)
  let s := if all.isEmpty then s.useFree else s
  let c := match low with
    | [] => signedOf 16 s.free
    | x :: xs => xs.foldl min x
  let s := if low.isEmpty then s.useFree else s
  s.onTherm fun t => { t with hottest := h.2, hotSensor := h.1, coldest := c }

/-- The evaluation at the end of slot 7 of the round in progress (R292). -/
def State.evaluate (raw : List Nat) (s : State) : State :=
  let s := (s.applyLevel.advanceTo (s.house.roundStart + 8 * slotCounts)).onTherm fun t => { t with evals := t.evals + 1 }
  let s := (s.readSensors raw).extremes
  let was := s.house.therm.watched
  let h := s.house.therm.hottest
  let warn := s.house.therm.warn
  let s := (s.onTherm (·.judge h)).judgeRise h
  let s := if s.house.therm.warn && !warn then (s.setFlag Reg.HK_THERM_EVT 0).raise 16 s.house.therm.hotSensor else s
  let s := s.judgeLoss.judgeWindow.decideLevel
  let r := s.judgeTrip h
  if r.1.house.therm.watched ≠ was ∨ r.2.1 ∨ r.2.2 then r.1.thermalRecord r.2.1 r.2.2 else r.1

/-- THERMAL_EVALUATION: nothing where this round has been evaluated (log 12). -/
def State.thermalEvaluation (raw : List Nat) (s : State) : State :=
  if s.house.therm.evals ≤ s.house.round then s.evaluate raw else s

/-! ### Self-calibration (R284 to R288) -/

/-- The CAL record (R296). -/
def State.calRecord (event agreed disagreed tag round : Nat) (s : State) : State :=
  s.post 0x71 305 (le 1 event ++ le 1 agreed ++ le 1 disagreed ++ le 1 s.house.srResult ++ le 2 tag ++ zeros 2 ++ le 4 (round % 2 ^ 32))

/-- round(n / d), halves up, for a positive or negative divisor. -/
def roundUp (n d : Int) : Int := (2 * n * d.sign + d.natAbs) / (2 * d.natAbs)
/-- round(n / d), halves away from zero. -/
def roundAway (n : Int) (d : Nat) : Int := if n < 0 then -((2 * (-n) + d) / (2 * d)) else (2 * n + d) / (2 * d)

/-- The candidates of a run, by trim (R285). `odd` stands for the GAIN candidate where the readings are equal (log 41). -/
def House.candidates (h : House) (raw : List Nat) (odd : Int) : List Int :=
  let rg : Int := (raw.getD 88 0 : Nat)
  let rr : Int := (raw.getD 89 0 : Nat)
  let ofs := -rg
  let gain := if rr = rg then odd else roundUp (3686 * 32768) (rr - rg)
  let code (c : Nat) : Int := correct ofs gain (raw.getD c 0)
  (List.range 30).map fun w =>
    if w = 0 then ofs
    else if w = 1 then gain
    else if w ≤ 5 then h.trimN w + roundAway ((2048 - code (80 + (w - 2))) * 25) 128
    else if w ≤ 13 then code (96 + (w - 6)) * Config.ptat / 4096 - 2732 - bareTemp (w - 6) (code (w - 6))
    else 2048 - code (104 + (w - 14))

def opItems (c : Cmd) : Nat := par c 8 4
/-- CAL_RUN (R284). -/
def calRunBody : Body := fun c ref s =>
  let m := opItems c
  let acc (g : Nat) : Nat := ((s.theDeal.bind (·.accent)).map (fun a => a.1.getD g 0)).getD 0
  let sinkBad := (List.range 4).any fun g => bitAt m (2 + g) && !decide (acc g = 1 ∨ acc g = 2)
  let h := s.house
  checked [(8, 4)]
    [(decide (m = 0 ∨ 256 ≤ m), .invalid, 8), (sinkBad, .range, 8),
     (h.cal.isSome || h.entry.isSome || h.save.isSome || h.restore.isSome, .busy, 0xFF)] c ref
    (fun s => (s.accept ref).onHouse fun h => { h with
      cal := some ⟨ref, m, (s.reg Reg.HK_CAL_TOL).toNat, h.round + 1, none, none⟩ }) s

/-- The measurement of a run at the end of its round (R285). -/
def State.measure (raw : List Nat) (s : State) : State := match s.house.cal with
  | none => s
  | some c =>
    let v := s.house.candidates raw (signedOf 16 s.free)
    let s := if c.first ≤ s.house.round ∧ raw.getD 88 0 = raw.getD 89 0 then s.useFree else s
    if s.house.round = c.first then s.onHouse fun h => { h with cal := some { c with run1 := some v } }
    else if s.house.round = c.first + 1 then s.onHouse fun h => { h with cal := some { c with run2 := some v } }
    else s

/-- The value a trim takes from its two runs, where they agree (R286). -/
def agreedValue (tol w : Nat) (v1 v2 : Int) : Option Int :=
  let v := (v1 + v2 + 1) / 2
  if (v1 - v2).natAbs ≤ itemTol tol (itemOf w) ∧ trimInRange w v = true then some v else none
/-- The items of a mask that agree (R286). -/
def agreedItems (c : CalRun) (r1 r2 : List Int) : Nat :=
  maskOf ((List.range 8).map fun i => bitAt c.items i &&
    (List.range 30).all fun w => decide (itemOf w ≠ i) || (agreedValue c.tol w (r1.getD w 0) (r2.getD w 0)).isSome)

/-- An entry begins: the trims' values before it, and where it leads each (R287). -/
def House.beginEntry (e : TrimEntry) (goal : Nat → Option Int) (h : House) : House :=
  { h with
    olds := Vector.ofFn fun w => some (h.trim w)
    targets := Vector.ofFn fun w => some ((goal w.val).getD (h.trim w))
    entry := some e, entryStep := 0 }

/-- The trims in force in round `r` of an entry (R287). -/
def House.stepEntry (r : Nat) (h : House) : House := match h.entry with
  | none => h
  | some e =>
    let j := min 16 (r - e.d)
    { h with
      entryStep := j
      trims := Vector.ofFn fun w =>
        let o := (h.olds.get w).getD (h.trim w)
        let t := (h.targets.get w).getD (h.trim w)
        some (o + (t - o) * (j : Int) / 16) }

/-- The decision at the end of run 2 (R286). -/
def State.calDecision (s : State) : State := match s.house.cal with
  | none => s
  | some c => match c.run1, c.run2 with
    | some r1, some r2 =>
      let good := agreedItems c r1 r2
      let bad := c.items - good
      let d := c.first + 1
      let goal := fun (w : Nat) => if bitAt good (itemOf w) then agreedValue c.tol w (r1.getD w 0) (r2.getD w 0) else none
      let s := s.onHouse fun h =>
        let h := { h with
          cal := none, agreed := good, disagreed := bad
          items := Vector.ofFn fun i =>
            let it := h.items.get i
            if bitAt good i then { it with result := 1 } else if bitAt bad i then { it with result := 2 } else it }
        -- the decision falls at the end of D, as round D + 1 begins with j = 1 (R287)
        if good = 0 then h else (h.beginEntry ⟨d, good, c.ref.tag⟩ goal).stepEntry h.round
      let s := s.calRecord 1 good bad c.ref.tag d
      if bad = 0 then s.completeOk c.ref c.items else s.complete c.ref .disagree 0xFF good
    | _, _ => s

/-- The lamp-clock second (R288). -/
def State.lampSecond (s : State) : Nat := s.lamp / 100000000 % 2 ^ 32

/-- The entry is complete once round D + 16 has begun (R287); its items count it and date it, whether CAL_RUN or a restore
entered them (R288, log 43). -/
def State.entryDone (s : State) : State := match s.house.entry with
  | some e =>
    if s.house.round < e.d + 16 then s
    else
      let s := s.onHouse fun h => { h with
        entry := none
        items := Vector.ofFn fun i =>
          let it := h.items.get i
          if bitAt e.items i then { it with count := satAdd 0xFFFF it.count 1, last := s.lampSecond } else it }
      s.calRecord 2 e.items 0 e.tag (e.d + 16)
  | none => s

/-! ### Save and restore (R290, R291) -/

/-- The address of HK_CALSAVE, and whether it may be used (R291). -/
def State.calSaveAddr (s : State) : Nat := s.fld Reg.HK_CALSAVE_LO 31 6 * 64 + (s.reg Reg.HK_CALSAVE_HI).toNat * 2 ^ 32
def State.calSaveOk (s : State) (a : Nat) : Bool := s.parts.any fun p => decide (p.kind = 2 ∨ p.kind = 4) && p.holds a 160
def State.calSaveBusy (s : State) : Bool :=
  s.house.cal.isSome || s.house.entry.isSome || s.house.save.isSome || s.house.restore.isSome
/-- A save or restore fails (R291, R296). -/
def State.calFailed (code : Nat) (s : State) : State :=
  (s.onHouse fun h => { h with save := none, restore := none, srResult := code }).calRecord 5 0 0 0 s.house.round
/-- A write of 1 to SAVE or to RESTORE (R291). -/
def State.calStart (restore : Bool) (s : State) : State :=
  if s.calSaveBusy then s.setFlag Reg.HK_CAL_RES 20
  else
    let a := s.calSaveAddr
    if !s.calSaveOk a then s.calFailed 7
    else s.onHouse fun h => if restore then { h with restore := some a } else { h with save := some a }

/-- The save image of the trims in force (R290). -/
def House.image (h : House) : Bytes :=
  let items := maskOf ((List.finRange 8).map fun i => (h.items.get i).restored || decide (0 < (h.items.get i).count))
  let b := le 4 0x56414351 ++ le 2 1 ++ le 2 160 ++ le 4 0x51543216 ++ le 1 items ++ zeros 3 ++ le 8 Config.dieUid.toNat ++
    (trimIds.map fun w => le 2 (patternOf 16 (h.trim w))).flatten ++ zeros 4 ++
    ((List.finRange 8).map fun i => le 2 (h.items.get i).count).flatten ++ zeros 52
  b ++ le 4 (crc32c b)

/-- The save's write ends (R291). -/
def State.saveDone (s : State) : State := match s.house.save with
  | some a =>
    let s := (s.dramWrite a s.house.image).onHouse fun h => { h with save := none, srResult := 1 }
    s.calRecord 3 0 0 0 s.house.round
  | none => s

/-- A trim's value in a save image. -/
def imageTrim (b : Bytes) (w : Nat) : Int := if w = 1 then (rd b (24 + 2 * w) 2 : Nat) else signedOf 16 (rd b (24 + 2 * w) 2)
/-- SR_RESULT of a restore whose image reads `b`: 2 where it passes (R291). -/
def restoreResult (b : Bytes) : Nat :=
  if rd b 0 4 ≠ 0x56414351 ∨ rd b 4 2 ≠ 1 ∨ rd b 6 2 ≠ 160 ∨ rd b 8 4 ≠ 0x51543216 ∨ rd b 13 3 ≠ 0 ∨ rd b 84 4 ≠ 0 ∨
    rd b 104 52 ≠ 0 then 3
  else if rd b 16 8 ≠ Config.dieUid.toNat then 4
  else if rd b 156 4 ≠ crc32c (b.take 156) then 5
  else if (List.range 30).all (fun w => trimInRange w (imageTrim b w)) then 2 else 6

/-- The restore's read ends (R291). -/
def State.restoreDone (s : State) : State := match s.house.restore with
  | some a =>
    if !s.dramGood a 160 then (s.dramUncorr 1 0 a).calFailed 8
    else
      let b := s.dramRead a 160
      let r := restoreResult b
      if r ≠ 2 then s.calFailed r
      else
        let s := s.onHouse fun h =>
          let h := { h with
            restore := none, srResult := 2
            items := Vector.ofFn fun i =>
              { h.items.get i with
                count := rd b (88 + 2 * i.val) 2, last := 0xFFFFFFFF
                restored := (h.items.get i).restored || bitAt (rd b 12 1) i } }
          h.beginEntry ⟨h.round, 0xFF, 0⟩ fun w => some (imageTrim b w)
        s.calRecord 4 (rd b 12 1) 0 0 s.house.round
  | none => s

/-! ### Supply monitors (19 R415, R417) -/

/-- Monitored rails: channel, minimum, maximum and full scale in mV. -/
def rails : List (Nat × Nat × Nat × Nat) :=
  [(24, 720, 790, 1200), (25, 820, 890, 1200), (26, 720, 790, 1200), (27, 825, 875, 1200), (28, 1746, 1854, 2400),
   (29, 1020, 1080, 1200), (30, 485, 530, 1200), (31, 1710, 1890, 2400), (85, 950, 1050, 1200)]
/-- A rail's code is out of range (19 R417). -/
def railOut (r : Nat × Nat × Nat × Nat) (code : Nat) : Bool :=
  decide (code < r.2.1 * 4096 / r.2.2.2) || decide (ceilDiv (r.2.2.1 * 4096) r.2.2.2 < code)
/-- The comparison of every rail at the end of a round (19 R417). -/
def State.railCheck (s : State) : State :=
  let bad := (rails.filter fun r => railOut r (s.milk r.1).code).map (·.1)
  let due := bad.filter fun c => s.house.railBad.contains c && !s.house.railTold.contains c
  let s := s.onHouse fun h => { h with railBad := bad, railTold := (h.railTold.filter (bad.contains ·)) ++ due }
  forEach due (fun c s => s.raise 14 c) s

end Sys2Proof.Machine
end

