-- ==== Sys2Proof/Machine/Accent.lean ====
section
/-! DEFINITION. The accent driver: levels, pulses, fades, binning, matrix scanning, detection, power guard (13). -/

namespace Sys2Proof.Machine

open Sys2Proof

def State.onAccent (f : Accent → Accent) (s : State) : State := { s with accent := f s.accent }
def State.acc (s : State) (c : Fin 48) : AccCh := s.accent.chans.get c
def State.onAcc (c : Fin 48) (f : AccCh → AccCh) (s : State) : State :=
  s.onAccent fun a => { a with chans := a.chans.set c (f (a.chans.get c)) }
def accIds : List (Fin 48) := List.finRange 48
def AccCh.unit (x : AccCh) : Option (Fin 8) → AccUnit
  | none => x.direct
  | some l => x.cells.get l
def AccCh.onUnit (line : Option (Fin 8)) (f : AccUnit → AccUnit) (x : AccCh) : AccCh := match line with
  | none => { x with direct := f x.direct }
  | some l => { x with cells := x.cells.set l (f (x.cells.get l)) }

/-! ### Groups and modes (R298) -/

/-- The ACCENT byte of a group: 0 where the entry is absent (R298). -/
def Deal.accentMode (d : Deal) (g : Nat) : Nat := (d.accent.map fun a => a.1.getD g 0).getD 0
def State.accMode (s : State) (g : Nat) : Nat := (s.theDeal.map (·.accentMode g)).getD 0
/-- MATRIX of the Deal in force. -/
def State.matrixOn (s : State) : Bool := decide (((s.theDeal.bind (·.accent)).map (·.2)).getD 0 = 1)
def State.accUsed (s : State) (c : Nat) : Bool := decide (s.accMode (c / 12) ≠ 0)
/-- The Deal in force leaves the channel's group unused: its registers read 0, but for class 6 OFF (R310), and discard writes
(R298, R314). With no Deal in force they read their reset values and take writes (DESIGN CHOICE, log 50). -/
def State.accUnused (s : State) (c : Nat) : Bool := s.theDeal.isSome && !s.accUsed c
/-- The channels of used groups. -/
def State.accChans (s : State) : List (Fin 48) := accIds.filter fun (c : Fin 48) => s.accUsed c
/-- The driver runs in this state; in FATAL it keeps its levels (R312). -/
def State.accRuns (s : State) : Bool := s.dev.state.dealtOrLater
/-- The units of a channel: itself, or its eight cells. -/
def State.accUnits (s : State) : List (Option (Fin 8)) := if s.matrixOn then (List.finRange 8).map some else [none]
/-- CLASS as it reads: the highest of the column's cells in matrix mode (R310). -/
def State.accClass (s : State) (c : Fin 48) : Nat := (s.accUnits.map fun l => ((s.acc c).unit l).cls).foldl max 0

/-- L of a channel before the guard: its loop's output, or its fade-and-binning level (R298, R304). -/
def State.accLevel (s : State) (c : Fin 48) : Nat :=
  if s.isLoopOut (0x1300 + c.val) then (s.sigOut (0x1300 + c.val)).toNat else (s.acc c).level
/-- The guard's scaling (R311). -/
def guarded (g : Option Nat) (l : Nat) : Nat := match g with
  | some g => l * g / 65536
  | none => l

/-- Latches L, GLOBAL, CUR at a period or slot start; in FATAL the last levels stay, and count in the mean (R299, R301, R311,
R312). -/
def State.latchLevel (c : Fin 48) (s : State) : State :=
  if s.dev.state = .fatal then s.onAcc c fun x => { x with sum := x.sum + x.inForce, cnt := x.cnt + 1 }
  else
    let l := guarded s.accent.guard (s.accLevel c)
    let gl := s.fld (Reg.ACC_GROUP (c / 12)) 6 0
    let cur := s.fld (Reg.ACC_CH_CFG c) 7 0
    s.onAcc c fun x => { x with inForce := l, latched := (gl, cur), sum := x.sum + l, cnt := x.cnt + 1 }
/-- The sink conducts (R299). -/
def State.sinkOn (s : State) (c : Fin 48) (line : Option (Fin 8)) : Bool :=
  let x := s.acc c
  s.bit (Reg.ACC_CH_CFG c) 15 && decide (x.latched.1 ≠ 0) && decide (x.latched.2 ≠ 0) && decide ((x.unit line).cls ≠ 4)
/-- TRIM of a group (R299). -/
def State.accTrim (s : State) (g : Nat) : Int := s.house.trimN (2 + g)
/-- The current of a channel in µA, rounded down (R299). -/
def State.accMicroamps (s : State) (c : Fin 48) : Nat :=
  let x := s.acc c
  (150000 * (x.latched.1 * x.latched.2 : Nat) * (400 + s.accTrim (c / 12)) / (127 * 255 * 400)).toNat

/-! ### Pulses, dither, probes, samples (R301, R308, R309) -/

/-- The judgement of a pin: 0 passes, 1 fails OPEN, 2 fails SHORT (R308). -/
def State.judgePin (s : State) (mv : Nat) : Nat :=
  if mv < 250 then 1 else if max 10 (s.fld Reg.ACC_CFG 23 16) * 100 < mv then 2 else 0
/-- The sample a pulse takes: what the pin shows; a free judgement where the environment gives none (log 47). -/
def State.sampleOf (s : State) (samples : List PinSample) (c : Fin 48) : Nat × Bool :=
  match samples.find? (fun p => p.ch = c) with
  | some p => (s.judgePin p.mv, false)
  | none => (s.free % 3, true)

/-- One period of a unit, `w` counts long, at level `l`, its pulse beginning `off` counts after the start (R301, R309). -/
def State.accPulse (c : Fin 48) (line : Option (Fin 8)) (w l off : Nat) (samples : List PinSample) (s : State) : State :=
  let u := (s.acc c).unit line
  let x := l * w + u.acc
  let tp := x / 65536
  let on := s.sinkOn c line
  let probe := u.probeDue && on && decide (0 < l) && decide (l * w / 65536 < 200)
  let lit := if probe then max 200 tp else tp - u.debt
  let debt := if probe then u.debt + (200 - tp) else u.debt - (tp - lit)
  let upd (u : AccUnit) : AccUnit := { u with
    acc := x % 65536, debt := debt, probeDue := false
    probeAt := if probe then some s.lamp else u.probeAt }
  let s := s.onAcc c (·.onUnit line upd)
  if !on || decide (lit = 0) then s
  else
    let s := s.emit (.pulse c off lit (s.accMicroamps c))
    if lit < 200 || s.accent.supplyLow then s
    else
      let r := s.sampleOf samples c
      let s := if r.2 then s.useFree else s
      s.onAcc c (·.onUnit line fun u => { u with sample := some (r.1, if probe then 1 else 0) })

/-- A PWM period start (R301): in direct mode every channel of a used group latches and pulses. -/
def State.pwmStart (samples : List PinSample) (s : State) : State :=
  let due := match s.accent.period with
    | some t => max (t + 6250) ((s.lamp + 6249) / 6250 * 6250)
    | none => (s.lamp + 6249) / 6250 * 6250
  let s := (s.advanceTo due).onAccent fun a => { a with period := some due }
  if !s.accRuns || s.matrixOn then s
  else forEach s.accChans (fun c s =>
    let s := s.latchLevel c
    let phase := min 47 (s.fld (Reg.ACC_CH_CFG c) 13 8)
    s.accPulse c none 6250 (s.acc c).inForce (phase * 6250 / 48) samples) s

/-! ### Fades and binning (R303, R304) -/

/-- A write of TARGET (R303): the fade starts from the present index. -/
def State.fadeStart (c : Fin 48) (s : State) : State :=
  let t := s.fld (Reg.ACC_CH_FADE c) 9 0
  let n := max 1 (s.fld (Reg.ACC_CH_FADE c) 27 16)
  s.onAcc c fun x => { x with start := x.index, target := t, len := n, k := 0 }
/-- One fade tick of a channel. -/
def AccCh.fadeStep (x : AccCh) : AccCh :=
  if x.len ≤ x.k then x
  else
    let k := x.k + 1
    { x with k := k, index := ((x.start : Int) + Int.tdiv (((x.target : Int) - x.start) * k) x.len).toNat }
/-- The fade request of a channel (R303). -/
def State.fadeReq (s : State) (c : Fin 48) : Nat :=
  let i := (s.acc c).index
  s.fld (Reg.ACC_FADETAB (s.fld (Reg.ACC_CH_CFG c) 14 14) (i / 2)) (16 * (i % 2) + 15) (16 * (i % 2))
/-- The binning words of group `g` in the registers. -/
def State.binRegs (s : State) (g : Nat) : List Word :=
  (List.range 20).map fun i => s.reg (Reg.ACC_BIN (4 * g + i / 5) (i % 5))
/-- At a fade tick the matrices in use follow the registers unless BIN_HOLD is 1 (R304). -/
def State.takeBins (s : State) : State :=
  forEach (List.finRange 4) (fun g s =>
    if s.bit (Reg.ACC_GROUP g) 7 then s else s.onAccent fun a => { a with bins := a.bins.set g (some (s.binRegs g)) }) s
/-- BIN[l][k][j] in use, as a signed number. -/
def State.binEntry (s : State) (l k j : Nat) : Int :=
  let g : Fin 4 := ⟨l / 4 % 4, Nat.mod_lt _ (by decide)⟩
  let i := 3 * k + j
  let reset : List Word := (List.range 20).map fun i => if i % 5 % 2 = 0 then 0x4000 else 0
  let w := ((s.accent.bins.get g).getD reset).getD (5 * (l % 4) + i / 2) 0
  signedOf 16 (bitsOf w.toNat (16 * (i % 2) + 15) (16 * (i % 2)))
/-- The fade-and-binning level of a channel (R298, R304). -/
def State.binLevel (s : State) (c : Fin 48) : Nat :=
  let l := c.val / 3
  if s.accMode (c / 12) = 1 then
    let q (j : Nat) : Int := s.fadeReq ⟨(3 * l + j) % 48, Nat.mod_lt _ (by decide)⟩
    let sum := (List.range 3).foldl (fun a j => a + s.binEntry l (c.val % 3) j * q j) 0
    (clampInt 0 0xFFFF ((sum + 8192) / 16384)).toNat
  else s.fadeReq c

/-! ### Detection (R308 to R310, R313) -/

/-- Units of used groups now in a class (R313). -/
def State.accCount (s : State) (cls : Nat) : Nat :=
  (s.accChans.map fun c => (s.accUnits.filter fun l => decide (((s.acc c).unit l).cls = cls)).length).foldl (· + ·) 0
/-- Raises input 40 + `i` at most once in a milk round (R313). -/
def State.accRaise (i detail : Nat) (s : State) : State :=
  if s.accent.raised.getLsbD i then s
  else (s.onAccent fun a => { a with raised := a.raised ||| (1#5 <<< i) }).raise (40 + i) detail

/-- A unit's class changes, with what that reports (R313, R314). -/
def State.accSetClass (c : Fin 48) (line : Option (Fin 8)) (new source : Nat) (s : State) : State :=
  let old := ((s.acc c).unit line).cls
  let s := s.onAcc c (·.onUnit line fun u => { u with cls := new })
  if old = new then s
  else
    let s := if 3 ≤ new then (s.setFlag Reg.ACC_EVT (new - 3)).accRaise (new - 3) c else s
    if 2 ≤ new ∨ (new = 1 ∧ old = 5) then
      s.post 0x80 (320 + c / 12) (le 1 c ++ le 1 ((line.map (·.val)).getD 0xFF) ++ le 1 new ++ le 1 old ++ le 1 source ++ zeros 1 ++
        le 2 (s.acc c).inForce ++ le 2 (s.accCount new))
    else s

/-- AGE_LIMIT in lamp counts (R310). -/
def State.accAge (s : State) : Nat := max 2 (min 28 (s.fld Reg.ACC_CFG 12 8)) * 50000000

/-- The judgement of a unit at a fade tick (R310). -/
def State.accJudge (c : Fin 48) (line : Option (Fin 8)) (s : State) : State :=
  let u := (s.acc c).unit line
  let s1 := s.onAcc c (·.onUnit line fun u => { u with sample := none })
  match if s.accent.supplyLow then none else u.sample with
  | some (k, src) =>
    let s2 := s1.onAcc c (·.onUnit line fun u => { u with verified := s.lamp })
    if u.cls = 3 ∨ u.cls = 4 then s2
    else if k = 0 then s2.accSetClass c line 1 src
    else if u.cls = 2 then s2.accSetClass c line (2 + k) src
    else s2.accSetClass c line 2 src
  | none =>
    if u.cls ≤ 2 ∧ s.accAge < s.lamp - u.verified then s1.accSetClass c line 5 3 else s1

/-- The off-check of a channel at L = 0 (R308). -/
def State.offCheck (samples : List PinSample) (c : Fin 48) (s : State) : State :=
  if (s.acc c).inForce ≠ 0 || s.accent.supplyLow then s
  else
    let r : Nat × Bool := match samples.find? (fun p => p.ch = c) with
      | some p => (if p.mv < 250 then 1 else 0, false)
      | none => (s.free % 2, true)
    let s := if r.2 then s.useFree else s
    forEach s.accUnits (fun l s => s.onAcc c (·.onUnit l fun u => { u with sample := some (r.1, 2) })) s

/-- CLR takes effect (R310). -/
def State.accClear (c : Fin 48) (s : State) : State :=
  if (s.acc c).clr then
    let s := s.onAcc c fun x => { x with clr := false }
    forEach (none :: (List.finRange 8).map some) (fun l s => s.onAcc c (·.onUnit l fun u => { u with cls := 0 })) s
  else s

/-- Whether a probe may be made at the first period after this fade tick (R309). -/
def State.probeArm (c : Fin 48) (line : Option (Fin 8)) (s : State) : State :=
  let u := (s.acc c).unit line
  let rested := match u.probeAt with
    | some t => decide (msCounts 64 ≤ s.lamp - t)
    | none => true
  let ok := s.bit Reg.ACC_CFG 0 && decide (u.debt = 0) && rested && decide (u.cls ≠ 4)
  s.onAcc c (·.onUnit line fun u => { u with probeDue := ok })

/-- A fade tick (R303, R304, R308, R310). -/
def State.fadeTick (offChecks : List PinSample) (s : State) : State :=
  let due := s.accent.fadeAt + msCounts 1
  let s := (s.advanceTo due).onAccent fun a => { a with fadeAt := due }
  if !s.accRuns then s
  else
    let used := s.accChans
    let s := if s.dev.state = .fatal then s
      else
        let s := (forEach used (fun c s => s.onAcc c (·.fadeStep)) s).takeBins
        forEach used (fun c s => s.onAcc c fun x => { x with level := s.binLevel c }) s
    forEach used (fun c s =>
      let s := (s.offCheck offChecks c).accClear c
      forEach s.accUnits (fun l s => (s.accJudge c l).probeArm c l) s) s

/-! ### Matrix scanning (R305 to R307) -/

/-- A scan frame starts: the buffers are exchanged if that was asked (R305, R307). FATAL keeps the front buffer, and an exchange
asked for stays asked (R312). -/
def State.scanStart (p : Nat) (s : State) : State :=
  let swap := s.accent.mswap && decide (s.dev.state ≠ .fatal)
  s.onAccent fun a => { a with
    scan := some (s.lamp, p, 0)
    front := if swap then !a.front else a.front
    mswap := a.mswap && !swap }
def State.msync (s : State) : Bool := s.bit Reg.ACC_CFG 1
/-- The scan frame that a frame tick starts (R305). -/
def State.scanTick (s : State) : State :=
  if s.matrixOn && !s.msync && s.accRuns then s.scanStart s.timing.period else s

def Accent.frontBuf (a : Accent) : List (Nat × Nat) := if a.front then a.buf1 else a.buf0
def Accent.backBuf (a : Accent) : List (Nat × Nat) := if a.front then a.buf0 else a.buf1
def Accent.setBack (f : List (Nat × Nat) → List (Nat × Nat)) (a : Accent) : Accent :=
  if a.front then { a with buf0 := f a.buf0 } else { a with buf1 := f a.buf1 }
/-- A cell of the front buffer. -/
def Accent.cell (a : Accent) (i : Nat) : Nat := Sparse.get (fun _ => 0) a.frontBuf i

/-- Start of slot `j` of a scan frame, from its start (R305). -/
def slotAt (p j : Nat) : Nat := j * p / (8 * (p / 50000))
/-- A scan slot (R305). -/
def State.scanSlot (samples : List PinSample) (s : State) : State := match s.accent.scan with
  | none => s
  | some (t0, p, j) =>
    if 8 * (p / 50000) ≤ j || !s.matrixOn || !s.accRuns then s
    else
      let s := (s.advanceTo (t0 + slotAt p j)).onAccent fun a => { a with scan := some (t0, p, j + 1) }
      let len := slotAt p (j + 1) - slotAt p j
      let line : Fin 8 := ⟨j % 8, Nat.mod_lt _ (by decide)⟩
      let s := s.emit (.gate line 50 (len - 100))
      forEach s.accChans (fun c s =>
        let s := s.latchLevel c
        s.accPulse c (some line) (len - 200) (mul16 (s.accent.cell (48 * line + c)) (s.acc c).inForce) 100 samples) s

/-- The MATRIX record (R313). -/
def State.matrixRecord (event p : Nat) (s : State) : State := s.post 0x81 324 (le 1 event ++ zeros 3 ++ le 4 p)
/-- P of a scan under MSYNC: between edges, or the frame's where none has been measured (R306, log 51). -/
def State.scanP (s : State) : Nat := s.accent.edgeP.getD s.timing.period
/-- An edge of SYNC_IN of the selected polarity, seen by the matrix (R306). -/
def State.matrixEdge (s : State) : State :=
  if !s.msync || !s.matrixOn || !s.accRuns then s
  else
    let gap := s.accent.lastEdge.map fun t => s.lamp - t
    let p := match gap with
      | some g => if 208333 ≤ g ∧ g ≤ 833334 then some g else s.accent.edgeP
      | none => s.accent.edgeP
    let was := s.accent.lost
    let s := s.onAccent fun a => { a with lastEdge := some s.lamp, edgeP := p, lost := false }
    let s := s.scanStart s.scanP
    if was then s.matrixRecord 2 s.scanP else s
/-- No edge within 1.5 P of the last scan frame start (R306). -/
def State.msyncLost (s : State) : State := match s.accent.scan with
  | some (t0, p, _) =>
    if !s.msync || !s.matrixOn || !s.accRuns then s
    else
      let was := s.accent.lost
      let s := (((s.advanceTo (t0 + p * 3 / 2)).setFlag Reg.ACC_EVT 5).onAccent fun a => { a with lost := true }).scanStart p
      if was then s else s.matrixRecord 1 p
  | none => s

/-- A write to ACC_MFRAMEw (R307). -/
def State.writeCells (w v : Nat) (s : State) : State :=
  if s.accent.mswap then s.setFlag Reg.ACC_EVT 6
  else s.onAccent (·.setBack fun b => Sparse.set (fun _ => 0) (Sparse.set (fun _ => 0) b (2 * w) (bitsOf v 15 0)) (2 * w + 1) (bitsOf v 31 16))

/-! ### Power guard and supply, at the end of a milk round (R308, R311) -/

/-- LIMIT in force (R314). -/
def State.accLimit (s : State) : Nat := max 100 (min 4000 (s.fld Reg.ACC_PWR 12 0))
/-- The POWER record (R313). -/
def State.powerRecord (event : Nat) (s : State) : State :=
  s.post 0x82 325 (le 1 event ++ zeros 1 ++ le 2 (min 0xFFFF s.accent.est) ++ le 2 (s.accent.guard.getD 0))
/-- A channel's share of the estimate, over the common denominator of R299 and R311. A column counts while any of its cells is
not SHORT (DEDUCED, log 106). -/
def State.accShare (s : State) (c : Fin 48) : Nat :=
  let x := s.acc c
  let off := s.accUnits.all fun l => decide ((x.unit l).cls = 4)
  if !s.accUsed c || !s.bit (Reg.ACC_CH_CFG c) 15 || off || decide (x.cnt = 0) then 0
  else (30 * (s.milk (32 + c)).code * (150 * x.latched.1 * x.latched.2) * (400 + s.accTrim (c / 12)).toNat) * x.sum / x.cnt
/-- The estimate P in mW (R311). -/
def State.accPower (s : State) : Nat :=
  (accIds.map fun c => s.accShare c).foldl (· + ·) 0 / (4096 * 127 * 255 * 400 * 65536)
/-- The guard at the end of a round (R311; log 48). -/
def State.powerGuard (s : State) : State :=
  if !s.accRuns then s
  else
    let p := s.accPower
    let lim := s.accLimit
    let g := if lim < p && s.bit Reg.ACC_CFG 2 then some (lim * 65536 / p) else none
    let s := s.onAccent fun a => { a with
      est := p, overload := decide (lim < p), guard := g
      chans := a.chans.map fun x => { x with sum := 0, cnt := 0 } }
    if lim < p then ((s.setFlag Reg.ACC_EVT 4).powerRecord 1).accRaise 4 0xFF else s
/-- SUPPLY follows channel 84 (R308). -/
def State.supplyCheck (s : State) : State :=
  let low := decide ((s.milk 84).code * 30 < 3 * 4096)
  if !s.accRuns || low = s.accent.supplyLow then s
  else
    let s := s.onAccent fun a => { a with supplyLow := low }
    if low then ((s.setFlag Reg.ACC_EVT 3).powerRecord 2).accRaise 3 0xFF else s.powerRecord 3

/-! ### The end of a milk round (12 R279) -/

/-- MILK_ROUND_END: what of the round is still due, the codes, the measurements, the supplies, then the next round. -/
def State.milkRoundEnd (raw : List Nat) (s : State) : State :=
  let s := (s.thermalEvaluation raw).calDecision.entryDone
  let s := s.applyLevel.advanceTo (s.house.roundStart + roundCounts)
  let s := forEach ((List.finRange 96).drop 8) (fun c s => s.storeCode raw c) s
  let s := (s.measure raw).railCheck.supplyCheck.powerGuard
  let s := s.onAccent fun a => { a with raised := 0 }
  s.onHouse fun h => House.stepEntry (h.round + 1) { h with round := h.round + 1 }

/-- The groups whose mode a Deal changes enter it: dither 0, nothing tested (R301, R310). -/
def State.enterModes (old : Option Deal) (new : Deal) (s : State) : State :=
  let mode (d : Option Deal) (g : Nat) : Nat × Nat := ((d.map (·.accentMode g)).getD 0, ((d.bind (·.accent)).map (·.2)).getD 0)
  forEach (accIds.filter fun (c : Fin 48) => decide (mode old (c / 12) ≠ mode (some new) (c / 12))) (fun c s =>
    let u : AccUnit := { verified := s.lamp }
    s.onAcc c fun x => { x with direct := u, cells := Vector.replicate 8 u }) s

end Sys2Proof.Machine
end

