-- ==== Sys2Proof/Machine/Close.lean ====
section
/-! DEFINITION. CLOSE, the retry horizon, and a port at its frame tick and cut (09 R205, R212, R214, R219 to R225, R434;
08 R190; 14 R323, R324). -/

namespace Sys2Proof.Machine

open Sys2Proof

/-- The group of a tile is local in the present frame (14 R324); the groups are settled at the frame tick. -/
def State.isLocal (s : State) (n : TileId) : Bool := s.faults.localFrame.getLsbD (groupOf n)

/-- What kind of CLOSE the port owes now: DARK and SHOW_FALLBACK; `none` where it owes none (09 R212, R224, R434; 14 R324). -/
def State.closeKind (s : State) (n : TileId) : Option (Bool × Bool) :=
  let p := s.port n
  let here := p.admitted || (p.blind && decide (p.state = 0))
  let owed (k : Nat) : Bool := p.retirement.any fun r => decide (k ≤ r.stage ∧ r.stage ≤ 1)
  if !s.portOn n || !here then none
  else if !p.frameLit && ((!s.inLit n && (p.dark || owed 0)) || owed 1) then some (true, false)
  else if p.frameLit then some (false, s.isLocal n)
  else none

/-- MAP of a set of lines (09 R205). -/
def mapBits (lines : List Nat) : Nat := lines.foldl (fun m l => m ||| 2 ^ l) 0
/-- The CLOSE payload (09 R205). -/
def State.closePayload (s : State) (n : TileId) (lines : List Nat) (dark fb : Bool) : Bytes :=
  le 128 (mapBits lines) ++ le 2 (s.iRef n) ++ le 2 (s.vHr n) ++ le 1 s.timing.rate ++ le 1 (b2n dark + 2 * b2n fb) ++
  le 2 (s.tileEntry n).height ++ le 4 s.frame

/-- Queues CLOSE of the present frame, its first copies due on every open lane; after a retirement's DARK CLOSE goes
RETIRE (09 R212, R224). -/
def State.queueClose (n : TileId) (k : Bool × Bool) (s : State) : State :=
  let lanes := s.openLanes n
  let lines := if k.1 || k.2 then [] else (s.linkLines n).filter (s.lineDelivered n)
  let seq := (s.port n).nextSeq
  let s := s.newParcel n 3 0 0 (s.closePayload n lines k.1 k.2) s.frame none
  let s := s.onPort n fun p => { p.onTrack seq (fun t => { t with due := lanes }) with closeSent := true, map := lines }
  match (s.port n).retirement with
  | some r =>
    if k.1 && decide (r.stage ≤ 1) then
      (s.onPort n fun p => { p with retirement := some { r with stage := 3 } }).control n 6 0 []
    else s
  | none => s

/-- CLOSE_SEND: once every line is delivered or failed, and at the horizon at the latest (09 R212). The secondary of a
locked pair takes its CLOSE from the plan (14 R331). -/
def State.closeSend (n : TileId) (s : State) : State :=
  match s.closeKind n with
  | none => s
  | some k =>
    if (s.port n).closeSent || s.lockedSecondary then s
    else if k.1 || k.2 || s.linesDecided n || s.timing.pastHorizon then s.queueClose n k
    else s

/-- A port at the retry horizon: lines not delivered, probes booked, CLOSE (09 R212, 08 R190). -/
def State.horizonPort (n : TileId) (s : State) : State :=
  let p := s.port n
  if !p.frameLit || !s.portOn n then s.closeSend n
  else
    let lost := (s.linkLines n).filter fun l => !s.lineDelivered n l
    let good := (s.linkLines n).filter (s.lineDelivered n)
    let probes := if p.blind then 0 else (((s.phot n).fired).filter fun x => good.contains x.2).length
    let s := (s.addWrap (Reg.TL_REPEAT_CNT n) 31 0 lost.length).onPort n fun p => { p with
      linkRepeat := lost.length, firstRepeat := lost.foldl min (lost.headD 0), map := good }
    (s.bookProbes n probes).closeSend n

/-- RETRY_HORIZON (09 R212). -/
def State.retryHorizon (s : State) : State :=
  if s.timing.pastHorizon || !s.timing.started then s
  else
    let s := (s.advanceTo s.horizonAt).onTiming fun t => { t with pastHorizon := true }
    forEach tileIds (fun n s => s.horizonPort n) s

/-! ### A port at the frame tick -/

/-- Lanes of the chip as a mask, the return lane with them. -/
def State.ownLanes (s : State) : BitVec 3 := s.chipLanes.foldl (fun m l => m ||| (1#3 <<< laneNum l)) 4#3

/-- The fault inputs of the frame that has ended (09 R214; 14 R335). -/
def State.linkFaults (n : TileId) (s : State) : State :=
  let p := s.port n
  let lost := p.lostLanes &&& s.ownLanes
  let errs := p.errLanes &&& s.ownLanes
  let s := forEach (List.range 3) (fun l s =>
    if lost.getLsbD l then (s.setFlag (Reg.TL_EVT n) 2).raiseGroup n 1 l
    else if errs.getLsbD l && decide (l < 2) then (s.setFlag (Reg.TL_EVT n) 0).raiseGroup n 0 l
    else s) s
  let s := if 0 < p.linkRepeat then (s.setFlag (Reg.TL_EVT n) 1).raiseGroup n 2 3 else s
  let s := if p.enteredHeld then s.raiseGroup n 3 3 else s
  if p.enteredFallback then s.raiseGroup n 4 3 else s

/-- The LINK_FRAME record (09 R231). -/
def State.linkRecord (n : TileId) (s : State) : State :=
  let p := s.port n
  let unacked := p.closeSent && !p.closeAcked
  if p.resends = 0 ∧ p.failedCnt = 0 ∧ p.linkRepeat = 0 ∧ ¬unacked ∧ p.spilled = 0 then s
  else s.post 0x42 (114 + 4 * n.val) (le 2 (min 0xFFFF p.resends) ++ le 2 (min 0xFFFF p.failedCnt) ++ le 2 p.linkRepeat ++
    le 2 p.firstRepeat ++ le 1 (p.errLanes ||| p.lostLanes).toNat ++
    le 1 (b2n unacked + 2 * b2n (s.singleLane n) + 4 * b2n p.blind) ++ le 2 p.spilled)

/-- The frame's bookkeeping of the port starts afresh; the frame that ended is no longer tracked (09 R212), nor is a failed
parcel that no admission waits for. -/
def State.linkRestart (n : TileId) (s : State) : State :=
  let lit := s.inLit n && !(s.port n).retiring
  s.onPort n fun p => { p with
    tracks := p.tracks.filter fun t => !(t.isPixels || t.isProbes || t.isClose) && (!t.failed || t.admits)
    lastResends := min 0xFFF p.resends, lastRepeat := p.linkRepeat, lastCloseAcked := p.closeAcked, lastFailed := min 0xFF p.failedCnt
    composedTo := 0, closeSent := false, closeAcked := false, map := [], errLanes := 0, lostLanes := 0
    resends := 0, failedCnt := 0, linkRepeat := 0, firstRepeat := 0, spilled := 0, enteredHeld := false, enteredFallback := false
    frameLit := lit }

/-- Counts of frames that a port keeps (02 R48; 09 R222, R224, R225, R230). -/
def State.linkCounts (n : TileId) (s : State) : State :=
  let watch := decide (s.dev.state = .dealt ∨ s.dev.state = .lit)
  s.onPort n fun p =>
    let dead := !p.retLock && !p.lockA && !p.lockB
    { p with
      -- a lane in LS2 or under test is not lost (R229, R230)
      unlockedFrames := if p.retLock ∨ p.state = 0 ∨ p.pwrRet = 2 ∨ bitAt p.testMask 2 = true then 0 else p.unlockedFrames + 1
      missingFrames := if dead && decide (p.state = 0) then p.missingFrames + b2n watch else 0
      identFrames := if p.state = 1 then p.identFrames + 1 else 0
      retirement := p.retirement.map fun r => { r with frames := r.frames + b2n (decide (1 ≤ r.stage)) }
      test := p.test.map fun t => { t with left := t.left - b2n t.running } }

/-- Parked credits return, and blind operation ends (09 R221). -/
def State.linkRestore (n : TileId) (s : State) : State :=
  let s := (s.unparkAt n .a).unparkAt n .b
  if (s.port n).leaveBlind then (s.onPort n fun p => { p with blind := false, leaveBlind := false }).laneRecord n 2 6 else s

/-- A port at a frame tick: lanes leave LS1, due timeouts, the report of the frame that ended, then the new frame. -/
def State.linkTick (n : TileId) (s : State) : State :=
  if !s.served n then s
  else
    let s := (((s.absentTimeout n).retireTimeout n).mismatchMissing n).identRecheck n
    let s := forEach [TxLane.a, .b] (fun l s => if (s.port n).pwr l = 1 then
      (s.onPort n (Port.setPwr l 0)).emit (.laneIdle n l false) else s) s
    let s := ((s.linkFaults n).linkRecord n).linkRestart n
    let s := ((s.linkCounts n).linkRestore n).testStart n
    s.readTick n

/-! ### A port at the cut -/

/-- A lit tile that retires leaves the lit set at its cut (09 R224). -/
def State.retireCut (n : TileId) (s : State) : State :=
  match (s.port n).retirement with
  | some r =>
    if r.stage = 0 then
      (s.onPort n fun p => { p with retirement := some { r with stage := 1 } }).onDev fun d => { d with
        litSet := d.litSet &&& ~~~(1#16 <<< n.val) }
    else s
  | none => s

end Sys2Proof.Machine
end

