-- ==== Sys2Proof/Machine/Abort.lean ====
section
/-! DEFINITION. What a transition aborts, the entries to SAFE_LIGHT and FATAL, the audits, and the end of every command
(03 R50, R55; 14 R322 to R326; 01 R24 to R26). -/

namespace Sys2Proof.Machine

open Sys2Proof

/-! ### Aborted commands (03 R55) -/

/-- The pending slot operation of a command. -/
def State.slotOpOf (s : State) (id : Nat) : Option (TileId × Fin 8) :=
  (s.pendingOps.find? fun x => x.2.2.ref.id = id).map fun x => (x.1, x.2.1)
/-- The port for which `p` holds. -/
def State.portWith (s : State) (p : Port → Bool) : Option TileId := tileIds.find? fun n => p (s.port n)

/-- A RETIME parcel: notice 1, confirm 2, cancel 3 (09 R206; 04 R90). -/
def State.retimeParcel (kind : Nat) (r : Retime) (n : TileId) (s : State) : State :=
  s.control n 4 kind (le 1 r.rate ++ le 1 s.timing.rate ++ le 2 0 ++ le 4 (((r.frameK.getD s.frame) + 1) % 2 ^ 32))

/-- A TIMING_SET that CUT(k) has not decided is given up: a cancel goes to every tile that was sent the notice
(04 R88, R93). -/
def State.dropRetime (s : State) : State := match s.timing.retime with
  | none => s
  | some r =>
    let s := forEach (maskTiles r.noticed.toNat) (fun n s => s.retimeParcel 3 r n) s
    s.onTiming fun t => { t with retime := none, lastResult := if r.rate = t.rate then t.lastResult else 3 }

/-- The command has taken effect, or is carried to its end: it is not aborted (04 R93; 08 R184; 12 R295; 02 R47). A copy
that is running has taken effect in part (06 R135, log 83). -/
def State.past (s : State) (ref : CmdRef) : Bool :=
  if ref.opcode = 0x58 then true
  else if ref.opcode = 0x04 then (s.deal.redeal.any fun r => decide (r.ref.id = ref.id) && r.taken)
  else if ref.opcode = 0x09 then (s.timing.retime.any fun r => r.decided.isSome)
  else if ref.opcode = 0x12 then (s.dealer.copies.head?.any fun c => decide (c.ref.id = ref.id))
  else if ref.opcode = 0x22 then tileIds.any fun n =>
    (s.phot n).calJob.any fun j => decide (j.ref.id = ref.id) && decide (1 ≤ j.step)
  else false

/-- The PARTNER record (14 R339). -/
def State.partnerRecord (event cause : Nat) (s : State) : State :=
  s.post 0xA0 344 (le 1 event ++ le 1 cause ++ le 1 s.partner.state ++ le 1 0 ++ le 4 s.frame ++ le 8 (s.lamp % 2 ^ 64))

/-- The join ends without lock: the chip is SOLO (14 R329), and the record says so (R339). -/
def State.joinEnds (st : Status) (s : State) : State :=
  (s.onPartner fun p => { p with
    state := 0, join := none, joinStep := 0, adopt := none, adopted := false, timing := none }).partnerRecord 6 st.code

/-- What an aborted command had set up is taken away. -/
def State.dropCommand (ref : CmdRef) (s : State) : State :=
  let mine (r : CmdRef) : Bool := decide (r.id = ref.id)
  let keep (r : CmdRef) : Bool := !mine r
  match ref.opcode with
  | 0x03 => s.onDeal fun d => { d with jobs := d.jobs.filter fun j => keep j.ref }
  | 0x04 => s.onDeal fun d => { d with jobs := d.jobs.filter (fun j => keep j.ref), redeal := d.redeal.filter fun r => keep r.ref }
  | 0x05 | 0x06 | 0x07 | 0x08 => s.onDev fun d => { d with stateCmd := d.stateCmd.filter fun c => keep c.ref }
  | 0x09 => s.dropRetime
  | 0x12 => s.onDealer fun d => { d with copies := d.copies.filter fun c => keep c.ref }
  | 0x18 => s.onSkim fun k => { k with staged := k.staged.filter fun z => keep z.1 }
  | 0x19 => s.onSkim fun k => { k with maint := k.maint.filter fun m => keep m.ref }
  | 0x20 => forEach tileIds (fun n s => s.onPort n fun p => { p with
      admission := p.admission.filter fun a => !(a.ref.any mine) }) s
  | 0x21 => forEach tileIds (fun n s => s.onPort n fun p => { p with
      retirement := p.retirement.filter fun a => !(a.ref.any mine) }) s
  | 0x22 => forEach tileIds (fun n s => (s.onPhot n fun p => { p with calJob := p.calJob.filter fun j => keep j.ref }).onPort n
      fun p => { p with flash := p.flash.filter fun j => keep j.ref }) s
  | 0x23 => forEach tileIds (fun n s => s.onPort n fun p => { p with
      read := p.read.filter fun j => keep j.ref, readWait := p.readWait.filter fun j => keep j.ref }) s
  | 0x28 => forEach tileIds (fun n s => s.onPort n fun p => { p with
      test := p.test.map fun t => { t with ref := t.ref.filter keep } }) s
  | 0x30 => forEach loopIds (fun l s => s.onLoop l fun lp => { lp with load := lp.load.filter fun x => keep x.1 }) s
  | 0x31 => (s.dropSwap ref).onCtl fun k => { k with emptySwaps := k.emptySwaps.filter keep }
  | 0x32 => forEach loopIds (fun l s => s.onLoop l fun lp => { lp with modeCmd := lp.modeCmd.filter fun x => keep x.1 }) s
  | 0x38 => s.onHouse fun h => { h with cal := h.cal.filter fun c => keep c.ref }
  | 0x50 => s.onPower fun p => { p with stage := p.stage.filter fun j => keep j.ref }
  | 0x51 => s.onPower fun p => { p with switch := p.switch.filter fun j => keep j.ref }
  | 0x60 => if s.partner.join.any fun j => mine j.1 then s.joinEnds .aborted else s
  | 0x61 => s.onPartner fun p => { p with leave := p.leave.filter keep }
  | _ => s

/-- An accepted command completes ABORTED (03 R55). -/
def State.abortCommand (ref : CmdRef) (s : State) : State :=
  if ref.opcode = 0x10 ∨ ref.opcode = 0x11 then
    match s.slotOpOf ref.id with
    | some x => s.abortSlotOp x.1 x.2 5
    | none => s
  else if ref.opcode = 0x13 then
    match s.trumpSels.find? fun t => t.ref.id = ref.id with
    | some t => s.abortTrumpSel t
    | none => s
  else (s.dropCommand ref).completeWith ref .aborted

/-- Every accepted command that the present state makes illegal, and that has not taken effect, completes ABORTED (03 R55). -/
def State.abortIllegal (s : State) : State :=
  let due := ringIds.flatMap fun r => (s.ring r).accepted.filter fun a => !legalIn a.opcode s.dev.state && !s.past a
  forEach due State.abortCommand s

/-! ### SAFE_LIGHT and FATAL (14 R323, R324, R326, R334, R336) -/

/-- Groups that are local at entry to SAFE_LIGHT (R324). -/
def State.entryLocal (s : State) : BitVec 4 :=
  (List.range 4).foldl (fun m g =>
    if bitAt (s.fld Reg.FLT_CFG 19 16) g || ([8, 9, 14].any fun o => s.faults.pend.getLsbD (48 + 16 * g + o)) then m ||| (1#4 <<< g) else m) 0

/-- Entry to SAFE_LIGHT from LIT or HOLD (R323). A locked chip tells its partner, unless the partner told it. -/
def State.enterSafeLight (cause : Nat) (s : State) : State :=
  if s.dev.state ≠ .lit ∧ s.dev.state ≠ .hold then s
  else
    let s := (s.setDevState .safeLight cause).abortIllegal
    let s := forEach tileIds (fun n s => s.onChurn n fun c => { c with drained := c.composing }) s
    let s := s.onFaults fun f => { f with localNext := s.entryLocal }
    if s.partner.state = 2 ∧ cause ≠ 0x10 then s.emit (.partner .safeLight) else s

/-- FLT_FIRST as the register reads (R340). -/
def Faults.firstWord (f : Faults) : Nat := match f.first with
  | none => 0
  | some e => e.input + 256 * e.cls + 4096 + 8192 * b2n e.overflow + 16384 * b2n e.broken + 32768 * b2n e.injected + 65536 * e.detail

/-- Entry to FATAL (R326): the dump's header values are noted (17 R400); without firmware, or without a partition to hold
it, no dump is written. A partnered chip sends its notice and turns its lanes off (R336). -/
def State.enterFatal (cause : Nat) (s : State) : State :=
  let before := s.dev.state
  let none' := s.power.absent || s.theDeal.isNone
  let s := s.onPower fun p => { p with
    fatalAt := some (s.lamp, s.frame, before.code, s.faults.firstWord, (s.faults.first.map (·.time)).getD 0)
    dumpDone := false, dumpNone := none', dumpSince := s.lamp }
  let s := (s.setDevState .fatal cause).abortIllegal
  let s := forEach loopIds State.abortLoop s
  let s := forEach tileIds (fun n s => s.onChurn n fun c => { c with composing := false }) s
  if s.role = 0 then s
  else
    let s := if s.partner.laneLock ≠ 0 then s.emit (.partner .fatal) else s
    s.onPartner fun p => { p with lanesOff := true }

/-- The entries that the command has made due (03 R50). Class F acts in every state from BOOT on, except FATAL; raised in
PASTEURISE it acts as BOOT is entered (14 R321, DEDUCED, log 95). -/
def State.dueEntries (s : State) : State :=
  let fatal := s.faults.fatalDue
  let safe := s.faults.safeDue
  let s := s.onFaults fun f => { f with fatalDue := if s.dev.state = .pasteurise then fatal else none, safeDue := none }
  match fatal with
  | some c => if s.dev.state = .off ∨ s.dev.state = .pasteurise ∨ s.dev.state = .fatal then s else s.enterFatal c
  | none =>
    match safe with
    | some c => s.enterSafeLight c
    | none => s

/-! ### Audits (01 R24 to R26) -/

/-- The audits run: a Deal is in force and its first cut has passed. -/
def State.auditing (s : State) : Bool := s.dev.auditOn && s.theDeal.isSome && s.dev.state.dealtOrLater

/-- The audit of one ledger: `kind` 0 to 4 in the order of R24. A broken ledger is reported once until its flag is cleared. -/
def State.audit (kind idx : Nat) (ok : Bool) (s : State) : State :=
  if ok || !s.auditing || s.dev.reported.contains (kind, idx) then s
  else
    let s := (s.setFlag Reg.DEV_AUDIT_STAT kind).addSat Reg.DEV_AUDIT_STAT 31 16 1
    (s.onDev fun d => { d with reported := (kind, idx) :: d.reported }).raise kind idx

/-- Free slots plus written, unacknowledged records equal the size (R24). -/
def State.evqBalanced (s : State) (q : QueueId) : Bool :=
  let v := s.evq q
  decide (v.free + (v.prod + 2 ^ 32 - v.cons) % 2 ^ 32 + (s.intc.staging.filter fun r => r.slot && decide (r.hand = some (handOf q))).length
    = s.evqSize q)

/-- The queue audits that record writes and CONS writes have made due, core rings alike (R24; 15 R351, R433). -/
def State.evqAudits (s : State) : State :=
  let due := s.intc.auditDue.eraseDups
  let s := s.onIntc fun i => { i with auditDue := [] }
  forEach ((List.finRange 8).filter fun q => due.contains q.val) (fun q s =>
    s.audit 2 q.val (!s.evqEnabled q || s.evqBalanced q)) s

/-- Surfaces of a ring that the chip owns: in force, of a pending commit, and of one that entry to FATAL ended (05 R108, R111). -/
def State.ringSurfaces (s : State) (r : RingId) : Nat :=
  ((tileIds.flatMap fun n => slotIds.tail.flatMap fun sl => (s.churn n).slotLayers sl).filter fun L => L.ring = r).length +
    (s.ring r).kept
/-- Tokens taken less tokens returned (R24). -/
def State.ringTokens (s : State) (r : RingId) : Nat := ((s.ring r).tokensTaken + 2 ^ 32 - (s.ring r).tokensReturned) % 2 ^ 32

/-- The tiles the Deal in force declares. -/
def State.declaredTiles (s : State) : List TileId := tileIds.filter fun (n : TileId) => s.declared n

/-- The audits of a cut: tokens of each ring, pot charge of each tile and of the chip. `skip`: the group that is
re-dealt at this cut (R26). -/
def State.cutAudits (skip : Option Nat) (s : State) : State :=
  let s := forEach ringIds (fun r s => s.audit 1 r.val (decide (s.ringTokens r = s.ringSurfaces r))) s
  let s := forEach (s.declaredTiles.filter fun (n : TileId) => decide (skip ≠ some (groupOf n))) (fun n s =>
    s.audit 4 n.val (s.phot n).ledger.balanced) s
  s.audit 4 0x10 s.pot.ledger.balanced

/-- The audits of a frame tick: link credits and probe charge. -/
def State.tickAudits (s : State) : State :=
  forEach s.declaredTiles (fun n s =>
    (s.audit 0 n.val (decide ((s.port n).creditSum = s.portTotal))).audit 3 n.val (s.phot n).probeBalanced) s

/-! ### The end of every command -/

/-- What the hardware does by itself right after any event: due entries, event queues, arbitration, pins. -/
def State.settle (s : State) : State :=
  ((s.dueEntries.closeLostWindows.routeStaged.drainAll.refillLowWater).evqAudits).arbitrateAll.drivePins

end Sys2Proof.Machine
end

