-- ==== Sys2Proof/Machine/Clock.lean ====
section
/-! DEFINITION. The step of the lamp clock on a chip that takes its partner's (14 R329 step 4). What the chip measures from
an instant of its old clock it goes on measuring from the same instant, dated on the new one (DEDUCED, log 107). -/

namespace Sys2Proof.Machine

open Sys2Proof

/-- An instant dated on a clock `d` counts ahead; one before that clock's start is dated 0. -/
def redate (d : Int) (t : Nat) : Nat := ((t : Int) + d).toNat

def Ring.redate (f : Nat → Nat) (r : Ring) : Ring := { r with waiting := r.waiting.map fun w => { w with since := f w.since } }
def Dealer.redate (f : Nat → Nat) (d : Dealer) : Dealer := { d with
  copies := d.copies.map fun j => { j with since := f j.since } }
def DealStore.redate (f : Nat → Nat) (d : DealStore) : DealStore := { d with redeal := d.redeal.map fun r => { r with verified := f r.verified } }
def Timing.redate (f : Nat → Nat) (t : Timing) : Timing := { t with
  tsBusyUntil := f t.tsBusyUntil, syncOutAt := f t.syncOutAt, rephaseEnd := t.rephaseEnd.map f }
def Faults.redate (f : Nat → Nat) (x : Faults) : Faults := { x with
  timer := x.timer.map fun t => { t with start := f t.start }
  brokenAt := x.brokenAt.map fun b => (b.1, f b.2) }
def Partner.redate (f : Nat → Nat) (p : Partner) : Partner := { p with join := p.join.map fun j => (j.1, f j.2) }
def Intc.redate (f : Nat → Nat) (i : Intc) : Intc := { i with
  windows := i.windows.map fun w => { w with closesAt := f w.closesAt }
  holdoffs := i.holdoffs.map fun h => { h with endsAt := f h.endsAt } }
def MemCtl.redate (f : Nat → Nat) (m : MemCtl) : MemCtl := { m with srSince := m.srSince.map f }
def Power.redate (f : Nat → Nat) (p : Power) : Power := { p with
  pasteStart := f p.pasteStart, absentSince := f p.absentSince, wdogSince := f p.wdogSince, dumpSince := f p.dumpSince
  switch := p.switch.map fun j => { j with since := f j.since } }
def Skim.redate (f : Nat → Nat) (k : Skim) : Skim := { k with
  readUntil := f k.readUntil, maintEnd := k.maintEnd.map (·.map f)
  setup := k.setup.map fun u => { u with begun := f u.begun } }
def Port.redate (f : Nat → Nat) (p : Port) : Port := { p with
  tracks := p.tracks.map fun t => { t with sentAt := f t.sentAt }
  retAt := f p.retAt
  admission := p.admission.map fun a => { a with since := f a.since }
  flash := p.flash.map fun j => { j with committed := j.committed.map f } }
def Tile.redate (f : Nat → Nat) (t : Tile) : Tile := { t with
  lastTick := f t.lastTick, rephaseEnd := t.rephaseEnd.map f, block := t.block.map fun b => (f b.1, b.2) }
def Ctl.redate (f : Nat → Nat) (c : Ctl) : Ctl := { c with
  lastTick := f c.lastTick
  loops := c.loops.map fun l => { l with modeCmd := l.modeCmd.map fun m => (m.1, m.2.1, f m.2.2) } }
def House.redate (d : Int) (h : House) : House := { h with
  base := h.base + d
  channels := h.channels.map fun c => { c with conv := c.conv.map (Machine.redate d) }
  therm := { h.therm with next := h.therm.next.map fun n => (n.1, Machine.redate d n.2) } }
def AccUnit.redate (f : Nat → Nat) (u : AccUnit) : AccUnit := { u with probeAt := u.probeAt.map f, verified := f u.verified }
/-- Periods begin at multiples of 6,250 of the clock itself (13 R301), so the next is found afresh. -/
def Accent.redate (f : Nat → Nat) (a : Accent) : Accent := { a with
  chans := a.chans.map fun c => { c with direct := c.direct.redate f, cells := c.cells.map (·.redate f) }
  scan := a.scan.map fun x => (f x.1, x.2)
  lastEdge := a.lastEdge.map f, period := none, fadeAt := f a.fadeAt }

/-- The lamp clock steps to `toLamp`. Times already recorded in records, latches and dumps stay as recorded. -/
def State.stepLamp (toLamp : Nat) (s : State) : State :=
  let d : Int := (toLamp : Int) - s.lamp
  let f := redate d
  { s with
    lamp := toLamp
    deal := s.deal.redate f, rings := s.rings.map (·.redate f), dealer := s.dealer.redate f, timing := s.timing.redate f
    faults := s.faults.redate f, partner := s.partner.redate f, intc := s.intc.redate f, memc := s.memc.redate f
    power := s.power.redate f, skim := s.skim.redate f, ports := s.ports.map (·.redate f), tiles := s.tiles.map (·.redate f)
    ctl := s.ctl.redate f, house := s.house.redate d, accent := s.accent.redate f }

end Sys2Proof.Machine
end

