-- ==== Sys2Proof/Machine/Timing.lean ====
section
/-! DEFINITION. The timing generator: placement of ticks, SYNC_IN, SYNC_OUT, rate and source changes (04). -/

namespace Sys2Proof.Machine

open Sys2Proof

/-! ### Placement (R77, R78) -/

/-- Frame rate in hertz by bit number (R77). -/
def rateHz (rate : Nat) : Nat := match rate with
  | 0 => 120 | 1 => 200 | 2 => 240 | 3 => 360 | _ => 480
/-- T(m) from epoch `e` (R78). -/
def tickAt (e f m : Nat) : Nat := e + m * 100000000 / f
/-- P(m) of the free-running generator (R78). -/
def Timing.freePeriod (t : Timing) : Nat := tickAt t.epoch (rateHz t.rate) (t.m + 1) - tickAt t.epoch (rateHz t.rate) t.m
/-- CUT(m), 250 µs before the next tick (R78). -/
def State.cutAt (s : State) : Nat := s.timing.lastTick + s.timing.period - 25000

/-- The generator follows SYNC_IN (R83, R84). -/
def State.follows (s : State) : Bool := s.timing.syncSrc && !s.lockedSecondary

/-- The period of the frame that begins now: as measured, corrected by at most 200 counts, while CAPTURED or LOCKED (R83). -/
def Timing.placePeriod (follows : Bool) (t : Timing) : Timing :=
  if follows && decide (1 ≤ t.lock.state) then
    let c := clampInt (-200) 200 t.lock.remaining
    { t with period := ((t.lock.measured : Int) + c).toNat, lock := { t.lock with remaining := t.lock.remaining - c } }
  else { t with period := t.freePeriod }

/-! ### SYNC_IN (R83) -/

/-- DIV in force, in frames. -/
def State.syncDiv (s : State) : Nat := 2 ^ s.fld Reg.TICK_SYNC_CFG 1 0
/-- TICK_SYNC_IN_OFS in force: as the last copy clamped it. The register reads what was written (00 R7). -/
def State.syncOfs (s : State) : Int := s.timing.syncOfs

/-- Phase error of an edge now against the nearest tick whose frame count is a multiple of DIV, by the shorter way. -/
def State.phaseError (s : State) : Int :=
  let t := s.timing
  let d : Int := (s.syncDiv * t.period : Nat)
  let ref : Int := (t.lastTick : Int) - ((t.frame % s.syncDiv * t.period : Nat) : Int)
  let x := ((s.lamp : Int) + s.syncOfs - ref) % d
  if d < 2 * x then x - d else x

/-- Lock is lost: free-run at the nominal rate from the last tick placed, so the next tick is T(1) of that epoch (R83). -/
def State.loseLock (s : State) : State :=
  (s.setFlag Reg.TICK_SYNC_STAT 2).onTiming fun t =>
    let t := { t with lock := { err := t.lock.err }, epoch := t.lastTick, m := 0, lossCount := t.lossCount + 1 }
    { t with period := t.freePeriod }

/-- Lamp time at which the second expected edge since the last valid one has not come, 1 % allowed (R83, log 59). -/
def State.lockLimit (s : State) : Nat :=
  let d := s.syncDiv * s.timing.lock.measured
  s.timing.lock.lastEdge.getD 0 + 2 * d + d / 100

/-- SYNC_LOCK_LOST. -/
def State.syncLockLost (s : State) : State :=
  if s.follows && decide (1 ≤ s.timing.lock.state) then (s.advanceTo s.lockLimit).loseLock else s

/-- A valid edge: its interval is measured, and the lock state moves on (R83). -/
def State.validEdge (interval : Nat) (s : State) : State :=
  let e := s.phaseError
  let div := s.syncDiv
  s.onTiming fun t =>
    let k := t.lock
    let run := satAdd 8 k.validRun 1
    let inWin := if e.natAbs ≤ 100 then satAdd 8 k.inWindow 1 else 0
    let st := if k.state = 0 then (if run = 8 then 1 else 0) else if k.state = 1 ∧ inWin = 8 then 2 else k.state
    { t with lock := { k with
      state := st, lastEdge := some s.lamp, validRun := run, measured := interval / div
      inWindow := if k.state = 0 then 0 else inWin, err := e, remaining := if st = 0 then 0 else e } }

/-- An edge of the selected polarity reaches the follower. In SEEK an edge that is not valid starts the count again;
later one that is not valid is passed over (log 59). -/
def State.followEdge (s : State) : State :=
  let s := if decide (1 ≤ s.timing.lock.state) && decide (s.lockLimit < s.lamp) then s.loseLock else s
  let k := s.timing.lock
  let d := s.syncDiv * s.timing.period
  match k.lastEdge with
  | none => s.onTiming fun t => { t with lock := { t.lock with lastEdge := some s.lamp, validRun := 0 } }
  | some l =>
    let i := s.lamp - l
    if 999 * d ≤ 1000 * i ∧ 1000 * i ≤ 1001 * d then s.validEdge i
    else if k.state = 0 then s.onTiming fun t => { t with lock := { t.lock with lastEdge := some s.lamp, validRun := 0 } }
    else s

/-- SYNC_IN_EDGE: the follower, and the matrix scan that MSYNC ties to the edge (R83; 13 R306). -/
def State.syncInEdge (falling : Bool) (s : State) : State :=
  if falling ≠ s.bit Reg.TICK_SYNC_CFG 2 ∨ !s.timing.started then s
  else (if s.follows then s.followEdge else s).matrixEdge

/-! ### SYNC_OUT (R85) -/

/-- LEAD in force; a write clamps it (R94, log 77). -/
def State.syncLead (s : State) : Nat := min 100000 (s.fld Reg.TICK_SYNC_OUT_LEAD 16 0)
/-- SYNC_OUT is driven low. -/
def State.syncLow (s : State) : State :=
  if s.timing.syncOut then (s.onTiming fun t => { t with syncOut := false }).emit (.syncOut false) else s
/-- The pulse begins before the next tick, if that tick's frame count is a multiple of OUT_DIV, or ends after OUT_WIDTH. The
pin stays low until a Deal is in force (19 R421). -/
def State.syncOutPulse (rising : Bool) (s : State) : State :=
  let t := s.timing
  if rising then
    let due := s.dev.state.dealtOrLater && t.started && s.bit Reg.TICK_SYNC_CFG 8 && !t.syncOut && decide (s.nextFrame % 2 ^ s.fld Reg.TICK_SYNC_CFG 10 9 = 0)
    if !due then s
    else
      let s := s.advanceTo (s.nextTick - s.syncLead)
      (s.onTiming fun t => { t with syncOut := true, syncOutAt := s.lamp }).emit (.syncOut true)
  else if !t.syncOut then s
  else
    let s := s.advanceTo (t.syncOutAt + usCounts (max 1 (s.fld Reg.TICK_SYNC_CFG 23 16)))
    (s.onTiming fun t => { t with syncOut := false }).emit (.syncOut false)

/-- With OUT_EN 0 the pin is low (R85). -/
def State.syncOutCut (s : State) : State :=
  if s.bit Reg.TICK_SYNC_CFG 8 then s else s.syncLow

/-- At the cut that copies a written TICK_SYNC_IN_OFS, the value that comes into force is clamped to half the period of
the rate in force (R94); `copied` says that this cut copies one. -/
def State.clampOfs (copied : Bool) (s : State) : State :=
  let h : Int := nominalPeriod s.timing.rate / 2
  if copied then s.onTiming fun t => { t with syncOfs := clampInt (-h) h (s.reg Reg.TICK_SYNC_IN_OFS).toInt } else s

/-! ### TIMING_SET (R89, R90, R92) -/

/-- TIMING_SET from step 5 on. -/
def timingSetBody : Body := fun c ref s =>
  let r := par c 8 1
  checked [(8, 1), (9, 1)]
    [(decide (4 < r), .invalid, 8), (decide (1 < par c 9 1), .invalid, 9),
     (!bitAt ((s.theDeal.map (·.rateMask)).getD 0) r, .range, 8), (s.timing.retime.isSome, .busy, 0xFF)] c ref
    (fun s => (s.accept ref).onTiming fun t => { t with retime := some ⟨some ref, r, par c 9 1, none, 0, 0, none⟩ }) s

/-- The retime notice goes to every tile ADMITTED or LIT, at tick k (R90). -/
def State.noticeTick (s : State) : State := match s.timing.retime with
  | some r =>
    if r.frameK = some s.frame ∧ r.noticed = 0 ∧ r.decided = none then
      let told := s.declaredTiles.filter fun (n : TileId) => s.portOn n && decide ((s.port n).state = 2 ∨ (s.port n).state = 3)
      let m := told.foldl (fun (m : BitVec 16) (n : TileId) => m ||| (1#16 <<< n.val)) 0
      let s := s.onTiming fun t => { t with retime := some { r with noticed := m } }
      forEach told (fun n s => s.retimeParcel 1 r n) s
    else s
  | none => s

/-- The outcome at CUT(k): confirm, or cancel (R90). The secondary of a locked pair takes the primary's from the plan, where
tiles were noticed (14 R334). -/
def State.retimeDecision (s : State) : State := match s.timing.retime with
  | some r =>
    if s.lockedSecondary ∧ r.noticed ≠ 0 then s
    else if r.frameK = some s.frame ∧ r.decided = none then
      let s := s.advanceTo s.cutAt
      let go := decide (r.acked = r.noticed)
      let s := s.onTiming fun t => { t with retime := some { r with decided := some go } }
      forEach (maskTiles (if go then r.noticed else r.acked).toNat) (fun n s => s.retimeParcel (if go then 2 else 3) r n) s
    else s
  | none => s

/-- The sync source changes at a cut; a generator that followed SYNC_IN free-runs from the next tick (R84, R89). -/
def Timing.setSource (src : Bool) (t : Timing) : Timing :=
  if src = t.syncSrc then t
  else { t with
    syncSrc := src, lock := {}
    epoch := if t.syncSrc ∧ 1 ≤ t.lock.state then t.lastTick + t.period else t.epoch }

/-- DEFAULT_RATE and SYNC_SRC 0 of a Deal that has come into force are taken at the next cut, but not before a change
that CUT(k) had decided has ended (R88). -/
def State.takeUpCut (s : State) : State :=
  if s.timing.takeUp && !(s.timing.retime.any fun r => r.decided.isSome) then
    let rate := (s.theDeal.map (·.defaultRate)).getD s.timing.rate
    s.onTiming fun t =>
      let t := { t.setSource false with takeUp := false }
      if rate = t.rate then t else { t with rate := rate, epoch := t.lastTick + t.period }
  else s

/-- The cut's part in a TIMING_SET (R89, R90): a change of source only is decided, or frame k is named at the first cut. -/
def State.retimeCut (s : State) : State := match s.timing.retime with
  | some r =>
    if r.rate = s.timing.rate then
      s.onTiming fun t => ({ t with retime := some { r with decided := some true } }).setSource (decide (r.src = 1))
    else if r.frameK = none then s.onTiming fun t => { t with retime := some { r with frameK := some s.nextFrame } }
    else s
  | none => s

/-- The cut's part in TIMING_SET and in what a Deal brings (R88 to R90). A TIMING_SET accepted since the Deal came into
force acts on the rate that the Deal has brought. -/
def State.timingCut (s : State) : State := s.retimeDecision.takeUpCut.retimeCut

/-- The re-phase window ends (R92). -/
def State.rephaseOver (s : State) : State := match s.timing.rephaseEnd with
  | some e => (s.advanceTo e).onTiming fun t => { t with rephaseEnd := none }
  | none => s
/-- A re-phase window that has run out is over. -/
def State.rephaseCheck (s : State) : State :=
  if s.timing.rephaseEnd.any fun e => decide (e ≤ s.lamp) then s.rephaseOver else s

/-- Tick k+1: a decided TIMING_SET completes, and a change that proceeds begins its epoch (R90, R92). A generator that
goes on following SYNC_IN begins again in SEEK, free-running from that epoch: the intervals it measured are of the old
rate (DESIGN CHOICE, log 89). Answers whether the rate changed. -/
def State.retimeTick (s : State) : State × Bool := match s.timing.retime with
  | none => (s, false)
  | some r =>
    -- a secondary that has not had the decision follows the tick that the primary places
    match r.decided.or (if s.lockedSecondary ∧ r.frameK = some s.frame then some (s.partner.timing.any fun p => p.rate = r.rate) else none) with
    | none => (s, false)
    | some go =>
      let change := decide (r.rate ≠ s.timing.rate)
      let old := s.timing.rate
      let s := s.onTiming fun t =>
        let t := { t with retime := none }
        if !change then t
        else if go then
          { (t.setSource (decide (r.src = 1))) with
            rate := r.rate, epoch := t.lastTick + t.period, lock := { err := t.lock.err }, lastResult := 1, oldRate := old
            rephaseEnd := some (t.lastTick + t.period + 2 * 100000000 / rateHz old) }
        else { t with lastResult := 2, nackMask := (r.noticed &&& ~~~r.acked).toNat }
      let s := match r.ref with
        | some c => if go then s.completeOk c s.nextFrame else s.completeWith c .aborted
        | none => s
      (s, change && go)

/-! ### Ticks ahead, as scheduled now (R78, R83, R90) -/

/-- Rate, epoch and index of the next tick. -/
def State.schedule0 (s : State) : Nat × Nat × Nat :=
  let t := s.timing
  let at0 := s.nextTick
  match t.retime with
  | some r => if r.decided = some true ∧ r.rate ≠ t.rate then (r.rate, at0, 0) else (t.rate, t.epoch, if t.epoch = at0 then 0 else t.m + 1)
  | none => (t.rate, t.epoch, if t.epoch = at0 then 0 else t.m + 1)

/-- Placement of the tick `j` after the next one; a generator that follows goes on removing its phase error. -/
def State.tickAhead (s : State) (j : Nat) : Nat :=
  let p := s.schedule0
  if s.follows && decide (1 ≤ s.timing.lock.state) && decide (p.1 = s.timing.rate) then
    (((s.nextTick + j * s.timing.lock.measured : Nat) : Int) + clampInt (-(200 * j : Nat)) (200 * j : Nat) s.timing.lock.remaining).toNat
  else tickAt p.2.1 (rateHz p.1) (p.2.2 + j)

/-- The generator's first cut after the present one, where the present cut has come. -/
def State.cutAfter (s : State) : Nat := s.tickAhead 1 - 25000

/-- The coming cut (01 R15, 04 R81). -/
def State.nextCut (s : State) : Nat := if s.timing.pastCut then s.cutAfter else s.cutAt

/-- The TIMING_SET that TICK_MODE shows: one that changes the rate from the cut before tick k (R90), one that changes
only the source from its acceptance (R94). -/
def State.shownRetime (s : State) : Option Retime := s.timing.retime.filter fun r =>
  r.frameK.isSome || r.decided.isSome || decide (r.rate = s.timing.rate)

/-! ### The generator's part of a frame tick -/

/-- A tick is placed: at the end of the frame, or as the partner's timing gives it (R78, R79, R84; 14 R329). The clocks of a
locked pair agree already; one that joins steps its own. -/
def State.placeTick (s : State) : State := match s.partner.timing with
  | some p =>
    ((if s.lockedSecondary then { s with lamp := p.lamp } else s.stepLamp p.lamp).onPartner fun x => { x with timing := none }).onTiming fun t => { t with
      started := true, rate := p.rate, syncSrc := p.syncSrc, epoch := p.epoch, m := p.m, frame := p.frame % 2 ^ 32
      lastTick := p.lamp, period := p.period, lock := {}
      sample := 0, nextSample := 0, pastCut := false, fenced := false, pastHorizon := false }
  | none =>
    let at0 := if s.timing.started then s.nextTick else s.lamp
    let s := s.advanceTo at0
    let fol := s.follows
    s.onTiming fun t =>
      let first := !t.started
      let t := { t with
        started := true, frame := if first then 0 else (t.frame + 1) % 2 ^ 32, lastTick := at0
        epoch := if first then at0 else t.epoch, m := if first ∨ t.epoch = at0 then 0 else t.m + 1
        sample := 0, nextSample := 0, pastCut := false, fenced := false, pastHorizon := false }
      t.placePeriod fol

end Sys2Proof.Machine
end

