-- ==== Sys2Proof/Machine/IntcOps.lean ====
section
/-! DEFINITION. The interrupt controller's commands: windows, hold-offs, claims, queues, sleep and core restart (15). -/

namespace Sys2Proof.Machine

open Sys2Proof

/-- WINDOW_TIMEOUT: TIME has passed; a frozen window waits (R346, R357). -/
def State.windowTimeout (src : Nat) (s : State) : State := match s.intc.windows.find? fun w => w.src = src with
  | some w => if w.left.isSome then s else (s.advanceTo w.closesAt).closeWindow src true
  | none => s

/-- HOLDOFF_EXPIRY: one notification if any arrived, and the hold-off starts again (R347). -/
def State.holdoffExpiry (g : Fin 3) (h : Fin 8) (s : State) : State :=
  match s.intc.holdoffs.find? fun o => o.group = g.val + 1 ∧ o.hand = h.val with
  | none => s
  | some o =>
    if o.left.isSome then s
    else
      let s := s.advanceTo o.endsAt
      let rest (i : Intc) : List Holdoff := i.holdoffs.filter fun x => !(decide (x.group = g.val + 1) && decide (x.hand = h.val))
      if o.waiting.isEmpty then s.onIntc fun i => { i with holdoffs := rest i }
      else
        let s := s.onIntc fun i => { i with holdoffs := rest i ++ [{ o with endsAt := s.lamp + s.holdoffCounts (g.val + 1), waiting := [] }] }
        if h.val < 2 then forEach o.waiting (fun src s => s.notify h.val src) s else s.notify h.val 0

/-- A claim by a core: the ID returned, and the state after it (R349). -/
def State.claim (h : Fin 2) (s : State) : Nat × State :=
  let c := s.intc.cores.get h
  let src := c.selected
  if src = 0 then (0, s)
  else if s.claimable h src && !s.srcMasked src && bitAt (s.srcRoute src) h.val then
    (src, s.onCore h fun c => { c with
      pend := c.pend &&& ~~~(1#384 <<< src), stack := (src, s.srcPrio src) :: c.stack, selected := 0 })
  else (1023, s.onCore h fun c => { c with selected := 0 })

/-- CLAIM_WRITE: the claim on top of the stack completes; any other ID is an error (R350; 18 R411). -/
def State.claimWrite (m : Master) (h : Fin 2) (id : Nat) (s : State) : State := match m with
  | .host => s
  | .core => s.onCore h fun c => match c.stack with
    | top :: rest => if top.1 = id then { c with stack := rest } else { c with completeErr := true }
    | [] => { c with completeErr := true }

/-- PENDING_WITHDRAW: pending bits are withdrawn (R355, R358). -/
def State.withdraw (h : Fin 2) (w v : Nat) (s : State) : State :=
  s.onCore h fun c => { c with pend := c.pend &&& ~~~(BitVec.ofNat 384 v <<< (32 * w)) }

/-- A write to EVQq_CFG (R351, R352, R359): enabling starts the queue afresh, but for a loss still to be marked (R348); disabling routes its staged records again. -/
def State.writeEvqCfg (q : QueueId) (v : Nat) (s : State) : State :=
  let off := Reg.EVQ_CFG q
  let was := s.evqEnabled q
  let size := bitsOf v 4 0
  let s := if !was && decide (6 ≤ size) && decide (size ≤ 16) then s.setFld off 4 0 size else s
  let s := (s.setFld off 15 12 (bitsOf v 15 12)).setFld off 9 8 (bitsOf v 9 8)
  let now := bitAt v 8
  if now && !was then
    let n := s.evqSize q
    s.onEvq q fun e => { e with prod := 0, cons := 0, free := n, armed := true, notifyPend := false, stalled := false }
  else if was && !now then s.rerouteQueue q
  else s

/-- A write to EVQq_CONS (R352). -/
def State.writeCons (q : QueueId) (v : Nat) (s : State) : State :=
  let e := s.evq q
  let d := (v + 2 ^ 32 - e.cons) % 2 ^ 32
  if d ≤ (e.prod + 2 ^ 32 - e.cons) % 2 ^ 32 then
    let s := s.onEvq q fun e => { e with
      cons := v, free := e.free + d, notifyPend := e.notifyPend && decide (v ≠ e.prod) }
    s.onIntc fun i => { i with auditDue := i.auditDue ++ [q.val] }
  else
    let fresh := !e.consErr
    let s := s.onEvq q fun e => { e with consErr := true }
    if fresh then
      let r := s.queueRecord q 3
      s.post r.1 r.2.1 r.2.2
    else s

/-- A write of 1 to ARM (R353); a core ring ignores it. -/
def State.writeArm (q : QueueId) (s : State) : State :=
  if q.val < 6 then (s.onEvq q fun e => { e with armed := true }).tryMessage q else s

/-- W1C bits of EVQq_STAT (R359). -/
def State.writeEvqStat (q : QueueId) (v : Nat) (s : State) : State :=
  s.onEvq q fun e => { e with
    consErr := e.consErr && !bitAt v 3, writeErr := e.writeErr && !bitAt v 4, lost := e.lost && !bitAt v 5 }

/-- A write to INTC_SRCs_CFG (R354, R355, R358): masking closes the window without a notification. -/
def State.writeSrcCfg (src v : Nat) (s : State) : State :=
  if reservedSource src then s
  else
  let off := Reg.INTC_SRC_CFG src
  let route := bitsOf v 23 16
  let s := (s.setFld off 3 0 v).setFld off 8 8 (bitsOf v 8 8)
  let s := if route &&& s.handMask src = route then s.setFld off 23 16 route else s
  if bitAt v 8 then s.closeWindow src false else s

/-- A core restart's effect on the core hands (R433). -/
def State.coreHandsRestart (s : State) : State :=
  let s := forEach (List.finRange 2) (fun (h : Fin 2) s =>
    let s := s.setFld (Reg.INTC_HAND_CFG h) 0 0 0
    s.onCore h fun c => { completeErr := c.completeErr }) s
  let s := s.onIntc fun i => { i with windows := i.windows.filter fun w => 2 ≤ w.hand }
  forEach ([6, 7] : List QueueId) (fun q s => (s.setFld (Reg.EVQ_CFG q) 8 8 0).rerouteQueue q) s

/-! ### Sleep and wake (R357) -/

/-- Entry to D3hot: timers towards host hands freeze. -/
def State.freezeTimers (s : State) : State :=
  s.onIntc fun i => { i with
    windows := i.windows.map fun w => if 2 ≤ w.hand then { w with left := some (w.closesAt - s.lamp) } else w
    holdoffs := i.holdoffs.map fun o => if 2 ≤ o.hand then { o with left := some (o.endsAt - s.lamp) } else o }
/-- Frozen timers resume. -/
def State.resumeTimers (s : State) : State :=
  s.onIntc fun i => { i with
    windows := i.windows.map fun w => match w.left with
      | some l => { w with closesAt := s.lamp + l, left := none }
      | none => w
    holdoffs := i.holdoffs.map fun o => match o.left with
      | some l => { o with endsAt := s.lamp + l, left := none }
      | none => o }

/-- Each host queue that is not empty sends its message, armed or not, and its windows close without another. -/
def State.wakeMessages (s : State) : State :=
  forEach ((List.finRange 8).filter fun (q : QueueId) => decide (q.val < 6)) (fun (q : QueueId) s =>
    let e := s.evq q
    if s.evqEnabled q && decide (e.prod ≠ e.cons) && s.hostReady then
      (s.sendMessage q).onIntc fun i => { i with windows := i.windows.filter fun w => w.hand ≠ handOf q }
    else s) s

/-- A link-down clears ENABLE of the host queues, and their staged records are routed again (16 R364). -/
def State.hostQueuesDown (s : State) : State :=
  forEach ((List.finRange 8).filter fun (q : QueueId) => decide (q.val < 6)) (fun (q : QueueId) s =>
    if s.evqEnabled q then (s.setFld (Reg.EVQ_CFG q) 8 8 0).rerouteQueue q else s) s

end Sys2Proof.Machine
end

