-- ==== Sys2Proof/Machine/Rings.lean ====
section
/-! DEFINITION. Ring registers, link events and the host port (03 R57 to R62; 16 R361 to R365, R379). -/

namespace Sys2Proof.Machine

open Sys2Proof

/-! ### Ring registers (03 R57 to R62) -/

/-- A write to DEV_RINGn_SQ_TAIL (R60). -/
def State.writeSqTail (r : RingId) (v : Nat) (s : State) : State :=
  let x := s.ring r
  let n := x.entries
  if v < n ∧ (x.sqTail + n - x.sqHead) % n ≤ (v + n - x.sqHead) % n then s.onRing r fun x => { x with sqTail := v }
  else s.ringError r false false true false

/-- A write to DEV_RINGn_CQ_HEAD (R60). -/
def State.writeCqHead (r : RingId) (v : Nat) (s : State) : State :=
  let x := s.ring r
  let n := x.entries
  if v < n ∧ (v + n - x.cqHead) % n ≤ (x.cqTail + n - x.cqHead) % n then s.onRing r fun x => { x with cqHead := v }
  else s.ringError r false false true false

/-- A local ring lies where R57 requires. -/
def State.localRingOk (s : State) (x : Ring) : Bool :=
  s.parts.any fun p => (decide (p.kind = 4) || (decide (p.kind = 1) && decide (p.access % 4 = 3))) && p.holds x.base (80 * x.entries)

/-- The ring stops: nothing more is read or written in its memory (R61, R62). -/
def State.stopRing (stopped : Bool) (r : RingId) (s : State) : State :=
  s.onRing r fun x => { x with enable := false, stopped := x.stopped || stopped }

/-- The fields that a write to DEV_RINGn_CFG of a stopped ring sets: SIZE_LOG2, LOCAL and FLUSH_REPLAY (R62). -/
def Ring.configured (x : Ring) (v : Nat) : Ring :=
  let size := bitsOf v 3 0
  { x with
    sizeLog2 := if 4 ≤ size ∧ size ≤ 12 then size else x.sizeLog2
    isLocal := bitAt v 9
    window := if bitAt v 16 then [] else x.window }

/-- The ring may not be enabled so (R62). -/
def State.enableRefused (s : State) (x : Ring) : Bool :=
  decide (x.entries - 1 < x.held.length) || (x.isLocal && (s.theDeal.isNone || !s.localRingOk x))

/-- A ring as ENABLE leaves it: pointers 0, phase 1, and what it holds to be posted with HELD 1 (R62). -/
def Ring.started (x : Ring) : Ring :=
  { x with enable := true, stopped := false, sqHead := 0, sqTail := 0, cqHead := 0, cqTail := 0, phase := true, heldOld := x.held.length }

/-- A write to DEV_RINGn_CFG (R62): SIZE_LOG2 and LOCAL only while ENABLE is 0, FLUSH_REPLAY likewise. A refused ENABLE
discards the whole write. -/
def State.writeRingCfg (r : RingId) (v : Nat) (s : State) : State :=
  let x := s.ring r
  let y := x.configured v
  if x.enable then (if bitAt v 8 then s else s.stopRing false r)
  else if !bitAt v 8 then s.onRing r fun _ => y
  else if s.enableRefused y then s.ringError r false false false true
  else (s.onRing r fun _ => y.started).flushHeld r x.held.length

/-- A write to a base register (R62). -/
def State.writeRingBase (r : RingId) (hi : Bool) (v : Nat) (s : State) : State :=
  if (s.ring r).enable then s.ringError r false false false true
  else s.onRing r fun x => { x with
    base := if hi then v * 2 ^ 32 + x.base % 2 ^ 32 else x.base / 2 ^ 32 * 2 ^ 32 + v / 4096 * 4096 }

/-- W1C bits of DEV_RINGn_STAT; a completion held for POST_ERR is written again (R62). -/
def State.writeRingStat (r : RingId) (v : Nat) (s : State) : State :=
  let s := s.onRing r fun x => { x with
    fetchErr := x.fetchErr && !bitAt v 0, postErr := x.postErr && !bitAt v 1
    tailErr := x.tailErr && !bitAt v 2, cfgErr := x.cfgErr && !bitAt v 3 }
  s.flushHeld r (s.ring r).held.length

/-- Every ring posts what it holds, once the host can be reached (16 R364). -/
def State.flushRings (s : State) : State := forEach ringIds (fun r s => s.flushHeld r (s.ring r).held.length) s

/-- The rings of the host for which `p` holds are cleared and stopped (R61). -/
def State.stopHostRings (p : Ring → Bool) (s : State) : State :=
  forEach ringIds (fun r s => let x := s.ring r
    if !x.isLocal && p x then s.stopRing true r else s) s

/-! ### Link events (16 R363 to R365, R424; 15 R357) -/

/-- The link goes down: configuration space at reset, rings and queues of the host stop (R61, R364). -/
def State.linkOff (s : State) : State :=
  let s := s.onHost fun h => { h with
    linkUp := false, bme := false, d3hot := false, inL1 := false, speed := 0, width := 0, pmeEn := false, pmeStatus := false
    msix := h.msix.map fun e => { e with control := e.control ||| 1#32 } }
  (s.stopHostRings fun _ => true).resumeTimers.hostQueuesDown

/-- What a link-down, hot reset or PERST does (R61, R364). -/
def State.linkDown (s : State) : State :=
  if !s.host.linkUp then s
  else ((s.onHost fun h => { h with linkDownCnt := satAdd 0xFFFF h.linkDownCnt 1 }).linkOff).raise 12 0

/-- The HOST domain is on (17 R385). -/
def State.hostOn (s : State) : Bool := match s.dev.state with
  | .off | .pasteurise => false
  | .boot | .undealt => true
  | .dealt | .lit | .hold | .safeLight | .fatal => (s.theDeal.map (·.hostPresent)).getD true

/-- BUS_MASTER_ENABLE: the host enumerates the function where the link was down (log 8), and sets the bit. Waiting
records and completions go out (R364). -/
def State.busMasterEnable (s : State) : State :=
  if !s.hostOn then s
  else
    let s := s.onHost fun h => { h with
      linkUp := true, bme := true, speed := if h.linkUp then h.speed else 3, width := if h.linkUp then h.width else 2 }
    let s := forEach ((List.finRange 8).filter fun (q : QueueId) => decide (q.val < 6)) (fun q s => s.tryMessage q) s.flushPba
    s.flushRings

/-- A write of the function's power control: PME_En, and PME_Status cleared by 1 (PCI Power Management, log 8). -/
def State.writePme (en clear : Bool) (s : State) : State :=
  s.onHost fun h => { h with pmeEn := en, pmeStatus := h.pmeStatus && !clear }

/-- Entry to D3hot (15 R357; 03 R61): each host ring whose own submission queue is not empty stops (DESIGN CHOICE, log 101). -/
def State.d3hotEntry (en clear : Bool) (s : State) : State :=
  if !s.host.linkUp then s
  else if s.host.d3hot then s.writePme en clear
  else
    let s := ((s.writePme en clear).onHost fun h => { h with d3hot := true }).freezeTimers
    s.stopHostRings fun x => decide (x.sqHead ≠ x.sqTail)

/-- Return to D0: staged records are written, timers resume, and each queue that is not empty sends its message (15 R357). -/
def State.d0Return (en clear : Bool) (s : State) : State :=
  if !s.host.linkUp ∨ !s.host.d3hot then s
  else
    let s := ((s.writePme en clear).onHost fun h => { h with d3hot := false }).drainAll.resumeTimers.wakeMessages
    s.flushRings

/-! ### The memory firewall and BAR2 (16 R361, R362, R377, R379) -/

/-- A partition that holds the bytes and grants the access bit. -/
def State.permitted (s : State) (a n bit : Nat) : Bool :=
  s.parts.any fun p => p.holds a n && bitAt p.access bit && decide (a + n ≤ s.dataSpace)
/-- Partition of an address, 0xFF for none. -/
def State.partOf (s : State) (a : Nat) : Nat := ((s.parts.find? fun p => p.holds a 1).map (·.part)).getD 0xFF

/-- A denial is counted, and latched where VIOL is clear (R379): 0 host read, 1 host write, 2 feed data, 3 feed fence. -/
def State.deny (src a : Nat) (s : State) : State :=
  let p := s.partOf a
  s.onMemc fun m =>
    let m := { m with denials := satAdd 0xFFFF m.denials 1, deniedInFrame := true }
    if m.viol then m else { m with viol := true, violSrc := src, violPart := p, violAddr := a / 64 }

/-- DRAM address of a BAR2 offset (R362). -/
def State.bar2Addr (s : State) (off : Nat) : Nat := s.fld Reg.MEMC_BAR2_BASE 13 0 * 1048576 + off

/-- BAR2_READ (R362, R365, R377, R379). -/
def State.bar2Read (off len : Nat) (s : State) : State :=
  if !s.host.linkUp then s
  else if s.host.d3hot then s.emit .unsupported
  else
    let a := s.bar2Addr off
    if !s.permitted a len 0 then (s.deny 0 a).emit (.bar2Read (List.replicate len 0xFF#8) false)
    else
      let good := s.dramGood a len
      let t := s.emit (.bar2Read (s.dramRead a len) (!good))
      if good then t else t.dramUncorr 15 0 a

/-- BAR2_WRITE: a word covered in part that reads uncorrectable keeps its mark, and is reported (R377). -/
def State.bar2Write (off : Nat) (data : Bytes) (s : State) : State :=
  if !s.host.linkUp then s
  else if s.host.d3hot then s.emit .unsupported
  else
    let a := s.bar2Addr off
    if !s.permitted a data.length 1 then s.deny 1 a
    else
      let t := s.dramWrite a data
      let bad := t.dramBad.filter fun w => decide (a / 8 ≤ w) && decide (w * 8 < a + data.length) && decide (0 < data.length)
      forEach bad (fun w t => t.dramUncorr 15 0 (w * 8)) t

/-- The FIREWALL fault of the frame that has ended (R379). -/
def State.firewallTick (s : State) : State :=
  if s.memc.deniedInFrame then (s.onMemc fun m => { m with deniedInFrame := false }).raise 10 s.memc.violPart else s

/-! ### Self-refresh, training, refresh, scrubbing (16 R375 to R378) -/

/-- The latency tolerance that a churn reports, in µs: 0 in the header pass, the time to the tick once its last line has ended,
the most where it composes nothing; `open'` in between, where it rests on how far the fetchers have run ahead (05 R96, 06 R144). -/
def State.churnTolerance (open' : Nat) (s : State) (n : TileId) : Nat :=
  let past := s.timing.pastCut || decide (s.lineStart n (s.tileEntry n).height ≤ s.lamp)
  if !(s.churn n).composing then 1023
  else if past then min 1023 ((s.nextTick - s.lamp) / 100)
  else if s.lamp < s.timing.lastTick + 1000 then 0
  else min 1023 open'
/-- MIN_TOL: the smallest tolerance reported (16 R378). -/
def State.minTolerance (open' : Nat) (s : State) : Nat :=
  tileIds.foldl (fun m n => min m (s.churnTolerance open' n)) s.skimTolerance

def State.enterTol (s : State) : Nat := max 2 (s.fld Reg.MEMC_SR_CFG 15 8)
/-- SELF_REFRESH_ENTRY: where SR_EN is 1 and MIN_TOL is at least ENTER_TOL. `minTol` is the least tolerance of the churns that
compose lines now. -/
def State.selfRefreshEntry (minTol : Nat) (s : State) : State :=
  if s.memc.srSince.isSome || !s.memc.trained || !s.bit Reg.MEMC_SR_CFG 0 || decide (s.minTolerance minTol < s.enterTol) then s
  else s.onMemc fun m => { m with srSince := some s.lamp, minTol := minTol, srEntries := (m.srEntries + 1) % 65536 }
/-- SELF_REFRESH_EXIT. -/
def State.selfRefreshExit (minTol : Nat) (s : State) : State := match s.memc.srSince with
  | some t => s.onMemc fun m => { m with srSince := none, minTol := minTol, srCounts := m.srCounts + (s.lamp - t) }
  | none => s

/-- DRAM_TRAINING_DONE at BOOT (R376); a configuration that R375 does not permit fails. -/
def State.trainingDone (r : Option TrainResult) (s : State) : State :=
  if s.dev.state ≠ .boot ∨ s.memc.trained = true then s
  else match r with
    | some x =>
      if x.sizeGib = 2 ∨ x.sizeGib = 4 ∨ x.sizeGib = 8 ∨ x.sizeGib = 16 then
        s.onMemc fun m => { m with trained := true, rate := x.rate.val, ranks := b2n x.twoRanks, sizeGib := x.sizeGib }
      else s
    | none => s

/-- DRAM_REFRESH_RATE_READ (R375). -/
def State.refreshRead (l : List Nat) (s : State) : State := if s.memc.trained then s.onMemc fun m => { m with refresh := l } else s

/-- PATROL_SCRUB: SRAM is scrubbed always, DRAM while EN is 1 (01 R21; 16 R377). -/
def State.patrolScrub (f : ScrubFinding) (s : State) : State :=
  if s.dev.state = .off then s
  else match f with
    | .sramCorrected r => s.raise 6 r.val
    | .sramUncorrectable r => s.raise 7 r.val
    | .corrected a =>
      if s.bit Reg.MEMC_SCRUB 0 ∧ a < s.dataSpace then (s.onMemc fun m => { m with eccCorr := satAdd 0xFFFF m.eccCorr 1 }).raise 8 0xF2 else s
    | .uncorrectable a =>
      if s.bit Reg.MEMC_SCRUB 0 ∧ a < s.dataSpace then
        { s with dramBad := if s.dramBad.contains (a / 8) then s.dramBad else s.dramBad ++ [a / 8] }.dramUncorr 15 2 a
      else s
    | .passDone => if s.bit Reg.MEMC_SCRUB 0 then s.onMemc fun m => { m with scrubPasses := satAdd 0xFFFF m.scrubPasses 1 } else s

end Sys2Proof.Machine
end

