-- ==== Sys2Proof/Machine/Redeal.lean ====
section
/-! DEFINITION. A Deal comes into force: DEAL_LOAD, verification, the power domains, and the live re-deal of a group
(02 R43 to R47; 17 R385, R386, R389; 15 R343; 14 R334). -/

namespace Sys2Proof.Machine

open Sys2Proof

/-! ### Host memory a command reads (16 R364, R435) -/

/-- The outcome of a host read: `none` while it must wait, `some none` where it fails. -/
def State.hostAnswer (r : HostRead) (s : State) : Option HostRead :=
  if !s.host.linkUp then some none else if !s.hostReady then none else some r

/-! ### Power domains (17 R385, R386) -/

/-- Domains that are on, by the bits of DOMAIN_EN; all but HOST, CHURN and LINK are on whatever the Deal (02 R39). -/
def State.domainsOn (s : State) : Nat := match s.dev.state with
  | .off => 0
  | .pasteurise => 0x7FFF
  | .boot | .undealt => 0x7F
  | .dealt | .lit | .hold | .safeLight | .fatal => (s.theDeal.map (·.domainEn)).getD 0x7F ||| 0x7B

/-- The tiles of a group. -/
def groupTiles (g : Nat) : List TileId := tileIds.filter fun n => decide (groupOf n = g)

/-- CHURN_g is off: its registers and SRAM are lost. -/
def State.churnOff (g : Nat) (s : State) : State :=
  forEach (groupTiles g) (fun n s =>
    { s with churns := s.churns.set n {}, phots := s.phots.set n {} }.resetRegs (0x100000 + 0x10000 * n.val) (0x110000 + 0x10000 * n.val)) s

/-- LINK_g is off. -/
def State.linkDomainOff (g : Nat) (s : State) : State :=
  forEach (groupTiles g) (fun n s =>
    ({ s with ports := s.ports.set n {}, diags := s.diags.set n {} }.resetRegs (0x200000 + 0x10000 * n.val)
      (0x210000 + 0x10000 * n.val)).resetLedger n) s

/-- The domains follow the state and the Deal: one that is off loses READY and what it holds. -/
def State.applyDomains (s : State) : State :=
  let on := s.domainsOn
  let s := s.onPower fun p => { p with ready := p.ready &&& BitVec.ofNat 15 on }
  let s := forEach (List.range 4) (fun g s =>
    let s := if bitAt on (7 + g) then s else s.churnOff g
    if bitAt on (11 + g) then s else s.linkDomainOff g) s
  if bitAt on 2 || !s.host.linkUp then s else s.linkOff

/-- A domain that is on has cleared its SRAM and registers (R386). -/
def State.domainReady (d : Fin 15) (s : State) : State :=
  if bitAt s.domainsOn d.val then s.onPower fun p => { p with ready := p.ready ||| (1#15 <<< d.val) } else s

/-- A lit set that has become empty takes the device to DEALT (03 R50, R51). -/
def State.litCheck (s : State) : State :=
  if s.dev.state.isLitFamily && decide (s.dev.litSet = 0) then (s.setDevState .dealt 0x0F).abortIllegal else s

/-! ### What a new Deal changes (02 R47; 05 R106, R109; 08 R183; 11 R255; 15 R343) -/

/-- Entries of a Deal that may be absent. -/
def dealTile (d : Option Deal) (n : Nat) : TileEntry := (d.map (·.tile n)).getD {}
def dealSlot (d : Option Deal) (c sl : Nat) : Option SlotEntry := d.bind (·.slotEntry c sl)
def dealLoop (d : Option Deal) (l : Nat) : Option LoopEntry := d.bind (·.loopEntry l)
def dealFallback (d : Option Deal) (n : Nat) : Option FallbackEntry := d.bind (·.fallbacks.find? fun f => f.tile = n)

/-- A slot whose entry changes loses its surface, and its pending operation completes ABORTED (R47 step 2); with slot 0, a
pending TRUMP_SELECT that names the tile (05 R106). -/
def State.redealSlot (n : TileId) (sl : Fin 8) (s : State) : State :=
  let s := s.abortSlotOp n sl 5
  let s := if sl = 0 then forEach (s.trumpSels.filter fun t => bitAt t.mask n.val) State.abortTrumpSel s else s
  let s := match (s.churn n).layer sl with
    | some L => if sl = 0 then s else s.retire n sl L 6
    | none => s
  s.onChurn n fun c => { c.setLayer sl none with
    trump := if sl = 0 then none else c.trump
    page := if sl = 0 then 0 else c.page }

/-- A running admission ends: its command completes ABORTED, and its parcels are tracked no more. -/
def State.dropAdmission (n : TileId) (s : State) : State := match (s.port n).admission with
  | none => s
  | some a =>
    let s := s.onPort n fun p => { p with admission := none, tracks := p.tracks.filter (!·.admits) }
    match a.ref with
    | some c => s.completeWith c .aborted
    | none => s

/-- A port that is declared empty: its receivers are off, and its tile is not seen (R48). -/
def State.portOff (n : TileId) (s : State) : State :=
  ((s.dropAdmission n).setTileState n 0 5).onPort n fun p => { p with
    lockA := false, lockB := false, retLock := false, readmit := false }

/-- The retire handshake of a re-deal begins (R47 step 3). A retirement already running goes on, with the re-deal's word on
whether the tile is admitted again. The admission of a tile that is being admitted ends (log 90): it retires where it has
answered ADMIT, and is admitted again under its new entry. A port whose tile was not admitted and is no longer declared
goes off. -/
def State.redealRetire (n : TileId) (readmit : Bool) (s : State) : State :=
  let p := s.port n
  if p.retirement.isSome then s.onPort n fun p => { p with retirement := p.retirement.map fun r => { r with readmit := readmit } }
  else if p.admitted then s.onPort n fun p => { p with retirement := some ⟨none, 1, 0, readmit⟩ }
  else
    let again := p.admission.isSome && readmit
    let s := s.dropAdmission n
    if p.admission.any (·.acked) then
      (s.onPort n fun p => { p with retirement := some ⟨none, 3, 0, again⟩ }).control n 6 0 []
    else if readmit then s.onPort n fun p => { p with readmit := p.readmit || again }
    else s.portOff n

/-- A tile of the group (R47 step 3): another tile, or none, retires; a changed fallback pattern is sent, and changed mirror
bits, PHASE_SLOT and HOLD_FRAMES go in an ADMIT parcel that starts no admission (log 90). -/
def State.redealTile (old : Option Deal) (new : Deal) (n : TileId) (s : State) : State :=
  let a := dealTile old n
  let b := new.tile n
  let retires := a.present && (!b.present ||
    decide (a.type ≠ b.type ∨ a.width ≠ b.width ∨ a.height ≠ b.height ∨ a.serial ≠ b.serial))
  let s := if retires then s.redealRetire n b.present else s
  let set := decide (a.mirrorX ≠ b.mirrorX ∨ a.mirrorY ≠ b.mirrorY ∨ a.phaseSlot ≠ b.phaseSlot ∨ a.holdFrames ≠ b.holdFrames)
  let s := if !retires && set && (s.port n).admitted && (s.port n).retirement.isNone then s.control n 5 0 (s.admitPayload n) else s
  let s := if b.present then s else s.onDev fun d => { d with litSet := d.litSet &&& ~~~(1#16 <<< n.val) }
  let s := if retires || decide (a.calPart ≠ b.calPart) then
      (s.dropCalJob n .aborted).onPhot n fun p => { p with cal := none, calStep := 0 }
    else s
  if !retires && (s.port n).admitted && decide (dealFallback old n ≠ dealFallback (some new) n) then s.sendFallbackSet n else s

/-- A loop whose entry changes starts afresh at the next sample tick; one that is removed stops (R47 step 4; 11 R255). Until a
changed loop starts, its output codes carry their defaults (DESIGN CHOICE, log 103). -/
def State.redealLoop (new : Deal) (l : LoopId) (s : State) : State :=
  if (new.loopEntry l).isSome then s.onLoop l fun lp => { lp with started := false }
  else (s.abortLoop l).onLoop l fun lp => { vp := lp.vp }

/-- Pot and probe ledgers at their initial values, and the port's credits at theirs: none in flight (01 R26, log 63). -/
def State.resetTileLedgers (n : TileId) (s : State) : State :=
  (s.onPhot n fun p => { p with
    ledger := {}, debt := 0, debtCuts := 0, persisted := false, added := 0, subtracted := 0, scheduled := 0, frameCharge := 0 }).onPort n
    fun p => if p.blind then p else p.landCredits

/-- Enabled local rings that the new partitions do not hold stop (03 R57). -/
def State.checkLocalRings (s : State) : State :=
  forEach ringIds (fun r s => let x := s.ring r
    if x.enable && x.isLocal && !s.localRingOk x then s.stopRing true r else s) s

/-- The partitions to pasteurise before the next BOOT (17 R388). -/
def Deal.privateParts (d : Deal) : List (Nat × Nat) := (d.parts.filter fun p => p.access = 0).map fun p => (p.base, p.size)

/-- What the groups `gs` take from the new Deal, which is in force already. -/
def State.takeGroups (old : Option Deal) (new : Deal) (gs : List Nat) (s : State) : State :=
  let ns := tileIds.filter fun (n : TileId) => gs.contains (groupOf n)
  let s := forEach ns (fun n s => forEach slotIds (fun sl s =>
    if dealSlot old n sl = new.slotEntry n sl then s else s.redealSlot n sl) s) s
  let s := forEach ns (fun n s => (s.redealTile old new n).resetTileLedgers n) s
  (s.refreshScalers).checkLocalRings

/-! ### A Deal comes into force (R44, R45; 17 R389; 04 R88) -/

/-- An undecided TIMING_SET completes ABORTED (04 R88). -/
def State.abortRetime (s : State) : State := match s.timing.retime with
  | some r => if r.decided.isNone then
      let s := s.dropRetime
      match r.ref with
      | some c => s.completeWith c .aborted
      | none => s
    else s
  | none => s

/-- A Deal comes into force from flash (1 slot A, 2 slot B) or by DEAL_LOAD (3). The first one since power-on has its
private partitions wiped. A verified re-deal that waits for its cut goes on waiting (DESIGN CHOICE, log 102). -/
def State.dealInForce (d : Deal) (source : Nat) (s : State) : State :=
  let old := s.theDeal
  let s := if s.deal.firstPending then forEach d.privateParts (fun p s => s.dramWipe p.1 p.2) s else s
  let s := s.abortRetime
  let s := s.onDeal fun x => { x with
    inForce := some d, source := source, firstPending := false, privateRanges := d.privateParts }
  let s := s.takeGroups old d (List.range 4)
  let s := { s with pot := { s.pot with ledger := {}, debt := 0 } }
  let s := forEach loopIds (State.redealLoop d) s
  let s := forEach ((List.range 383).map (· + 1)) State.loadSource s
  let s := if (old.map (·.role)).getD 0 = d.role then s else forEach tileIds State.resetLedger s
  let s := (s.enterModes old d).onTiming fun t => { t with takeUp := true }
  let s := s.onPartner fun p => { p with waitFrames := if d.role ≠ 0 ∧ p.laneLock ≠ 3 then some 0 else none }
  s.onDev fun x => { x with auditOn := false }

/-- The device enters DEALT with a Deal just put in force; its domains follow. -/
def State.enterDealt (cause : Nat) (s : State) : State :=
  (if s.dev.state = .dealt then s else s.setDevState .dealt cause).applyDomains

/-! ### DEAL_LOAD and REDEAL_GROUP (R45, R46) -/

/-- DEAL_LOAD from step 5 on. -/
def dealLoadBody : Body := fun c ref s =>
  checked [(8, 8), (16, 4)] [] c ref
    (fun s => (s.accept ref).onDeal fun d => { d with jobs := d.jobs ++ [⟨ref, none, par c 8 8, par c 16 4⟩] }) s

/-- REDEAL_GROUP from step 5 on. -/
def redealGroupBody : Body := fun c ref s =>
  let busy := s.deal.redeal.isSome || s.deal.jobs.any (·.group.isSome)
  checked [(8, 8), (16, 4), (20, 1)] [(decide (3 < par c 20 1), .invalid, 20), (busy, .busy, 0xFF)] c ref
    (fun s => (s.accept ref).onDeal fun d => { d with jobs := d.jobs ++ [⟨ref, some (par c 20 1), par c 8 8, par c 16 4⟩] }) s

/-- The status of an image for a job (R43, R46). -/
def State.judgeImage (s : State) (j : DealJob) (b : Bytes) : Status :=
  let v := verifyDeal s b j.len (j.group.isSome || decide (s.dev.state = .dealt))
  match v, j.group, s.theDeal with
  | .ok, some g, some old => if redealOk old (parseDeal b) g then .ok else .invalid
  | v, _, _ => v

/-- DETAIL of a failed verification: LENGTH where the image's own size differs from it, no field otherwise. -/
def imageDetail (j : DealJob) (b : Bytes) (st : Status) : Nat := if st = .invalid ∧ rd b 8 4 ≠ j.len then 16 else 0xFF

/-- In a locked pair: both images are verified and pair up; the later verification counts (14 R334). -/
def State.pairRedeal (s : State) : State := match s.deal.redeal, s.partner.redealReady with
  | some r, some p =>
    if !r.paired && decide (s.partner.state = 2 ∧ p = (r.group, r.deal.matchDigest)) then
      s.onDeal fun d => { d with redeal := some { r with paired := true, verified := s.lamp } }
    else s
  | _, _ => s

/-- The primary names the frame whose cut is C, once no TIMING_SET is in progress. -/
def State.nameCut (s : State) : State := match s.deal.redeal with
  | some r =>
    if r.paired && s.lockedPrimary && s.partner.redealCut.isNone && s.timing.retime.isNone && s.timing.started &&
        !s.timing.pastCut then
      let at0 := max (r.verified + msCounts 1) (s.lamp + usCounts 500)
      let f := if at0 ≤ s.cutAt then s.frame else s.nextFrame
      (s.onPartner fun p => { p with redealCut := some f }).emit (.partner (.redealCut f))
    else s
  | none => s

/-- DEAL_VERIFY_DONE: the firmware has verified the oldest image that waits (R43, R45, R46). -/
def State.dealVerifyDone (image : HostRead) (s : State) : State :=
  match s.deal.jobs with
  | [] => s
  | j :: rest =>
    if s.power.absent then s
    else match s.hostAnswer image with
      | none => s
      | some r =>
        let s := s.onDeal fun d => { d with jobs := rest }
        match r with
        | none => s.completeWith j.ref .timeout
        | some b =>
          let st := s.judgeImage j b
          let s := s.onDeal fun d => { d with lastResult := st.code }
          let d := parseDeal b
          if st ≠ .ok then s.complete j.ref st (imageDetail j b st) 0
          else match j.group with
            | none => ((s.dealInForce d 3).enterDealt 0x05).completeOk j.ref d.seq
            | some g =>
              let s := s.onDeal fun x => { x with redeal := some ⟨j.ref, g, d, s.lamp, false, false⟩ }
              if s.partner.state = 2 then ((s.emit (.partner (.redealReady g d.matchDigest))).pairRedeal).nameCut else s

/-! ### Cut C (R47; 14 R334) -/

/-- The present cut is C. -/
def State.redealDue (s : State) : Option Redeal := s.deal.redeal.filter fun r =>
  !r.taken && s.timing.retime.isNone && decide (s.dev.state = .dealt ∨ s.dev.state = .lit) &&
  (if s.partner.state = 2 then r.paired && decide (s.partner.redealCut = some s.frame) else decide (r.verified + msCounts 1 ≤ s.lamp))

/-- The group's sources take their new entries (15 R343). -/
def groupSources (g : Nat) : List Nat := ((List.range 383).map (· + 1)).filter fun src => decide ((sourceTile src).map groupOf = some g)

/-- The re-deal happens at this cut; an empty lit set takes the device to DEALT (03 R50). -/
def State.redealAt (r : Redeal) (s : State) : State :=
  let old := s.theDeal
  let new := r.deal
  let s := s.onDeal fun d => { d with
    inForce := some new, source := 3, privateRanges := new.privateParts, redeal := some { r with taken := true } }
  let s := s.onPartner fun p => { p with redealCut := none, redealReady := none }
  let s := s.takeGroups old new [r.group]
  let s := forEach (loopIds.filter fun (l : LoopId) => decide (dealLoop old l ≠ new.loopEntry l)) (State.redealLoop new) s
  let s := forEach (groupSources r.group) State.loadSource s
  let s := s.applyDomains
  s.litCheck

/-- The cut's part in a re-deal. Answers the group whose ledgers are not audited at this cut (01 R26). -/
def State.redealCut (s : State) : State × Option Nat := match s.redealDue with
  | some r => (s.redealAt r, some r.group)
  | none => (s, none)

/-- The tick after C: the command completes OK. -/
def State.redealTick (s : State) : State := match s.deal.redeal with
  | some r => if r.taken then (s.onDeal fun d => { d with redeal := none }).completeOk r.ref s.nextFrame else s
  | none => s

end Sys2Proof.Machine
end

