-- ==== Sys2Proof/Machine/StateCmd.lean ====
section
/-! DEFINITION. State commands, the waits of step 3, and SURFACE_COPY_IN (03 R50 to R54, R66, R73; 06 R135). -/

namespace Sys2Proof.Machine

open Sys2Proof

/-! ### LIGHT, DARKEN, HOLD, RESUME (R51, R53, R54; 09 R434) -/

/-- A state command waits for its cut. -/
def State.acceptState (ref : CmdRef) (mask : Nat) (s : State) : State :=
  (s.accept ref).onDev fun d => { d with stateCmd := some ⟨ref, mask⟩ }

/-- LIGHT from step 4 on: every named tile is ADMITTED. -/
def lightBody : Body := fun c ref s =>
  let m := par c 8 2
  if (maskTiles m).any (fun n => decide ((s.port n).state ≠ 2)) then s.completeWith ref .state
  else checked [(8, 2)] [(decide (m = 0), .invalid, 8)] c ref (State.acceptState ref m) s

/-- DARKEN from step 4 on: every named tile is in the lit set. -/
def darkenBody : Body := fun c ref s =>
  let m := par c 8 2
  if (maskTiles m).any (fun n => !s.inLit n) then s.completeWith ref .state
  else checked [(8, 2)] [(decide (m = 0), .invalid, 8)] c ref (State.acceptState ref m) s

/-- HOLD from step 5 on. -/
def holdBody : Body := fun c ref s => checked [] [] c ref (State.acceptState ref 0) s

/-- RESUME from SAFE_LIGHT needs no latched class U or F fault and a die below 110 °C (R53). -/
def State.mayResume (s : State) : Bool :=
  decide (s.dev.state ≠ .safeLight) ||
  (decide (countClass s.faults.pend 3 = 0 ∧ countClass s.faults.pend 4 = 0) && decide (s.house.therm.hottest < 1100))

/-- RESUME from step 4 on. -/
def resumeBody : Body := fun c ref s =>
  if !s.mayResume then s.completeWith ref .state else checked [] [] c ref (State.acceptState ref 0) s

/-- What a state command does at its cut (R50). -/
def State.stateEffect (op mask : Nat) (s : State) : State :=
  let m : BitVec 16 := BitVec.ofNat 16 mask
  let s := match op with
    | 5 =>
      let s := s.onDev fun d => { d with litSet := d.litSet ||| m }
      -- a tile that LIGHT names leaves LS2 at once (09 R229)
      let s := forEach (maskTiles mask) (fun n s => (s.onPort n fun p => { p with dark := false }).ls2Leave n) s
      if s.dev.state = DevState.dealt then State.setDevState .lit 0x06 s else s
    | 6 =>
      let s := s.onDev fun d => { d with litSet := d.litSet &&& ~~~m }
      forEach (maskTiles mask) (fun n s => s.onPort n fun p => { p with dark := p.admitted || p.blind }) s
    | 7 => State.setDevState .hold 0x07 s
    | _ => State.setDevState .lit 0x08 s
  s.litCheck.abortIllegal

/-- The waiting state command takes effect at the cut and completes (R54). -/
def State.stateCut (s : State) : State := match s.dev.stateCmd with
  | some c => ((s.onDev fun d => { d with stateCmd := none }).completeOk c.ref s.nextFrame).stateEffect c.ref.opcode c.mask
  | none => s

/-! ### Unknown opcodes and the waits of step 3 (R66, R73) -/

/-- UNKNOWN_OPCODE: a submission that step 1 turns away. Any other is not this row's. -/
def State.unknownOpcode (op : Nat) (q : Submission) (s : State) : State :=
  if (headerFault op q.cmd).isNone then s else s.dealerRun op q fun _ _ s => s

/-- The waiting command may go on: its host read can be made, or its waits are met and, for a state command, none is
accepted and still waits for its cut (R54, R73). -/
def State.mayRelease (s : State) (r : RingId) (w : WaitingCmd) : Bool :=
  if w.reading then !s.host.linkUp || s.hostReady
  else s.waitsMet r w.cmd && !(isStateCmd w.ref.opcode && s.dev.stateCmd.isSome)

/-- A command whose wait is met is checked from step 4 on, with its place in the order of acceptance (R72); `body` is its
opcode's. One that waited at its host read goes on from there. -/
def State.waitRelease (r : RingId) (body : Nat → Body) (s : State) : State := match (s.ring r).waiting with
  | some w =>
    if !s.mayRelease r w then s
    else
      let t := s.onRing r fun x => { x with waiting := none }
      if w.reading then body w.ref.opcode w.cmd w.ref t
      else
        let ref := { w.ref with id := s.dealer.nextId }
        (t.onDealer fun d => { d with nextId := d.nextId + 1 }).dealerCheck ref.opcode w.cmd ref (body ref.opcode)
  | none => s

/-- A command that has waited 1,000 ms completes TIMEOUT. -/
def State.waitTimeout (r : RingId) (s : State) : State := match (s.ring r).waiting with
  | some w =>
    if w.reading || s.waitsMet r w.cmd then s
    else ((s.advanceTo (w.since + msCounts 1000)).onRing r fun x => { x with waiting := none }).completeWith w.ref .timeout
  | none => s

/-! ### SURFACE_COPY_IN (06 R135) -/

/-- SURFACE_COPY_IN from step 5 on. -/
def surfaceCopyBody : Body := fun c ref s =>
  let len := par c 24 4
  let part := (s.partEntry (par c 28 1)).filter fun p => decide (p.kind = 1 ∨ p.kind = 2)
  checked [(8, 8), (16, 8), (24, 4), (28, 1)]
    [(decide (par c 8 8 % 64 ≠ 0), .invalid, 8), (decide (par c 16 8 % 64 ≠ 0), .invalid, 16),
     (!decide (64 ≤ len ∧ len ≤ 67108864 ∧ len % 64 = 0), .invalid, 24), (part.isNone, .range, 28),
     (!(part.any fun p => p.holds (par c 16 8) len), .range, 16), (decide (16 ≤ s.dealer.copies.length), .noresource, 0xFF)] c ref
    (fun s => (s.accept ref).onDealer fun d => { d with copies := d.copies ++ [⟨ref, par c 8 8, par c 16 8, len, s.lamp⟩] }) s

/-- The oldest copy ends with a status; the bytes that arrived are in DRAM. -/
def State.copyEnd (j : CopyJob) (data : Bytes) (st : Status) (s : State) : State :=
  ((s.onDealer fun d => { d with copies := d.copies.tail }).dramWrite j.dst (data.take j.len)).completeWith j.ref st

/-- SURFACE_COPY_DONE: the last byte of the running copy reaches DRAM. The host must answer, and answer all of it. -/
def State.copyDone (data : Bytes) (s : State) : State := match s.dealer.copies with
  | j :: _ => if s.hostReady && decide (data.length = j.len) then s.copyEnd j data .ok else s
  | [] => s

/-- SURFACE_COPY_TIMEOUT: what arrived stays written. -/
def State.copyTimeout (arrived : Bytes) (s : State) : State := match s.dealer.copies with
  | j :: _ => s.copyEnd j arrived .timeout
  | [] => s

end Sys2Proof.Machine
end

