-- ==== Sys2Proof/Machine/Power.lean ====
section
/-! DEFINITION. Power, resets, PASTEURISE, the boot, the life cycle, the firmware, the end of a dump and the check-value
units (17; 03 R50, R55; 02 R44; 12 R295). -/

namespace Sys2Proof.Machine

open Sys2Proof

/-! ### OFF and the resets (R387, R390; 03 R50; 19 R420) -/

/-- Every transmit lane that was driven enters electrical idle (R390). -/
def State.idleLanes (s : State) : State :=
  forEach (tileIds.filter fun n => s.portOn n) (fun n s =>
    forEach s.chipLanes (fun l s => if (s.port n).pwr l = 0 then s.emit (.laneIdle n l true) else s) s) s

/-- What outlives a loss of power: the model's own fields, the eFuses and flash marks, and the tiles, which are apart. -/
def State.powerless (s : State) : State :=
  { State.reset with
    pending := s.pending, outbox := s.outbox, freeSeq := s.freeSeq, tiles := s.tiles, pins := s.pins
    power := { State.reset.power with efuse := s.power.efuse, efuseShown := s.power.efuse, marked := s.power.marked } }

/-- The device enters OFF at once (03 R50). A partnered chip that loses supply first sends a FATAL notice, where a lane of
the partner link is up (14 R336). -/
def State.enterOff (supply : Bool) (s : State) : State :=
  if s.dev.state = .off then s
  else
    let t := if supply && decide (s.role ≠ 0 ∧ s.partner.laneLock ≠ 0) then s.emit (.partner .fatal) else s
    let t := t.idleLanes.syncLow
    let t := if s.faults.pinFault || !s.pins.driven then t else t.emit (.faultPins false)
    let lamp := t.lamp
    let dev : Dev := { state := .off }
    { t.powerless with lamp := lamp, dev := dev }

/-- RST_N or PWR_OK goes low. -/
def State.powerOff (pin : OffPin) (s : State) : State :=
  let s := s.enterOff (decide (pin = .pwrOk))
  match pin with
  | .rstN => { s with pins := { s.pins with rstN := false } }
  | .pwrOk => { s with pins := { s.pins with pwrOk := false } }

/-- Both fault drivers off: VDD_AON is outside its limits (14 R322). -/
def State.undrivePins (s : State) : State :=
  if s.pins.driven then { s with pins := { s.pins with driven := false }, outbox := s.outbox ++ [.faultPinsOff] } else s

/-- The test access port loses a supply it needs (19 R427). -/
def State.tapOff (s : State) : State := { s with pins := { s.pins with tap := { on := false } } }

/-- BROWN_OUT: a rail has the effect of PWR_OK falling (19 R420). Without VDD_AON the fault pins are not driven, and without
either rail the test access port does not work. -/
def State.brownOut (rail : CoreRail) (s : State) : State := match rail with
  | .core => (s.enterOff true).tapOff
  | .aon => (s.undrivePins.enterOff true).tapOff

/-- A tile's times follow the lamp clock, which starts again at 0 (04 R86). -/
def Tile.shift (by' : Nat) (t : Tile) : Tile :=
  { t with lastTick := t.lastTick - by', rephaseEnd := t.rephaseEnd.map (· - by') }

/-- PWR_OK and RST_N are both high: every value starts from reset (R387). -/
def State.powerOn (straps : BitVec 2) (s : State) : State :=
  if s.dev.state ≠ .off then s
  else
    let t := if s.pins.driven then s else s.emit (.faultPins false)
    let pins : Pins := { rstN := true, pwrOk := true, straps := straps, tap := if s.pins.tap.on then s.pins.tap else {} }
    { t.powerless with pins := pins, tiles := s.tiles.map (Tile.shift s.lamp) }

/-- Loss of the reference or of a PLL (R405). -/
def State.clkFail (src : ClockSource) (s : State) : State :=
  if s.dev.state = .off then s
  else match src with
    | .reference => (s.onPower fun p => { p with refOk := false }).raise 13 0
    | .churnPll => (s.onPower fun p => { p with churnLock := false }).raise 13 1
    | .fabricPll => (s.onPower fun p => { p with fabricLock := false }).raise 13 2

/-- Register offsets whose content a device reset keeps: TICK, FLT, and AUTO_RESET of PWR (R387). -/
def keptOffset (o : Nat) : Bool :=
  (decide (0x010000 ≤ o) && decide (o < 0x020000)) || (decide (0x050000 ≤ o) && decide (o < 0x060000)) || decide (o = Reg.PWR_DUMP_CFG)

/-- The timing generator goes on; a TIMING_SET that CUT(k) has not decided ends (04 R79, R93; 03 R55). -/
def Timing.throughReset (t : Timing) : Timing :=
  let go := t.retime.filter fun r => r.decided.isSome
  let ended := t.retime.any fun r => r.decided.isNone && decide (r.rate ≠ t.rate)
  { t with
    retime := go.map fun r => { r with ref := none }
    lastResult := if ended then 3 else t.lastResult
    takeUp := false, tsBusyUntil := 0 }

/-- What PWR keeps, and eFuse as it is read at the reset (R388, R393, R395, R405). -/
def Power.throughReset (kind lamp : Nat) (p : Power) : Power :=
  { State.reset.power with
    resetKind := kind, resetCount := satAdd 0xFFFF p.resetCount 1, pasteStart := lamp, lastMs := p.lastMs
    efuse := p.efuse, efuseShown := p.efuse, marked := p.marked, active := p.active, firstStart := p.firstStart
    absentSince := lamp, wdogSince := lamp, refOk := p.refOk, churnLock := p.churnLock, fabricLock := p.fabricLock }

/-- The memory controller's training (R387; 16 R376). -/
def MemCtl.throughReset (m : MemCtl) : MemCtl :=
  { trained := m.trained, rate := m.rate, ranks := m.ranks, sizeGib := m.sizeGib, refresh := m.refresh }

/-- A device reset of a kind: PASTEURISE is entered at once, and every block is reset but for what R387 excepts. The lanes
and SYNC_OUT go idle (R390; 19 R421). -/
def State.deviceReset (kind cause : Nat) (s : State) : State :=
  let s := s.idleLanes.syncLow
  let dev : Dev := { state := .pasteurise, prev := s.dev.state.code, cause := cause }
  let deal : DealStore := { firstPending := s.deal.firstPending, privateRanges := s.deal.privateRanges }
  let host : HostPort := { linkUp := s.host.linkUp, speed := s.host.speed, width := s.host.width }
  let house : House := { State.reset.house with base := s.lamp }
  let accent : Accent := { State.reset.accent with fadeAt := s.lamp }
  let faults : Faults := { s.faults with safeDue := none, fatalDue := none, localGroups := 0, localNext := 0, localFrame := 0 }
  { State.reset with
    pending := s.pending, lamp := s.lamp, freeSeq := s.freeSeq, outbox := s.outbox, pins := s.pins, tiles := s.tiles
    regs := s.regs.filter fun e => keptOffset e.1
    rws := s.rws.filter fun e => keptOffset e.1
    dram := s.dram, dramBad := s.dramBad
    timing := s.timing.throughReset
    memc := s.memc.throughReset
    power := s.power.throughReset kind s.lamp
    dev := dev, deal := deal, host := host, house := house, accent := accent, faults := faults }

/-- A write to PWR_RESET (R405). -/
def State.writePwrReset (v : Nat) (s : State) : State :=
  if v % 2 = 1 ∧ bitsOf v 31 16 = 0x5EA5 then s.deviceReset 1 0x01 else s

/-! ### PASTEURISE and BOOT (R388, R389; 02 R44) -/

/-- Bytes that PASTEURISE wipes in DRAM. -/
def State.privateBytes (s : State) : Nat := s.deal.privateRanges.foldl (fun a r => a + r.2) 0
/-- The longest PASTEURISE in lamp counts: 2 ms and the DRAM wipe at 25.6 GB/s, at most 0.7 s. -/
def State.pasteuriseLimit (s : State) : Nat := min 70000000 (msCounts 2 + s.privateBytes / 256)

/-- PASTEURISE_COMPLETE: the wipe ends after a free time within the limit. -/
def State.pasteuriseComplete (s : State) : State :=
  if s.dev.state ≠ .pasteurise then s
  else
    let took := s.free % (s.pasteuriseLimit + 1)
    let s := s.useFree.advanceTo (s.power.pasteStart + took)
    let s := forEach s.deal.privateRanges (fun r s => s.dramWipe r.1 r.2) s
    let s := s.onPower fun p => { p with
      lastMs := min 0xFFFF (ceilDiv (s.lamp - p.pasteStart) 100000), churnLock := true, fabricLock := true }
    (s.setDevState .boot 0x02).applyDomains

/-- The status of a QSPI slot's image; its own size is its length (02 R44). -/
def State.judgeSlot (s : State) (slot : Bytes) : Status :=
  let size := rd slot 8 4
  verifyDeal s (slot.take size) size false

/-- BOOT_DEAL_SELECT: the valid slot with the higher DEAL_SEQ, slot A of two equal ones (02 R44). Slot B is verified after
slot A, so LAST_RESULT is slot B's (DESIGN CHOICE, log 100). -/
def State.bootDealSelect (slotA slotB : Bytes) (s : State) : State :=
  if s.dev.state ≠ .boot ∨ s.power.started.isNone then s
  else
    let a := s.judgeSlot slotA
    let b := s.judgeSlot slotB
    let da := parseDeal (slotA.take (rd slotA 8 4))
    let db := parseDeal (slotB.take (rd slotB 8 4))
    let s := s.onDeal fun d => { d with lastResult := b.code }
    if a = .ok ∧ (b ≠ .ok ∨ db.seq ≤ da.seq) then (s.dealInForce da 1).enterDealt 0x03
    else if b = .ok then (s.dealInForce db 2).enterDealt 0x03
    else (s.setDevState .undealt 0x04).applyDomains

/-! ### Firmware images and core starts (R394, R395, R398, R399, R403) -/

/-- The header of an image (R394). -/
def fwHeaderOk (b : Bytes) : Bool :=
  let size := rd b 8 4
  decide (rd b 0 4 = 0x49574651) && decide (rd b 4 2 = 1) && decide (rd b 6 2 = 128) &&
  decide (4096 ≤ size ∧ size ≤ 4194304 ∧ size % 64 = 0) && decide (rd b 12 4 = 0x51543216) && decide (rd b 20 1 ≤ 32) && allZero (slice b 21 43)

/-- The key, signature and SECURITY_VER checks of an image of a size (R394). -/
def State.fwAuthOk (s : State) (b : Bytes) : Bool :=
  let size := rd b 8 4
  let pub := slice b 64 64
  decide (sha256 pub = Config.firmwareKeyHash.toNat) &&
  ecdsaVerify (sha256 (b.take (size - 64))) pub (slice b (size - 64) 64) && decide (s.power.efuseShown.fwRb ≤ rd b 20 1)

/-- A slot of the boot flash as the boot ROM judges it (R394). One that an FW_STAGE has marked is not valid (R396). -/
def State.judgeFwSlot (s : State) (slot : Fin 2) (b : Bytes) : FwSlot :=
  let size := rd b 8 4
  let ok := fwHeaderOk b && decide (size ≤ b.length) && s.fwAuthOk (b.take size) && !s.power.marked.getLsbD slot.val
  ⟨ok, rd b 16 4, rd b 20 1⟩

/-- A slot number as an index. -/
def slotIx (n : Nat) : Fin 2 := ⟨n % 2, Nat.mod_lt _ (by decide)⟩
def Power.valid (p : Power) (n : Nat) : Bool := (p.slots.get (slotIx n)).valid

/-- The slot that a core start takes after power-on (R395). -/
def Power.firstSlot (p : Power) : Option Nat :=
  if p.valid 0 && (!p.valid 1 || decide ((p.slots.get 1).version ≤ (p.slots.get 0).version)) then some 0
  else if p.valid 1 then some 1 else none
/-- The slot that any other core start takes (R395). -/
def Power.laterSlot (p : Power) : Option Nat :=
  if p.valid p.active then some p.active else if p.valid (1 - p.active) then some (1 - p.active) else none

/-- Commands that the firmware holds: images to verify, and an FW_STAGE. A fuse operation that has begun goes on (12 R295). -/
def State.heldByFirmware (s : State) : List CmdRef :=
  s.deal.jobs.map (·.ref) ++ (s.power.stage.map (·.ref)).toList ++ (s.power.fuseJobs.filter fun j => !j.begun).map (·.ref)

/-- Aborts the commands that a restart took from the firmware (03 R55). -/
def State.abortHeld (s : State) : State :=
  let due := s.power.abortAtAlive.filter fun r => (s.ring r.ring).accepted.contains r
  forEach due (fun r s => s.completeWith r .aborted) (s.onPower fun p => { p with abortAtAlive := [] })

/-- A core restart (R387, R398, R399; 15 R433): `cause` as in the WDOG record, `next` the slot it names. A restart
while the firmware is absent does not begin a new absence. -/
def State.coreRestart (cause : Nat) (next : Option Nat) (s : State) : State :=
  let held := s.heldByFirmware
  let s := s.onDeal fun d => { d with jobs := [] }
  let s := s.onPower fun p => { p with
    stage := none, fuseJobs := p.fuseJobs.filter (·.begun), abortAtAlive := p.abortAtAlive ++ held
    absent := true, absentSince := if p.absent then p.absentSince else s.lamp, version := 0, started := none
    startDue := true, nextSlot := next, wdogSince := s.lamp }
  let s := ({ s with coreMem := [] }.resetRegs Reg.PWR_WDOG_CFG (Reg.PWR_WDOG_CFG + 4)).coreHandsRestart
  let told := match next with
    | some n => some n
    | none => s.power.laterSlot
  match told with
  | some n => s.post 0xB1 338 (le 1 cause ++ le 1 n)
  | none => (s.post 0xB1 338 (le 1 cause ++ le 1 s.free)).useFree

/-- The cores run at all: not in OFF or PASTEURISE. -/
def State.coresRun (s : State) : Bool := decide (s.dev.state ≠ .off) && decide (s.dev.state ≠ .pasteurise)

/-- The boot ROM starts a slot; ACTIVE takes it, unless an FW_SWITCH is to decide that (R397). -/
def State.startSlot (n : Nat) (s : State) : State :=
  s.onPower fun p => { p with
    started := some n, version := (p.slots.get (slotIx n)).version
    active := if p.switch.any fun w => w.failed.isNone then p.active else n }

/-- FIRMWARE_SLOT_START: `imageA` and `imageB` are the contents of the boot flash slots. -/
def State.firmwareSlotStart (imageA imageB : Bytes) (s : State) : State :=
  if !s.coresRun || !s.power.startDue then s
  else
    let a := s.judgeFwSlot 0 imageA
    let b := s.judgeFwSlot 1 imageB
    let first := s.power.firstStart
    let next := s.power.nextSlot
    let s := s.onPower fun p => { p with
      slots := (p.slots.set 0 a).set 1 b, firstStart := false, startDue := false, nextSlot := none }
    let switched := s.power.switch.any fun w => w.failed.isNone && decide (next = some w.slot)
    if switched && !(next.any s.power.valid) then
      let s := s.onPower fun p => { p with switch := p.switch.map fun w => { w with failed := some .auth } }
      s.coreRestart 3 (s.power.switch.map (·.prevActive))
    else
      let pick := if first then s.power.firstSlot
        else if next.any s.power.valid then next else s.power.laterSlot
      match pick with
      | some n => s.startSlot n
      | none => if s.dev.state = .boot then s.enterFatal 0x0E else s

/-- WATCHDOG_EXPIRY (R399). -/
def State.watchdogExpiry (s : State) : State :=
  if !s.coresRun || !s.bit Reg.PWR_WDOG_CFG 16 then s
  else ((s.advanceTo (s.power.wdogSince + msCounts (s.fld Reg.PWR_WDOG_CFG 13 0))).raise 24 0).coreRestart 1 none

/-- A core's write to PWR_WDOG_KICK (R405). -/
def State.kickWatchdog (v : Nat) (s : State) : State :=
  if bitsOf v 15 0 = 0xC0DE then s.onPower fun p => { p with wdogSince := s.lamp } else s

/-- A core's write to PWR_WDOG_CFG: PERIOD is clamped, and a watchdog that is turned on begins its period. -/
def State.writeWdogCfg (v : Nat) (s : State) : State :=
  let was := s.bit Reg.PWR_WDOG_CFG 16
  let s := (s.setFld Reg.PWR_WDOG_CFG 13 0 (max 10 (min 10000 (bitsOf v 13 0)))).setFld Reg.PWR_WDOG_CFG 16 16 (bitsOf v 16 16)
  if bitAt v 16 && !was then s.onPower fun p => { p with wdogSince := s.lamp } else s

/-- LOCKSTEP_DISAGREE (R399). -/
def State.lockstepDisagree (s : State) : State := if s.coresRun then (s.raise 25 0).coreRestart 2 none else s

/-- Whole milliseconds of the present absence. -/
def State.absenceMs (s : State) : Nat := (s.lamp - s.power.absentSince) / 100000
/-- The FIRMWARE record (R403). -/
def State.firmwareRecord (event ms : Nat) (s : State) : State :=
  s.post 0xB2 339 (le 1 event ++ zeros 3 ++ le 4 s.power.version ++ le 4 ms)

/-- A held FW_SWITCH completes when the new firmware is there, or the previous one is back after a failure (R397). -/
def State.endSwitch (s : State) : State := match s.power.switch with
  | none => s
  | some w =>
    let done := s.onPower fun p => { p with switch := none }
    match w.failed with
    | none =>
      if s.power.started = some w.slot then (done.onPower fun p => { p with active := w.slot }).completeOk w.ref s.power.version
      else s
    | some st => done.completeWith w.ref st

/-- A core's write to PWR_FW_ALIVE: the absence ends (R398, R405). -/
def State.fwAlive (v : Nat) (s : State) : State :=
  if bitsOf v 15 0 ≠ 0xA11E ∨ s.power.absent = false ∨ s.power.started.isNone then s
  else
    let ms := s.absenceMs
    let s := s.onPower fun p => { p with
      absent := false, lastAbsentMs := min 0xFFFF ms, fuseJobs := p.fuseJobs.map fun j => { j with begun := true } }
    (s.firmwareRecord 1 ms).abortHeld.endSwitch

/-- FW_ABSENCE_LIMIT: an absence has reached 60 s (R398). The cores restart from the slot that was not started last. -/
def State.fwAbsenceLimit (s : State) : State :=
  if !s.coresRun || !s.power.absent then s
  else
    let s := ((s.advanceTo (s.power.absentSince + msCounts 60000)).raise 26 0).safeLightDue 0x0B
    let s := (s.firmwareRecord 2 s.absenceMs).abortHeld
    let other := 1 - s.power.started.getD s.power.active
    let s := if s.power.valid other then s.coreRestart 4 (some other) else s
    s.onPower fun p => { p with absentSince := s.lamp }

/-- FW_SWITCH_TIMEOUT (R397). -/
def State.fwSwitchTimeout (s : State) : State := match s.power.switch with
  | some w =>
    if w.failed.isSome then s
    else
      let s := s.advanceTo (w.since + msCounts 10000)
      (s.onPower fun p => { p with switch := some { w with failed := some .timeout } }).coreRestart 3 (some w.prevActive)
  | none => s

/-! ### FW_STAGE and FW_SWITCH (R396, R397; 03 R68) -/

def State.fwBusy (s : State) : Bool := s.power.stage.isSome || s.power.switch.isSome

/-- FW_SWITCH from step 5 on. -/
def fwSwitchBody : Body := fun c ref s =>
  let n := par c 8 1
  checked [(8, 1)] [(decide (1 < n), .invalid, 8), (!s.power.valid n, .state, 0xFF), (s.fwBusy, .busy, 0xFF)] c ref
    (fun s => ((s.accept ref).onPower fun p => { p with
      switch := some ⟨ref, n, p.active, s.lamp, none⟩ }).coreRestart 3 (some n)) s

/-- The status of a staged image. -/
def State.judgeStage (s : State) (len : Nat) (b : Bytes) : Status :=
  if len ≠ rd b 8 4 ∨ b.length ≠ len ∨ fwHeaderOk b = false then .invalid else if s.fwAuthOk b then .ok else .auth

/-- FW_STAGE from step 5 on; `image` is what its read of host memory gives. The slot is marked not valid. -/
def fwStageBody (image : HostRead) : Body := fun c ref s =>
  let n := par c 8 1
  let used := [(8, 1), (16, 8), (24, 4)]
  checked used [(decide (1 < n), .invalid, 8), (decide (n = s.power.active), .range, 8)] c ref
    (State.awaitHost c ref fun s => match s.hostData image with
      | none => s.completeWith ref .timeout
      | some b =>
        let st := s.judgeStage (par c 24 4) b
        checked used [(decide (st ≠ .ok), st, 16), (s.fwBusy, .busy, 0xFF)] c ref
          (fun s => (s.accept ref).onPower fun p => { p with
            stage := some ⟨ref, n, rd b 16 4, rd b 20 1⟩
            slots := p.slots.set (slotIx n) { p.slots.get (slotIx n) with valid := false }
            marked := p.marked ||| (1#2 <<< n) }) s) s

/-- FW_STAGE_DONE: written, read back and verified. -/
def State.fwStageDone (s : State) : State := match s.power.stage with
  | some j =>
    if s.power.absent then s
    else
      (s.onPower fun p => { p with
        stage := none, slots := p.slots.set (slotIx j.slot) ⟨true, j.version, j.secVer⟩
        marked := p.marked &&& ~~~(1#2 <<< j.slot) }).completeOk j.ref j.version
  | none => s

/-! ### LIFECYCLE_ADVANCE (R391 to R393) -/

/-- Operation `i` of an authorisation. -/
def authOp (b : Bytes) (i : Nat) : FuseOp :=
  let e := slice b (128 + 40 * i) 40
  ⟨rd e 0 1, rd e 1 1, rd e 2 2, beVal (slice e 8 32)⟩
def authOps (b : Bytes) : List FuseOp := (List.range (rd b 14 1)).map (authOp b)

/-- The second check of R393: fixed fields, reserved bytes and the size. -/
def authFormOk (b : Bytes) (len : Nat) : Bool :=
  decide (rd b 0 4 = 0x41434C51) && decide (rd b 4 2 = 1) && decide (rd b 8 4 = 0x51543216) && allZero (slice b 24 40) &&
  decide (rd b 6 2 = len) && decide (b.length = len) && decide (len = 192 + 40 * rd b 14 1) &&
  (List.range (rd b 14 1)).all fun i => allZero (slice b (132 + 40 * i) 4)

/-- The signer may sign this: R391's table by FROM and TO. -/
def signerPermitted (frm next signer : Nat) : Bool :=
  let root := decide (signer = 0xFF)
  if next = frm then decide (frm ≤ 1) || (decide (frm = 2) && !root)
  else if next ≠ frm + 1 then false
  else if next = 2 then true
  else root && decide (next ≤ 3)

/-- The key is the ROM's root key, or that of a programmed, unrevoked slot. -/
def Efuse.keyOk (e : Efuse) (signer : Nat) (pub : Bytes) : Bool :=
  if signer = 0xFF then decide (sha256 pub = Config.rootKeyHash.toNat)
  else match e.keys.toList[signer]? with
    | some k => !k.revoked && decide (k.hash = some (sha256 pub))
    | none => false

/-- One fuse operation carried out (R392). -/
def Efuse.apply (e : Efuse) (o : FuseOp) : Efuse :=
  let k : Fin 4 := ⟨o.slot % 4, Nat.mod_lt _ (by decide)⟩
  match o.kind with
  | 1 => { e with keys := e.keys.set k { e.keys.get k with hash := some o.hash } }
  | 2 => { e with keys := e.keys.set k { e.keys.get k with revoked := true } }
  | 3 => { e with dealRb := max e.dealRb o.count }
  | _ => { e with fwRb := max e.fwRb o.count }
def Efuse.applyAll (e : Efuse) (ops : List FuseOp) : Efuse := ops.foldl Efuse.apply e

/-- An operation is well formed, and a COUNT is above the present one. -/
def Efuse.opOk (e : Efuse) (o : FuseOp) : Bool :=
  ((decide (o.kind = 1) || decide (o.kind = 2)) && decide (o.slot ≤ 3)) ||
  (decide (o.kind = 3) && decide (o.count ≤ 64) && decide (e.dealRb < o.count)) ||
  (decide (o.kind = 4) && decide (o.count ≤ 32) && decide (e.fwRb < o.count))
/-- Some slot stays programmed and unrevoked. -/
def Efuse.anyKey (e : Efuse) : Bool := e.keys.toList.any fun k => k.hash.isSome && !k.revoked
/-- Every slot to program is empty, and none is programmed twice. -/
def Efuse.slotsFree (e : Efuse) (ops : List FuseOp) : Bool :=
  let ks := (ops.filter fun o => o.kind = 1).map (·.slot)
  distinct ks && ks.all fun k => (e.keys.toList.getD k {}).hash.isNone

/-- The checks of R393 on the authorisation itself, in order. -/
def State.authChecks (s : State) (target len : Nat) (b : Bytes) : List (Bool × Status × Nat) :=
  let e := s.power.efuseShown
  let ops := authOps b
  let pub := slice b 64 64
  let frm := rd b 12 1
  let next := rd b 13 1
  let uid := rd b 16 8
  let opsOk := ops.all e.opOk && (e.applyAll ops).anyKey && (decide (next ≠ 3) || ops.isEmpty)
  [(!authFormOk b len, .invalid, 16), (!(e.keyOk (rd b 15 1) pub && signerPermitted frm next (rd b 15 1)), .auth, 16),
   (!ecdsaVerify (sha256 (b.take (len - 64))) pub (slice b (len - 64) 64), .auth, 16),
   (!(decide (uid = Config.dieUid.toNat) || decide (uid = 0 ∧ next ≠ 3)), .auth, 16),
   (decide (frm ≠ e.lifecycle ∨ next ≠ target), .range, 8), (!opsOk, .invalid, 16), (!e.slotsFree ops, .noresource, 16),
   (!s.house.therm.nvOpen, .thermal, 0xFF)]

/-- LIFECYCLE_ADVANCE from step 5 on; `auth` is what its read of host memory gives. -/
def lifecycleBody (auth : HostRead) : Body := fun c ref s =>
  let target := par c 8 1
  let len := par c 24 4
  let used := [(8, 1), (16, 8), (24, 4)]
  let first := [(decide (3 < target), Status.invalid, 8), (decide (par c 16 8 % 64 ≠ 0), Status.invalid, 16),
    (!decide (192 ≤ len ∧ len ≤ 512), Status.invalid, 24)]
  checked used first c ref
    (State.awaitHost c ref fun s => match s.hostData auth with
      | none => s.completeWith ref .timeout
      | some b =>
        checked used (s.authChecks target len b) c ref
          (fun s => (s.accept ref).onPower fun p => { p with
            fuseJobs := p.fuseJobs ++ [⟨ref, target, authOps b, !p.absent⟩] }) s) s

/-- EFUSE_PROGRAMMING_DONE: the operations and the state are programmed, the command completes, PASTEURISE follows (R393). -/
def State.efuseDone (s : State) : State := match s.power.fuseJobs with
  | [] => s
  | j :: _ =>
    if !j.begun then s
    else
      let s := s.onPower fun p => { p with efuse := { p.efuse.applyAll j.ops with lifecycle := j.target } }
      (s.completeOk j.ref j.target).deviceReset 3 0x0D

/-! ### After the entry to FATAL (R400, R401) -/

/-- A dump is still being written. -/
def State.dumping (s : State) : Bool := decide (s.dev.state = .fatal) && !s.power.dumpDone && !s.power.dumpNone

/-- DUMP_TIMEOUT. -/
def State.dumpTimeout (s : State) : State :=
  if s.dumping then
    let s := s.advanceTo (s.power.dumpSince + msCounts 2000)
    s.onPower fun p => { p with dumpNone := true, dumpSince := s.lamp }
  else s

/-- AUTO_RESET. -/
def State.autoReset (s : State) : State :=
  let n := s.fld Reg.PWR_DUMP_CFG 7 0
  if s.dev.state = .fatal ∧ n ≠ 0 ∧ s.dumping = false then (s.advanceTo (s.power.dumpSince + msCounts (1000 * n))).deviceReset 2 0x01
  else s

/-- The partition of KIND 5. -/
def State.dumpPart (s : State) : Option PartEntry := s.parts.find? fun p => p.kind = 5

/-- DUMP_FETCH from step 5 on. -/
def dumpFetchBody : Body := fun c ref s =>
  let off := par c 16 4
  let len := par c 20 4
  let p := s.power
  checked [(8, 8), (16, 4), (20, 4)]
    [(decide (par c 8 8 % 64 ≠ 0), .invalid, 8), (decide (off % 64 ≠ 0), .invalid, 16), (decide (len % 64 ≠ 0 ∨ len = 0), .invalid, 20),
     (s.dumping, .busy, 0xFF), (p.dumpNone || decide (p.dumpSize ≤ off), .range, 16), (decide (p.dumpSize < off + len), .range, 20)] c ref
    (fun s => (s.accept ref).onDealer fun d => { d with fetches := d.fetches ++ [⟨ref, par c 8 8, off, len⟩] }) s

/-- DUMP_FETCH_DONE: the oldest fetch is copied to the host. It waits for Bus Master Enable, and fails with the link (16 R435). -/
def State.dumpFetchDone (s : State) : State := match s.dealer.fetches, s.dumpPart with
  | j :: rest, some p =>
    let a := p.base + j.off
    if s.host.linkUp && !s.hostReady then s
    else
      let s := s.onDealer fun d => { d with fetches := rest }
      if !s.host.linkUp then s.completeWith j.ref .timeout
      else if s.dramGood a j.len then (s.emit (.hostWrite j.dst (s.dramRead a j.len))).completeOk j.ref j.len
      else (s.dramUncorr 6 0 a).completeWith j.ref .aborted
  | _, _ => s

/-! ### Check-value units (R402, R403, R406) -/

/-- CRC_SCAN from step 5 on. -/
def crcScanBody : Body := fun c ref s =>
  let u := par c 8 1
  let len := par c 24 4
  checked [(8, 1), (9, 1), (16, 8), (24, 4)]
    [(decide (1 < u), .invalid, 8), (decide (2 < par c 9 1), .invalid, 9), (decide (len = 0), .invalid, 24),
     (decide (s.dataSpace < par c 16 8 + len), .range, 16), ((s.dealer.scans.get (slotIx u)).isSome, .busy, 0xFF)] c ref
    (fun s =>
      let s := (s.accept ref).onDealer fun d => { d with scans := d.scans.set (slotIx u) (some ⟨ref, par c 9 1, par c 16 8, len⟩) }
      let o := Reg.CRC_STAT u
      ((((s.setFld o 0 0 1).setFld o 2 1 (par c 9 1)).setFld o 31 16 ref.tag)).setReg (Reg.CRC_DONE u) 0#32) s

/-- The check value of bytes under an ALGORITHM (R402). -/
def checkValue (alg : Nat) (b : Bytes) : Nat := match alg with
  | 0 => crc32 b
  | 1 => crc32c b
  | _ => crc16 b

/-- Bytes of a scan before its first uncorrectable word. -/
def State.goodLength (s : State) (a n : Nat) : Nat :=
  s.dramBad.foldl (fun m w => if a / 8 ≤ w ∧ w * 8 < a + n then min m (w * 8 - a) else m) n

/-- CRC_SCAN_DONE. An uncorrectable read ends the scan; the check value it leaves is free. -/
def State.crcScanDone (u : Fin 2) (s : State) : State := match s.dealer.scans.get u with
  | none => s
  | some j =>
    let good := s.dramGood j.start j.len
    let v := if good then checkValue j.alg (s.dramRead j.start j.len) else s.free % 2 ^ 32
    let st : Status := if good then .ok else .aborted
    let n := s.goodLength j.start j.len
    let o := Reg.CRC_STAT u
    let s := s.onDealer fun d => { d with scans := d.scans.set u none }
    let s := (((s.setFld o 0 0 0).setFld o 15 8 st.code).setReg (Reg.CRC_RESULT u) (BitVec.ofNat 32 v)).setReg (Reg.CRC_DONE u) (BitVec.ofNat 32 n)
    let s := s.post 0xB0 (336 + u.val) (le 1 j.alg ++ le 1 st.code ++ zeros 2 ++ le 4 v ++ le 2 j.ref.tag)
    if good then s.completeOk j.ref v else (s.useFree.dramUncorr 6 0 (j.start + n)).completeWith j.ref .aborted

end Sys2Proof.Machine
end

