-- ==== Sys2Proof/Machine/TileEnd.lean ====
section
/-! DEFINITION. The tile end of a port: what a tile does with blocks, parcels, ticks, lanes and measurements
(09 R198 to R230, 10 R233 to R236, 14 R330, 17 R390). -/

namespace Sys2Proof.Machine

open Sys2Proof

def State.tile (s : State) (n : TileId) : Tile := s.tiles.get n
def State.onTile (n : TileId) (f : Tile → Tile) (s : State) : State := { s with tiles := s.tiles.set n (f (s.tiles.get n)) }

def Tile.lock (t : Tile) : TxLane → Bool
  | .a => t.lockA
  | .b => t.lockB
def Tile.setLock (l : TxLane) (v : Bool) (t : Tile) : Tile := match l with
  | .a => { t with lockA := v }
  | .b => { t with lockB := v }
def Tile.rx (t : Tile) : TxLane → Nat
  | .a => t.rxA
  | .b => t.rxB
def Tile.setRx (l : TxLane) (v : Nat) (t : Tile) : Tile := match l with
  | .a => { t with rxA := v }
  | .b => { t with rxB := v }
def inc16 (v : Nat) : Nat := (v + 1) % 65536
/-- Releases `k` credits on a lane's pool (09 R209). -/
def Tile.releaseLane (l : TxLane) (k : Nat) (t : Tile) : Tile := match l with
  | .a => { t with relA := (t.relA + k) % 65536 }
  | .b => { t with relB := (t.relB + k) % 65536 }
def Tile.paired (t : Tile) : Bool := (t.made.map (·.paired)).getD false
/-- Releases a kitty credit of a copy on a lane (09 R209; 14 R330). -/
def Tile.releaseKitty (l : TxLane) (t : Tile) : Tile :=
  if t.paired && decide (l = .b) then { t with relK2 := inc16 t.relK2 } else { t with relK := inc16 t.relK }
def Tile.countCrc (l : TxLane) (t : Tile) : Tile := match l with
  | .a => { t with crcA := inc16 t.crcA }
  | .b => { t with crcB := inc16 t.crcB }
/-- The tile is ADMITTED, LIT, HELD or FALLBACK. -/
def Tile.admitted (t : Tile) : Bool := decide (2 ≤ t.state) && decide (t.state ≤ 5)
/-- HEIGHT and WIDTH of the ADMIT parcel. -/
def Tile.height (t : Tile) : Nat := (t.cfg.map (·.height)).getD 0
def Tile.width (t : Tile) : Nat := (t.cfg.map (·.width)).getD 0
def Tile.rate (t : Tile) : Nat := (t.cfg.map (·.rate)).getD 0
def b16 (v : Nat) : BitVec 16 := BitVec.ofNat 16 v

/-! ### Return records (09 R226, R227) -/

/-- Sends a record on an output with the next RSEQ. -/
def State.tileSend (n : TileId) (out : Nat) (mk : RecHdr → Record) (s : State) : State :=
  let t := s.tile n
  if t.state = 0 ∨ t.retOn = false then s
  else (s.onTile n fun t => { t with rseq := inc16 t.rseq }).emit (.record n out (mk ⟨BitVec.ofNat 8 t.frame, b16 t.rseq⟩))

/-- The output a tile answers a lane on: its own in a pair, else the one return lane. -/
def Tile.outputOf (t : Tile) (l : TxLane) : Nat := if t.paired then laneNum l else 0
/-- REL_K of an output. -/
def Tile.relKOf (t : Tile) (out : Nat) : Nat := if t.paired ∧ out = 1 then t.relK2 else t.relK
/-- The outputs in use. -/
def Tile.outputs (t : Tile) : List Nat := if t.paired then [0, 1] else [0]

/-- An EVENT record, sent three times with one EVENT_ID. -/
def State.tileEvent (n : TileId) (out code arg value : Nat) (s : State) : State :=
  let t := s.tile n
  let body : EventBody := ⟨BitVec.ofNat 8 t.eventId, b16 t.relA, b16 t.relB, b16 (t.relKOf out), BitVec.ofNat 32 value⟩
  let one := fun (s : State) => s.tileSend n out fun h => .event h (BitVec.ofNat 8 code) (BitVec.ofNat 8 arg) body
  (one (one (one s))).onTile n fun t => { t with eventId := (t.eventId + 1) % 256 }

/-- The tile is re-phasing at a lamp time (04 R91). -/
def Tile.rephasing (t : Tile) (lamp : Nat) : Bool := t.rephaseEnd.any fun e => decide (lamp < e)

/-- The STATUS body at a lamp time. -/
def Tile.statusBody (t : Tile) (lamp : Nat) : StatusBody :=
  let flags := b2n (t.rephasing lamp) + 2 * b2n t.pattern.isSome + 4 * b2n t.mapMissing
  { state := BitVec.ofNat 8 t.state, lanes := BitVec.ofNat 8 (b2n t.lockA + 2 * b2n t.lockB), holdCount := BitVec.ofNat 8 t.holdCount
    rate := BitVec.ofNat 8 t.rate, shown := BitVec.ofNat 32 t.shown, loaded := b16 t.loaded, kept := b16 t.kept, iRef := b16 t.iRef
    vHr := b16 t.vHr, crcA := b16 t.crcA, crcB := b16 t.crcB, dup := b16 t.dup, stale := b16 t.stale, probes := b16 t.fired
    flags := b16 flags }
def State.tileStatus (n : TileId) (s : State) : State :=
  let b := (s.tile n).statusBody s.lamp
  forEach (s.tile n).outputs (fun o s => s.tileSend n o fun h => .status h b) s

/-- A new tile state, reported by a STATUS record where it differs. -/
def State.setTile (n : TileId) (st : Nat) (s : State) : State :=
  if (s.tile n).state = st then s else (s.onTile n fun t => { t with state := st }).tileStatus n

/-- The newest SEQ received good, in serial order. -/
def newestSeq : List Nat → Nat
  | [] => 65535
  | x :: r => r.foldl (fun b y => if diff16 y b < 32768 then y else b) x

/-- An ACK record (09 R210); both outputs of a pair report every SEQ received good (14 R330). -/
def State.tileAck (n : TileId) (s : State) : State :=
  let t := s.tile n
  let base := diff16 (newestSeq t.window) 255
  let map := (List.range 256).foldl (fun m i => if t.window.contains ((base + i) % 65536) then m ||| (1#256 <<< i) else m) 0#256
  forEach t.outputs (fun o s => s.tileSend n o fun h => .ack h ⟨b16 base, map, b16 t.relA, b16 t.relB, b16 (t.relKOf o)⟩) s

/-! ### Power-up, IDENT, TRAINING (09 R207, R222; 17 R390) -/

/-- A tile starts in TRAINING; the flash of the same tile keeps its content. -/
def State.tilePowerUp (n : TileId) (m : TileMaker) (s : State) : State :=
  let old := s.tile n
  let same := decide (old.made.map (·.serial) = some m.serial)
  s.onTile n fun _ => { made := some m, state := 1, retOn := true, flash := if same then old.flash else [] }

/-- The outputs on which the tile is in TRAINING: in a pair, each lane it is not admitted on (09 R222; 14 R330, log 94). -/
def Tile.training (t : Tile) : List Nat :=
  if t.state = 0 ∨ t.state = 6 then []
  else if t.paired then [0, 1].filter fun o => !t.adm.getLsbD o
  else if t.state = 1 then [0] else []

/-- The IDENT record of a tile in TRAINING; the first grants the kitty, 16 credits, or 8 on each output of a pair. -/
def State.tileIdent (n : TileId) (s : State) : State :=
  let t := s.tile n
  match t.made with
  | none => s
  | some m =>
    let outs := t.training
    if outs = [] then s
    else
      let g := if m.paired then 8 else 16
      let s := s.onTile n fun t => { t with
        identSent := t.identSent || outs.contains 0, relK := if t.identSent || !outs.contains 0 then t.relK else g
        identSent2 := t.identSent2 || outs.contains 1, relK2 := if t.identSent2 || !outs.contains 1 then t.relK2 else g }
      forEach outs (fun o s => s.tileSend n o fun h =>
        .ident h ⟨m.tileType, m.serial, m.arrayW.setWidth 16, m.arrayH.setWidth 16, BitVec.ofNat 8 (b2n t.lockA + 2 * b2n t.lockB),
          m.caps, m.vfBase, m.vfStep, b16 ((s.tile n).relKOf o)⟩) s

/-- Entry to TRAINING after power-up: counters and window restart; latches, pattern and hold go on (09 R201, R207, R216). -/
def State.tileTrain (n : TileId) (s : State) : State :=
  let t := s.tile n
  (s.onTile n fun t => { t with
    window := [], relA := 0, relB := 0, relK := 0, relK2 := 0, identSent := false, identSent2 := false, adm := 0, holdRuns := decide (3 ≤ t.state ∧ t.state ≤ 5)
    retime := none, test := none }).setTile n (if t.state = 0 then 0 else 1)

/-- The lanes of one admission of a tile: its own lane in a pair, else both (14 R330). -/
def Tile.lanesOf (t : Tile) (l : TxLane) : BitVec 2 := if t.paired then 1#2 <<< laneNum l else 3#2

/-- The tile is no longer admitted on a lane of a pair: its counters on that lane and output start again, and so does the
window (14 R330; 09 R201, R207). -/
def Tile.leaveLane (l : TxLane) (t : Tile) : Tile :=
  let t := { t with adm := t.adm &&& ~~~(1#2 <<< laneNum l), window := [] }
  match l with
  | .a => { t with relA := 0, relK := 0, identSent := false }
  | .b => { t with relB := 0, relK2 := 0, identSent2 := false }

/-- Every transmit lane on which the tile is admitted has been lost for 1 ms (17 R390). In a pair, a lane that alone has
been lost for 1 ms ends the tile's admission on that lane (14 R330, log 94). -/
def State.tileTransmitLoss (n : TileId) (s : State) : State :=
  let t := s.tile n
  let on (l : TxLane) : Bool := t.lock l && t.adm.getLsbD (laneNum l)
  if t.state < 2 ∨ t.ls2 = true then s
  else if !on .a && !on .b then s.tileTrain n
  else if t.paired then
    forEach [TxLane.a, .b] (fun l s => if t.adm.getLsbD (laneNum l) && !t.lock l then s.onTile n (Tile.leaveLane l) else s) s
  else s

/-! ### Lanes (09 R219, R221) -/

def State.tileLaneLost (n : TileId) (l : TxLane) (part : Bool) (s : State) : State :=
  let t := s.tile n
  if t.state = 0 ∨ t.lock l = false then s
  else
    let s := s.onTile n fun t =>
      let t := t.setLock l false
      if part then ((t.setRx l (inc16 (t.rx l))).countCrc l).releaseLane l 1 else t
    (s.tileEvent n (t.outputOf l) 4 (laneNum l) 0).tileStatus n

def State.tileLaneLock (n : TileId) (l : TxLane) (s : State) : State :=
  let t := s.tile n
  if t.state = 0 ∨ t.lock l = true then s
  else
    let s := s.onTile n fun t => { (t.setLock l true).setRx l 0 with ls2 := false, retOn := true }
    (s.tileEvent n (t.outputOf l) 5 (laneNum l) 0).tileStatus n

/-- A copy that fails its CRC, or a runt (09 R209, R210). -/
def State.tileBadCopy (n : TileId) (l : TxLane) (runt : Bool) (seq : BitVec 16) (s : State) : State :=
  let t := s.tile n
  if t.state = 0 ∨ t.lock l = false then s
  else
    let at0 := t.rx l
    let s := s.onTile n fun t => ((t.setRx l (inc16 at0)).countCrc l).releaseLane l 1
    s.tileSend n (t.outputOf l) fun h => .nak h ⟨l, runt, b16 at0, seq⟩

/-! ### Good copies (09 R209, R213) -/

/-- A parcel of a type that 09 R202 lists. -/
def knownType (p : Parcel) : Bool := decide (1 ≤ p.type.toNat) && decide (p.type.toNat ≤ 9)

/-- A good copy of a parcel: it is released and acknowledged; the first one of its SEQ acts. One of an unknown type is
then ignored (09 R202). -/
def State.tileCopy (n : TileId) (l : TxLane) (p : Parcel) (act : State → State) (s : State) : State :=
  let t := s.tile n
  if t.state = 0 ∨ t.lock l = false then s
  else
    let s := s.onTile n fun t =>
      let t := t.setRx l (inc16 (t.rx l))
      if p.kitty then t.releaseKitty l else t.releaseLane l 1
    let q := p.seq.toNat
    if t.window.contains q then s.onTile n fun t => { t with dup := inc16 t.dup, window := q :: t.window.erase q }
    else
      let s := s.onTile n fun t => { t with window := (q :: t.window).take 512 }
      if knownType p then act s else s

/-- PIXELS, PROBES and CLOSE act only for the frame of the last tick. -/
def State.tileFrameCopy (n : TileId) (l : TxLane) (p : Parcel) (act : Tile → Tile) (s : State) : State :=
  s.tileCopy n l p (fun s =>
    let t := s.tile n
    if p.frame.toNat ≠ t.frame % 256 then s.onTile n fun t => { t with stale := inc16 t.stale }
    else if t.admitted then s.onTile n act else s)

/-- PIXELS (09 R203). -/
def State.pixelsIn (n : TileId) (l : TxLane) (p : Parcel) (s : State) : State :=
  let a := p.addr.toNat
  s.tileFrameCopy n l p (fun t => { t with segs := t.segs ++ [(bitsOf a 9 0, bitsOf a 13 10, p.payload)] })

/-- The entries of a PROBES parcel (09 R204). -/
def probeEntries (p : Parcel) : List Pixel :=
  (List.range (bitsOf p.arg.toNat 15 10 + 1)).map fun i =>
    let e := rd p.payload (4 * i) 4
    (bitsOf e 10 0, bitsOf e 20 11)
def State.probesIn (n : TileId) (l : TxLane) (p : Parcel) (s : State) : State :=
  s.tileFrameCopy n l p (fun t => { t with probes := t.probes ++ probeEntries p })

/-- The CLOSE payload (09 R205). -/
def parseClose (b : Bytes) : CloseBody where
  map := slice b 0 128
  iRef := rd b 128 2
  vHr := rd b 130 2
  rate := rd b 132 1
  dark := bitAt (rd b 133 1) 0
  showFallback := bitAt (rd b 133 1) 1
  lines := rd b 134 2
  frame := rd b 136 4
def State.closeIn (n : TileId) (l : TxLane) (p : Parcel) (s : State) : State :=
  s.tileFrameCopy n l p (fun t => { t with close := some (parseClose p.payload) })

/-- RETIME (09 R206, R218). -/
def State.retimeIn (n : TileId) (l : TxLane) (p : Parcel) (s : State) : State :=
  s.tileCopy n l p (fun s =>
    let t := s.tile n
    let kind := p.arg.toNat % 4
    if !t.admitted then s
    else if kind = 1 then
      (s.onTile n fun t => { t with retime := some ⟨rd p.payload 0 1, rd p.payload 4 4, false⟩ }).tileEvent n (t.outputOf l) 3 0 0
    else if kind = 2 then s.onTile n fun t => { t with retime := t.retime.map fun r => { r with confirmed := true } }
    else s.onTile n fun t => { t with retime := none })

/-- The ADMIT payload (09 R206). -/
def parseAdmit (b : Bytes) : TileCfg :=
  ⟨rd b 2 2, rd b 4 2, bitAt (rd b 6 1) 0, bitAt (rd b 6 1) 1, rd b 7 1, rd b 8 1, rd b 9 1, rd b 10 1, rd b 12 4⟩
/-- Fields that a re-deal changes without a handshake: mirror bits, PHASE_SLOT, HOLD_FRAMES (02 R47, log 90). -/
def TileCfg.retake (c new : TileCfg) : TileCfg :=
  { c with mirrorX := new.mirrorX, mirrorY := new.mirrorY, phaseSlot := new.phaseSlot, holdFrames := new.holdFrames, dealSeq := new.dealSeq }

/-- ADMIT (09 R206, R223): the tile is ADMITTED from its answer on (log 28). In a pair each lane has its own admission, and
the second disturbs nothing of the first (14 R330). Where the tile is admitted already it takes the fields that a re-deal
changes without a handshake, and answers nothing (02 R47, log 90). -/
def State.admitIn (n : TileId) (l : TxLane) (p : Parcel) (s : State) : State :=
  s.tileCopy n l p (fun s =>
    let t := s.tile n
    let cfg := parseAdmit p.payload
    let lanes := t.lanesOf l
    if t.adm &&& lanes = lanes then s.onTile n fun t => { t with cfg := t.cfg.map fun c => c.retake cfg }
    else if t.state = 0 ∨ t.state = 6 then s
    else
      let s := s.onTile n fun t =>
        let t := if t.paired then t.releaseLane l 64 else (t.releaseLane .a 64).releaseLane .b 64
        let t := { t with adm := t.adm ||| lanes }
        if t.state = 1 then { t with cfg := some cfg, holdRuns := false, segs := [], probes := [], close := none } else t
      let s := s.tileEvent n (t.outputOf l) 1 0 0
      if t.state = 1 then s.setTile n 2 else s)

/-- RETIRE (09 R201, R224). In a pair it ends the admission on its own lane, and the tile goes on with the other (14 R330). -/
def State.retireIn (n : TileId) (l : TxLane) (p : Parcel) (s : State) : State :=
  s.tileCopy n l p (fun s =>
    let t := s.tile n
    if !t.admitted then s
    else if t.adm &&& ~~~t.lanesOf l ≠ 0 then (s.tileEvent n (t.outputOf l) 2 0 0).onTile n (Tile.leaveLane l)
    else
      let s := (s.onTile n fun t => { t with
        latches := [], window := [], segs := [], probes := [], close := none, dueSegs := [], dueProbes := [], dueClose := none
        swapDue := false, probed := [], holdRuns := false }).tileEvent n (t.outputOf l) 2 0 0
      (s.onTile n fun t => { t with relA := 0, relB := 0, relK := 0, relK2 := 0, adm := 0 }).setTile n 6)

/-- FALLBACK (09 R217): the pattern is adopted once all 8 parts of one SET are held. -/
def State.fallbackIn (n : TileId) (l : TxLane) (p : Parcel) (s : State) : State :=
  s.tileCopy n l p (fun s => s.onTile n fun t =>
    let set := bitsOf p.arg.toNat 15 8
    let kept := if t.patternSet = set then t.patternParts else []
    let parts := Sparse.put (p.arg.toNat % 8) p.payload kept
    if parts.length = 8 then { t with patternSet := set, patternParts := [], pattern := some (parts.flatMap (·.2)) }
    else { t with patternSet := set, patternParts := parts })

/-- A flash byte; beyond the programmed image the spec gives no content (log 29). -/
def State.flashByte (s : State) (n : TileId) (i : Nat) : Byte :=
  ((s.tile n).flash[i]?).getD (BitVec.ofNat 8 (Config.freeValue (s.freeSeq + i)))

/-- FLASH (09 R206, R228). -/
def State.flashIn (n : TileId) (l : TxLane) (p : Parcel) (s : State) : State :=
  s.tileCopy n l p (fun s =>
    let t := s.tile n
    let out := t.outputOf l
    let b := p.payload
    match p.arg.toNat % 4 with
    | 0 => s.onTile n fun t => { t with flashIn := Sparse.put p.addr.toNat b t.flashIn }
    | 1 =>
      let len := rd b 0 4
      let chunks := (List.range (ceilDiv len 256)).map fun i => Sparse.find? t.flashIn i
      let image := (chunks.flatMap fun c => c.getD []).take len
      let ok := chunks.all Option.isSome && decide (crc32c image = rd b 4 4)
      let s := s.onTile n fun t => { t with flashIn := [], flash := if ok then image else t.flash }
      s.tileEvent n out 8 (b2n (!ok)) 0
    | 2 =>
      let off := rd b 0 4
      let len := min (rd b 4 4) 49152
      let s := forEach (List.range (ceilDiv len 48)) (fun i s =>
        let o := off + 48 * i
        let data := (List.range 48).map fun j => s.flashByte n (o + j)
        s.tileSend n out fun h => .flashData h (BitVec.ofNat 32 o) data) s
      { s with freeSeq := s.freeSeq + 2 ^ 32 }
    | _ => s)

/-- LANE (09 R206, R221, R229, R230). -/
def State.laneIn (n : TileId) (l : TxLane) (p : Parcel) (s : State) : State :=
  s.tileCopy n l p (fun s =>
    let t := s.tile n
    let out := t.outputOf l
    match p.arg.toNat % 16 with
    | 1 => (s.tileEvent n out 9 0 0).onTile n fun x => { x with ls2 := true, lockA := false, lockB := false, retOn := false }
    | 2 => s.onTile n fun x => { x with test := some (rd p.payload 0 1, rd p.payload 2 2) }
    | 3 => s.tileEvent n out 6 0 0
    | _ => s)

/-! ### Ticks and the hold (09 R198, R215, R216, R218; 04 R91) -/

/-- A tick without the CLOSE that is due counts, in LIT, HELD, FALLBACK or a TRAINING that goes on holding; not where the
tick, at lamp time `at0`, lies inside a re-phase. -/
def State.tileHoldTick (n : TileId) (at0 : Nat) (s : State) : State :=
  let t := s.tile n
  if t.rephasing at0 = true ∨ ¬((3 ≤ t.state ∧ t.state ≤ 5) ∨ (t.state = 1 ∧ t.holdRuns = true)) then s
  else
    let s := s.onTile n fun t => { t with holdCount := satAdd 255 t.holdCount 1 }
    if t.state = 3 ∧ t.holdCount + 1 ≤ (t.cfg.map (·.holdFrames)).getD 0 then s.setTile n 4 else s

/-- What a tick at lamp time `at0` does, however it was placed: the buffer that filled becomes due, or the hold counts. -/
def State.tileTick (n : TileId) (frame at0 : Nat) (s : State) : State :=
  let t := s.tile n
  let s := match t.close with
    | some c => s.onTile n fun t => { t with dueSegs := t.segs, dueProbes := t.probes, dueClose := some c, swapDue := true }
    | none => s.tileHoldTick n at0
  let s := s.onTile n fun t => { t with segs := [], probes := [], close := none, frame := frame % 2 ^ 32 }
  match t.test with
  | none => s
  | some (m, k) =>
    if 0 < k then s.onTile n fun t => { t with test := some (m, k - 1) }
    else
      -- the checkers' bit error counts are the lanes' own (log 30)
      let s := s.onTile n fun t => { t with test := none }
      forEach [TxLane.a, TxLane.b] (fun l s =>
        if bitAt m (laneNum l) then (s.tileEvent n (t.outputOf l) 7 (laneNum l) s.free).useFree else s) s

/-- The tile's own period in lamp counts. -/
def Tile.period (t : Tile) : Nat := nominalPeriod t.rate

/-- The drive code of a pattern cell (02 R42) at composition pixel (x, y). -/
def patternCode (p : Bytes) (x y : Nat) : Nat :=
  let v := leVal (slice p (y / 32 * 64 + x / 32) 1)
  v * 16 + v / 16

/-- Loads the fallback pattern into every latch; without one every pixel is dark. -/
def Tile.loadPattern (t : Tile) : Tile :=
  match t.pattern with
  | none => { t with latches := [] }
  | some p => { t with latches := (List.range t.height).map fun y => (y, (List.range t.width).map fun x => patternCode p x y) }

/-- HOLD_COUNT exceeds HOLD_FRAMES: the fallback pattern is loaded (09 R216). -/
def State.tileHoldExpiry (n : TileId) (s : State) : State :=
  let t := s.tile n
  let tooLong := decide ((t.cfg.map (·.holdFrames)).getD 0 < t.holdCount)
  if tooLong && decide (t.state = 3 ∨ t.state = 4) then (s.onTile n Tile.loadPattern).setTile n 5
  else if tooLong && decide (t.state = 1) && t.holdRuns then s.onTile n Tile.loadPattern
  else s

/-- The codes of a line's segments; `none` where one is missing (09 R203). -/
def lineCodes (segs : List (Nat × Nat × Bytes)) (w y : Nat) : Option (List Nat) :=
  let parts := (List.range (segCount w)).map fun i => (segs.find? (fun e => e.1 = y ∧ e.2.1 = i)).map (·.2.2)
  if parts.all Option.isSome then
    let v := leVal (parts.flatMap fun p => (p.getD []))
    some ((List.range w).map fun x => v / 4096 ^ x % 4096)
  else none

/-- MAP bit of a line. -/
def CloseBody.has (c : CloseBody) (y : Nat) : Bool := bitAt (leVal (slice c.map (y / 8) 1)) (y % 8)

/-- Loads the lines a CLOSE delivers (09 R215). -/
def Tile.loadLines (c : CloseBody) (t : Tile) : Tile :=
  let ys := List.range t.height
  let got := ys.filterMap fun y => if c.has y then (lineCodes t.dueSegs t.width y).map fun l => (y, l) else none
  let held := fun y => got.any fun e => decide (e.1 = y)
  let fired := t.dueProbes.filter fun p => held p.2
  { t with
    latches := got.foldl (fun m e => Sparse.put e.1 e.2 m) t.latches
    loaded := got.length, kept := t.height - got.length, probed := fired, fired := fired.length
    mapMissing := ys.any fun y => c.has y && !held y }

/-- The frame that a held CLOSE closes is loaded and shown (09 R205, R215). -/
def State.tileLoad (n : TileId) (c : CloseBody) (s : State) : State :=
  s.onTile n fun t =>
    let sn := ((t.made.map (·.serial.toNat)).getD 0)
    let t := { t with
      swapDue := false, shown := c.frame, iRef := min c.iRef (Config.tileIRefLimit sn), vHr := min c.vHr (Config.tileVHrLimit sn) }
    let t := if c.dark then { t with latches := [], loaded := 0, kept := 0, fired := 0, state := 2 }
      else { (if c.showFallback then t.loadPattern else t.loadLines c) with holdCount := 0, state := 3 }
    { t with dueSegs := [], dueProbes := [], dueClose := none }

/-- A completed frame that is not shown is discarded (04 R91; 09 R218). -/
def Tile.dropDue (t : Tile) : Tile := { t with dueSegs := [], dueProbes := [], dueClose := none, swapDue := false }

/-- A rate change at a tick: as noticed and confirmed, or because the tile is out of step (09 R218). The tile lights the
frame that has just been closed from this tick on, and goes on showing it through its re-phase (04 R91). -/
def State.tileRate (n : TileId) (frame rate : Nat) (newRate : Bool) (s : State) : State :=
  let t := s.tile n
  match t.cfg with
  | none => s
  | some c =>
    let told := match t.retime with
      | some r => newRate && r.confirmed && decide (r.first = frame) && decide (r.newRate = rate)
      | none => false
    let rest := t.retime.filter fun r => decide (r.first ≠ frame) && !told
    let s := s.onTile n fun t => { t with retime := rest }
    if t.admitted && (told || decide (c.rate ≠ rate)) then
      -- the re-phase ends within 2 old-mode periods, at an instant of the tile's own (log 82)
      let s := match t.dueClose with
        | some k => if t.swapDue then (s.onTile n fun t => { t with probed := [] }).tileLoad n k else s
        | none => s
      (s.onTile n fun t => { t with
        cfg := some { c with rate := rate }, rephaseEnd := some (s.lamp + s.free % (2 * t.period + 1)) }).useFree
    else s

/-- Lamp counts of a tick that begins with a TICK block: those between the last two blocks, shared by the ticks between them;
the nominal period of the rate where the mode is new or there is no earlier block (09 R198; log 84). -/
def Tile.gapAt (t : Tile) (lamp frame rate : Nat) : Nat :=
  match t.block with
  | none => nominalPeriod rate
  | some b =>
    let d := (frame + 2 ^ 32 - b.2) % 2 ^ 32
    if d = 0 ∨ 255 < d ∨ t.rate ≠ rate then nominalPeriod rate else (lamp - b.1) / d

/-- The first TICK block of a tick is that tick; where the flywheel has placed it already, the block re-aligns the tile. -/
def State.tileTickBlock (n : TileId) (l : TxLane) (frame rate : Nat) (newRate : Bool) (s : State) : State :=
  let t := s.tile n
  if t.state = 0 ∨ t.lock l = false ∨ (t.block.any fun b => decide (b.2 = frame)) then s
  else
    let s := if t.flew ∧ t.frame = frame then s else s.tileTick n frame s.lamp
    let s := s.onTile n fun t => { t with
      tickGap := t.gapAt s.lamp frame rate, lastTick := s.lamp, block := some (s.lamp, frame), flew := false }
    s.tileRate n frame rate newRate

/-- No TICK within 2 µs of the expected instant: the tile places the tick itself. -/
def State.tileFlywheel (n : TileId) (s : State) : State :=
  let t := s.tile n
  if t.state = 0 ∨ t.tickGap = 0 then s
  else
    let s := s.advanceTo (t.lastTick + t.tickGap + 200)
    (s.tileTick n ((t.frame + 1) % 2 ^ 32) (t.lastTick + t.tickGap)).onTile n fun t => { t with lastTick := t.lastTick + t.tickGap, flew := true }

/-- P(m) of the frame whose tick the tile has: as the generator placed it (04 R80; 09 R198), or, on a tick that the tile
placed itself, the counts it flies on. -/
def State.tilePeriod (s : State) (n : TileId) : Nat :=
  let t := s.tile n
  if t.block.any (fun b => decide (b.2 = s.timing.frame)) && decide (t.frame = s.timing.frame) then s.timing.period else t.tickGap
/-- The start of subframe `i`, 0 to 3, of the frame that the tile lights (04 R80). -/
def State.subframeAt (s : State) (n : TileId) (i : Nat) : Nat :=
  let t := s.tile n
  t.lastTick + ((t.cfg.map (·.phaseSlot)).getD 0) * s.tilePeriod n / 64 + i * s.tilePeriod n / 4

/-- Subframe 0: the tile loads what is due, or its pattern, and reports (09 R215, R216, R227). Inside a re-phase it shows
what it showed, and what is due is discarded (04 R91). -/
def State.tileFrameSwap (n : TileId) (s : State) : State :=
  let t := s.tile n
  if t.cfg.isNone ∨ t.state = 0 then s
  else
    let s := s.advanceTo (s.subframeAt n 0)
    let busy := t.rephasing s.lamp
    let s := s.onTile n fun t => { t with sensorIndex := 0, rephaseEnd := if busy then t.rephaseEnd else none }
    let s := if busy then s.onTile n Tile.dropDue
      else
        let s := s.onTile n fun t => { t with probed := [] }
        match t.dueClose with
        | some c => if t.swapDue && t.admitted then s.tileLoad n c else s.tileHoldExpiry n
        | none => s.tileHoldExpiry n
    s.tileStatus n

/-! ### What the tile lights (08 R188, R189; 10 R234) -/

/-- The latched code of a pixel, dark where nothing is latched. -/
def Tile.codeAt (t : Tile) (x y : Nat) : Nat := ((Sparse.find? t.latches y).getD []).getD x 0

/-- On-time of a pixel in each subframe: shortened by 10 lamp counts where its probe fires (08 R188, R189). -/
def Tile.litTime (t : Tile) (x y : Nat) : Nat := onTime t.rate (t.codeAt x y) - if t.probed.contains (x, y) then 10 else 0

/-- What the tile drives at a pixel in subframe `i` of the frame it lights, as starts and lengths in lamp counts: a fired
probe's pulse inside the diagnostic window and its on-time after it in subframe 0, else one on-time from the subframe's
start (08 R188, R189; 10 R234). -/
def State.litSpans (s : State) (n : TileId) (x y i : Nat) : List (Nat × Nat) :=
  let t := s.tile n
  let s0 := s.subframeAt n i
  let on := t.litTime x y
  if on = 0 then []
  else if t.probed.contains (x, y) ∧ i = 0 then [(s0 + 8, 40), (s0 + 64, on)]
  else [(s0, on)]

/-! ### Measurements (10 R233 to R236) -/

/-- The VF code of a voltage: a free value among those whose own voltage lies within 2 steps of it, the end of the range
where none does (10 R235, log 31); with a VF_STEP of 0 a free value (log 32). -/
def vfCode (m : TileMaker) (mv free : Nat) : Nat :=
  let step := m.vfStep.toNat
  if step = 0 then 4 + free % 252
  else
    let d : Int := (mv : Int) - m.vfBase.toNat
    -- code c stands for (c - 4) steps: least and greatest with |d - (c - 4) * step| at most 2 steps
    let lo : Int := 4 + (d - 2 * step + (step - 1)) / (step : Int)
    let hi : Int := 4 + (d + 2 * step) / (step : Int)
    (clampInt 4 255 (lo + ((free : Int) % (hi - lo + 1)))).toNat

/-- The array pixel (column, line) at which the tile places a composition pixel (09 R203). -/
def Tile.place (t : Tile) (x y : Nat) : Nat × Nat :=
  match t.cfg with
  | none => (x, y)
  | some c => (if c.mirrorX then c.width - 1 - x else x, if c.mirrorY then c.height - 1 - y else y)

/-- What the tile measures at the array pixel of a composition pixel. -/
def Tile.measured (t : Tile) (meas : List PixelMeas) (x y : Nat) : Option PixelMeas :=
  meas.find? fun p => decide (p.col.toNat = (t.place x y).1) && decide (p.line.toNat = (t.place x y).2)

/-- What a measurement of a lit pixel reports. -/
def State.litCode (s : State) (n : TileId) (m : TileMaker) (meas : List PixelMeas) (x y : Nat) : Nat :=
  let free := Config.freeValue (s.freeSeq + 2048 * y + x)
  match (s.tile n).measured meas x y with
  | some p => if p.compliance then 3 else vfCode m p.mv.toNat free
  | none => 3 + free % 253

/-- The scan code of a pixel: 0 where it is probed or lit too briefly. -/
def State.scanCode (s : State) (n : TileId) (m : TileMaker) (meas : List PixelMeas) (x y : Nat) : Nat :=
  let t := s.tile n
  let c := t.codeAt x y
  if t.probed.contains (x, y) then 0
  else if c = 0 then
    match t.measured meas x y with
    | some p => if p.offConducts then 2 else 1
    | none => 1
  else if 32 ≤ onTime t.rate c then s.litCode n m meas x y else 0

/-- Runs of up to 48 columns that hold the probed pixels of a line: first column and count. -/
def probeRuns : List Nat → List (Nat × Nat) → List (Nat × Nat)
  | [], done => done.reverse
  | x :: r, [] => probeRuns r [(x, 1)]
  | x :: r, (c, k) :: done => if x < c + 48 then probeRuns r ((c, x - c + 1) :: done) else probeRuns r ((x, 1) :: (c, k) :: done)

/-- At subframe 0 the tile measures its scan set and its fired probes and sends the VF records (10 R233 to R236). -/
def State.tileSubframeStart (n : TileId) (meas : List PixelMeas) (s : State) : State :=
  let t := s.tile n
  match t.made with
  | none => s
  | some m =>
    if !t.admitted then s
    else
      let lines := (List.range t.height).filter fun y => y % 64 = t.frame % 64
      let send := fun (y col : Nat) (probe : Bool) (codes : Bytes) (s : State) =>
        forEach t.outputs (fun o s => s.tileSend n o fun h => .vf h ⟨b16 y, b16 col, probe, codes⟩) s
      let s1 := forEach lines (fun y s' => forEach (List.range (ceilDiv t.width 48)) (fun i s' =>
        let codes := (List.range (min 48 (t.width - 48 * i))).map fun j => BitVec.ofNat 8 (s.scanCode n m meas (48 * i + j) y)
        send y (48 * i) false codes s') s') s
      let plines := (t.probed.map (·.2)).eraseDups
      let s2 := forEach plines (fun y s' =>
        let xs := sortKey id ((t.probed.filter (fun p => p.2 = y)).map (·.1))
        forEach (probeRuns xs []) (fun r s' =>
          let codes := (List.range r.2).map fun j =>
            BitVec.ofNat 8 (if xs.contains (r.1 + j) then s.litCode n m meas (r.1 + j) y else 0)
          send y r.1 true codes s') s') s1
      { s2 with freeSeq := s.freeSeq + 2 ^ 21 }

/-- A SENSOR record (09 R227); a RETIRED tile sends none (R224). -/
def State.tileSensor (n : TileId) (r : SensorReading) (s : State) : State :=
  let t := s.tile n
  if t.admitted then
    (forEach t.outputs (fun o s => s.tileSend n o fun h =>
      .sensor h ⟨r.vfMean, r.tSink, r.light, r.vSupply, r.iSupply, BitVec.ofNat 8 t.sensorIndex⟩) s).onTile n
      fun t => { t with sensorIndex := (t.sensorIndex + 1) % 8 }
  else s

end Sys2Proof.Machine
end

