-- ==== Sys2Proof/Machine/Diag.lean ====
section
/-! DEFINITION. Pixel diagnostics: results, classes, ages, the pending list, probe schedules, the class list, the fault map (10). -/

namespace Sys2Proof.Machine

open Sys2Proof

/-- The age epoch E (10 R241). -/
def State.epoch (s : State) : Nat := s.lamp / 50000000
/-- AGE_LIMIT in force, clamped (10 R252). -/
def State.ageLimit (s : State) (n : TileId) : Nat := min 28 (max 2 (s.fld (Reg.TL_DIAG_CFG n) 12 8))

/-! ### The fault map (10 R247, R248) -/

/-- FMAP_OFS in force, in bytes. -/
def State.fmapOfs (s : State) (n : TileId) : Nat := s.fld (Reg.TL_DIAG_FMAP n) 31 16 * 65536
/-- Address of the map header; `none` where the map does not fit its partition. -/
def State.fmapBase (s : State) (n : TileId) : Option Nat :=
  let t := s.tileEntry n
  match s.partEntry t.fmapPart with
  | some p => if p.holds (p.base + s.fmapOfs n) (64 + t.width * t.height) then some (p.base + s.fmapOfs n) else none
  | none => none

def pixIndex (t : TileEntry) (p : Pixel) : Nat := p.2 * t.width + p.1

/-- An initialisation is running and has not visited line `l` yet. -/
def State.initFresh (s : State) (n : TileId) (l : Nat) : Bool :=
  let d := s.diag n
  decide (0 < d.initLeft) && decide (64 - d.initLeft ≤ (l + 64 - d.initFrame % 64) % 64)

/-- UNTESTED with VSTAMP E mod 32. -/
def State.untested (s : State) : Nat := s.epoch % 32 * 8

/-- The stored byte of a pixel. -/
def State.mapByte (s : State) (n : TileId) (p : Pixel) : Nat :=
  let i := pixIndex (s.tileEntry n) p
  match Sparse.find? (s.diag n).unwritten i with
  | some v => v
  | none =>
    if s.initFresh n p.2 then s.untested
    else
      match s.fmapBase n with
      | none => Sparse.get (fun _ => s.untested) (s.diag n).shadow i
      | some a => if s.dramGood (a + 64 + i) 1 then leVal (s.dramRead (a + 64 + i) 1) else s.untested

/-- Writes one byte of the map with its whole word, as the engine writes DRAM (16 R377). -/
def State.writeMapWord (a v : Nat) (s : State) : State :=
  let w := a / 8 * 8
  s.dramWrite w ((List.range 8).flatMap fun k => if w + k = a then le 1 v else s.dramRead (w + k) 1)

/-- Writes the byte of a pixel to the map, or to what stands for a map that does not fit. -/
def State.putMapByte (n : TileId) (p : Pixel) (v : Nat) (s : State) : State :=
  let i := pixIndex (s.tileEntry n) p
  let s := s.onDiag n fun d => { d with unwritten := Sparse.erase i d.unwritten }
  match s.fmapBase n with
  | none => s.onDiag n fun d => { d with shadow := Sparse.put i v d.shadow }
  | some a => if s.mapByte n p = v && !s.initFresh n p.2 then s else s.writeMapWord (a + 64 + i) v

/-- Notes the byte that a probe result gives a pixel; the visit of the period writes it (10 R248). -/
def State.noteMapByte (n : TileId) (p : Pixel) (v : Nat) (s : State) : State :=
  s.onDiag n fun d => { d with unwritten := Sparse.put (pixIndex (s.tileEntry n) p) v d.unwritten }

/-- The header, rewritten at each pass end and at the end of each initialisation (10 R247). -/
def State.writeMapHeader (n : TileId) (s : State) : State :=
  match s.fmapBase n with
  | none => s
  | some a =>
    let d := s.diag n
    let t := s.tileEntry n
    s.dramWrite a (le 4 0x504D4651 ++ le 2 1 ++ le 2 t.width ++ le 2 t.height ++ le 1 n.val ++ le 1 (s.ageLimit n) ++
      le 4 (((s.port n).ident.map (·.serial.toNat)).getD 0) ++ le 4 d.initFrame ++ le 4 d.pass ++ le 1 (s.epoch % 32) ++ le 1 d.ref ++
      zeros 6 ++ d.counts.toList.flatMap (le 4))

/-! ### Results and classes (10 R239 to R242) -/

/-- The outcome of a code: 0 NONE, 1 PASS, else the class it names (10 R239). -/
def State.vfOutcome (s : State) (n : TileId) (code : Nat) : Nat :=
  let r : Int := (s.diag n).ref
  let thr := fun (k : Nat) => ((s.fld (Reg.TL_DIAG_THR n) (8 * k + 7) (8 * k) : Nat) : Int)
  let c : Int := code
  if code = 0 then 0 else if code = 1 then 1 else if code = 2 then 6
  else if code = 3 ∨ r + thr 1 ≤ c then 4
  else if c ≤ r - thr 2 then 5
  else if thr 0 < c - r ∨ thr 0 < r - c then 3 else 1

/-- The class after a verification (10 R240). -/
def nextClass (old outcome : Nat) : Nat :=
  if 4 ≤ old ∧ old ≤ 6 then old
  else if outcome = 1 then 1
  else if old = 2 then outcome
  else if old = 3 ∧ outcome = 3 then 3 else 2

/-- Adds to a class count. -/
def Diag.move (old new : Nat) (d : Diag) : Diag :=
  let c := d.counts.toList.zipIdx.map fun e => if e.2 = new then (if e.2 = old then e.1 - 1 else e.1) + 1 else if e.2 = old then e.1 - 1 else e.1
  { d with counts := Vector.ofFn fun (i : Fin 8) => c.getD i.val 0 }

/-- A pixel's class is forgotten: it is UNTESTED, is no longer among the dead ones, and is not SUSPECT in the pending list
(10 R246, R248). -/
def State.forgetClass (n : TileId) (p : Pixel) (s : State) : State :=
  let old := s.mapByte n p % 8
  s.onDiag n fun d => { d.move old 0 with
    dead := d.dead.filter fun e => e.1 ≠ p
    pend := d.pend.map fun e => if e.pix = p then { e with suspect := false } else e }
/-- A pixel is taken as UNTESTED, with VSTAMP E mod 32, in the map as well (10 R248). -/
def State.takeUntested (n : TileId) (p : Pixel) (s : State) : State := (s.forgetClass n p).putMapByte n p s.untested

/-- The pixel of a map index. -/
def indexPix (t : TileEntry) (i : Nat) : Pixel := (i % t.width, i / t.width)
/-- Map indices of the pixels whose bytes share a pixel's word. -/
def wordMates (t : TileEntry) (p : Pixel) : List Nat :=
  ((List.range 8).map fun k => pixIndex t p / 8 * 8 + k).filter fun i => i < t.width * t.height

/-- A map byte read uncorrectable is reported (10 R248). The engine writes whole words (16 R377): every pixel of the word is
taken as UNTESTED, and the word is rewritten with fresh check bits (log 81). A pixel whose byte a probe result has already
replaced keeps that result. -/
def State.mapEcc (n : TileId) (p : Pixel) (s : State) : State :=
  match s.fmapBase n with
  | some a =>
    let t := s.tileEntry n
    let at' := a + 64 + pixIndex t p
    if s.dramGood at' 1 || s.initFresh n p.2 then s
    else
      let s := (s.setFlag (Reg.TL_DIAG_EVT n) 5).dramUncorr 4 n.val at'
      forEach (wordMates t p) (fun i s =>
        -- the class that the lost byte held leaves the counts
        let q := indexPix t i
        let lost := leVal (s.dramRead (a + 64 + i) 1) % 8
        let s := if s.initFresh n q.2 || (Sparse.find? (s.diag n).unwritten i).isSome then s
          else s.onDiag n fun d => { d.move lost 0 with
            dead := d.dead.filter fun e => e.1 ≠ q
            pend := d.pend.map fun e => if e.pix = q then { e with suspect := false } else e }
        s.writeMapWord (a + 64 + i) s.untested) s
  | none => s

/-- Posts a PIXEL_FAULT record; beyond 16 in a period it is dropped (10 R249). -/
def State.pixelFault (n : TileId) (p : Pixel) (old new code source period : Nat) (s : State) : State :=
  let d := s.diag n
  if 16 ≤ d.periodRecs then (s.onDiag n fun d => { d with dropped := d.dropped + 1 }).setFlag (Reg.TL_DIAG_EVT n) 4
  else
    (s.onDiag n fun d => { d with periodRecs := d.periodRecs + 1 }).post 0x50 (176 + 4 * n.val)
      (le 2 p.1 ++ le 2 p.2 ++ le 1 new ++ le 1 old ++ le 1 code ++ le 1 source ++ le 4 period ++ le 2 d.ref ++
        le 2 (min 0xFFFF (d.counts.toList.getD new 0)))

/-- A pixel moves between classes (10 R240, R249, R252). -/
def State.moveClass (n : TileId) (p : Pixel) (old new code source period : Nat) (s : State) : State :=
  if old = new then s
  else
    let s := s.onDiag n fun d => { d.move old new with
      dead := if 4 ≤ new ∧ new ≤ 6 then d.dead.filter (fun e => e.1 ≠ p) ++ [(p, new)] else d.dead
      newFaults := d.newFaults + b2n (decide (3 ≤ new ∧ new ≤ 6)), newUnverified := d.newUnverified + b2n (decide (new = 7)) }
    let s := if 3 ≤ new ∧ new ≤ 6 then s.setFlag (Reg.TL_DIAG_EVT n) 0 else s
    let s := if new = 7 then s.setFlag (Reg.TL_DIAG_EVT n) 1 else s
    if 3 ≤ new ∨ ((old = 3 ∨ old = 7) ∧ new = 1) then s.pixelFault n p old new code source period else s

/-- The pending list after a verification: a SUSPECT pixel keeps its entry, any other leaves it (10 R242). -/
def pendAfter (p : Pixel) (cls stamp : Nat) (l : List PendProbe) : List PendProbe :=
  if cls = 2 then l.map fun e => if e.pix = p then { e with vstamp := stamp, suspect := true } else e
  else l.filter fun e => e.pix ≠ p

/-- A result other than NONE gives a pixel its class and VSTAMP (10 R240 to R242); `put` keeps the byte. -/
def State.classify (n : TileId) (p : Pixel) (code source period : Nat) (put : Nat → State → State) (s : State) : State :=
  let old := s.mapByte n p % 8
  let new := nextClass old (s.vfOutcome n code)
  let stamp := s.epoch % 32
  let s := s.onDiag n fun d => { d with pend := pendAfter p new stamp d.pend }
  (put (new + 8 * stamp) s).moveClass n p old new code source period

/-- A code that qualifies counts towards REF (10 R238, R240). -/
def State.countCode (n : TileId) (p : Pixel) (code : Nat) (s : State) : State :=
  let old := s.mapByte n p % 8
  let out := s.vfOutcome n code
  if 4 ≤ code ∧ code ≤ 0xFE ∧ out ≠ 4 ∧ out ≠ 5 ∧ ¬(4 ≤ old ∧ old ≤ 6) then
    s.onDiag n fun d => { d with passSum := d.passSum + code, passCount := d.passCount + 1 }
  else s

/-- A probe result other than NONE, on its arrival (10 R237 to R242). -/
def State.probeResult (n : TileId) (p : Pixel) (code period : Nat) (s : State) : State :=
  ((s.mapEcc n p).countCode n p code).classify n p code 1 period (State.noteMapByte n p)
/-- A scan result other than NONE, at the visit (10 R237 to R242). -/
def State.scanResult (n : TileId) (p : Pixel) (code period : Nat) (s : State) : State :=
  (s.countCode n p code).classify n p code (if code ≤ 2 then 2 else 0) period (State.putMapByte n p)

/-- A visit with outcome NONE: the age check, and the pending list (10 R241, R242). -/
def State.ageVisit (n : TileId) (p : Pixel) (period : Nat) (s : State) : State :=
  let b := s.mapByte n p
  let old := b % 8
  let stamp := b / 8 % 32
  let aged := decide (old ≤ 3) && decide (s.ageLimit n < (s.epoch % 32 + 32 - stamp) % 32)
  let new := if aged then 7 else old
  let s := s.putMapByte n p (new + 8 * stamp)
  let s := s.moveClass n p old new 0 3 period
  let s := if aged then s.onDiag n fun d => { d with pend := d.pend.map fun e => if e.pix = p then { e with suspect := false } else e } else s
  let d := s.diag n
  if (4 ≤ new ∧ new ≤ 6) ∨ (d.pend.any fun e => e.pix = p) then s
  else if d.pend.length < 4096 then s.onDiag n fun d => { d with pend := d.pend ++ [⟨p, stamp, decide (new = 2), none⟩] }
  else ((s.onDiag n fun d => { d with pendOvf := true }).setFlag (Reg.TL_DIAG_EVT n) 2).addSat (Reg.TL_DIAG_LATE n) 31 16 1

/-! ### Records (10 R237) -/

/-- Visits are made: the chip's view is ADMITTED to FALLBACK, and the device is not in FATAL. -/
def State.visiting (s : State) (n : TileId) : Bool := (s.port n).admitted && decide (s.dev.state ≠ .fatal)

/-- The codes of a VF record, with their pixels. -/
def vfPixels (b : VfBody) : List (Pixel × Nat) := b.codes.zipIdx.map fun e => ((b.col.toNat + e.2, b.line.toNat), e.1.toNat)

/-- A VF record. One of the present period that comes 10 µs before the cut or earlier is applied: probe results at once,
scan results at the visit. Any other is discarded and counted. -/
def State.vfIn (n : TileId) (h : RecHdr) (b : VfBody) (s : State) : State :=
  let cutAt := s.nextTick - 25000
  if decide (h.frame.toNat ≠ s.frame % 256) || s.timing.pastCut || decide (cutAt < s.lamp + 1000) then
    s.addSat (Reg.TL_DIAG_LATE n) 15 0 1
  else if !s.visiting n then s
  else
    let t := s.tileEntry n
    let ps := (vfPixels b).filter fun e => decide (e.1.1 < t.width ∧ e.1.2 < t.height)
    let f := s.frame
    let s := if b.probe then forEach (ps.filter (fun e => e.2 ≠ 0)) (fun e s => s.probeResult n e.1 e.2 f) s else s
    s.onDiag n fun d => { d with results := d.results ++ ps.map fun e => ⟨f, e.1, b.probe, e.2⟩ }

/-- A SENSOR record; the first after admission gives REF (10 R238). A VF_STEP of 0 gives the quotient no value (log 32). -/
def State.sensorIn (n : TileId) (b : SensorBody) (s : State) : State :=
  let s := s.onPort n fun p => { p with sensor := some b }
  let d := s.diag n
  match d.refDue, (s.port n).ident with
  | true, some i =>
    let step := i.vfStep.toNat
    let q : Int := if step = 0 then (s.free : Int) else (2 * ((b.vfMean.toNat : Int) - i.vfBase.toNat) + step) / (2 * step)
    let s := if step = 0 then s.useFree else s
    s.onDiag n fun d => { d with ref := (clampInt 4 0xFE (q + 4)).toNat, refDue := false }
  | _, _ => s

/-! ### Initialisation and passes (10 R238, R248 to R250) -/

/-- An initialisation begins at this cut. -/
def State.initCut (n : TileId) (s : State) : State :=
  let d := s.diag n
  let ofs := s.fld (Reg.TL_DIAG_FMAP n) 31 16
  let due := d.initDue || d.fmapInit || decide (d.ofs ≠ ofs)
  let bad := (s.fmapBase n).isNone && s.declared n
  let t := s.tileEntry n
  let s := s.onDiag n fun d => { d with ofs := ofs, bad := bad, initDue := false, fmapInit := false }
  if due then
    let zero : Vector Nat 8 := Vector.ofFn fun (i : Fin 8) => if i.val = 0 then t.width * t.height else 0
    s.onDiag n fun d => { d with
      counts := zero, pend := [], dead := [], shadow := [], unwritten := [], initLeft := 64, initFrame := s.frame }
  else s

/-- A visit of one pixel. While an initialisation runs, and where the map does not fit its partition, the pixel is taken as
UNTESTED before the visit is applied, a probe result of the period with it (10 R240, R248). -/
def State.visitPixel (n : TileId) (f : Nat) (p : Pixel) (s : State) : State :=
  let rs := (s.diag n).results.filter fun r => r.period = f ∧ r.pix = p ∧ r.code ≠ 0
  let fresh := decide (0 < (s.diag n).initLeft) || (s.diag n).bad
  let s := if fresh then s.takeUntested n p else s.mapEcc n p
  match rs.find? (·.probe), rs.find? (!·.probe) with
  | some r, _ => if fresh then s.classify n p r.code 1 f (State.putMapByte n p) else s
  | none, some r => s.scanResult n p r.code f
  | none, none => s.ageVisit n p f

/-- The visit writes what probe results of the period changed; a line that an initialisation has still to visit is written
then (10 R248). -/
def State.writeProbed (n : TileId) (s : State) : State :=
  let t := s.tileEntry n
  forEach (s.diag n).unwritten (fun e s =>
    let p := indexPix t e.1
    if s.initFresh n p.2 then s else s.putMapByte n p e.2) s

/-- REF at a pass end (10 R238). -/
def State.passRef (n : TileId) (s : State) : State :=
  s.onDiag n fun d => { d with
    ref := if d.passCount < 1024 then d.ref else (2 * d.passSum + d.passCount) / (2 * d.passCount)
    passSum := 0, passCount := 0 }

/-- The end of a pass: REF, header, record, fault inputs (10 R238, R247, R249, R250). -/
def State.passEnd (n : TileId) (f : Nat) (s : State) : State :=
  let s := (s.passRef n).onDiag n fun d => { d with pass := f / 64 }
  let s := s.writeMapHeader n
  let d := s.diag n
  let cnt := fun (c : Nat) => d.counts.toList.getD c 0
  let flags := b2n d.pendOvf + 2 * b2n d.classOvf + 4 * b2n (decide (d.dropped ≠ 0)) + 8 * b2n d.initEnded
  let s := s.post 0x51 (177 + 4 * n.val)
    (le 2 (min 0xFFFF d.newFaults) ++ le 2 (min 0xFFFF (cnt 7)) ++ le 2 (min 0xFFFF (cnt 4 + cnt 5 + cnt 6)) ++ le 2 (min 0xFFFF (cnt 3)) ++
      le 2 d.pend.length ++ le 2 (min 0xFFFF d.deferred) ++ le 1 d.ref ++ le 1 flags ++ le 2 (min 0xFFFF d.dropped))
  let s := if d.newFaults ≠ 0 then s.raiseGroup n 5 3 else s
  let s := if d.newUnverified ≠ 0 then s.raiseGroup n 6 3 else s
  let s := if d.pendOvf || d.classOvf then s.raiseGroup n 7 3 else s
  s.onDiag n fun d => { d with
    newFaults := 0, newUnverified := 0, deferred := 0, dropped := 0, pendOvf := false, classOvf := false, initEnded := false }

/-- One visit of an initialisation has been made. -/
def State.initVisited (n : TileId) (s : State) : State :=
  let d := s.diag n
  if d.initLeft = 0 then s
  else
    let s := s.onDiag n fun d => { d with initLeft := d.initLeft - 1, initEnded := d.initEnded || decide (d.initLeft = 1) }
    if d.initLeft = 1 then s.writeMapHeader n else s

/-- The pixels of period `f`'s scan set. -/
def scanPixels (t : TileEntry) (f : Nat) : List Pixel :=
  ((List.range t.height).filter fun y => y % 64 = f % 64).flatMap fun y => (List.range t.width).map fun x => (x, y)

/-- The visit at the cut that ends the composition of the present frame (10 R237). -/
def State.visitCut (n : TileId) (s : State) : State :=
  let f := s.frame
  if (s.diag n).visited = some f then s
  else
  let s := (s.initCut n).onDiag n fun d => { d with visited := some f }
  let s := if (s.diag n).pendFlush then s.onDiag n fun d => { d with pend := [], pendFlush := false } else s
  if s.visiting n then
    let s := forEach (scanPixels (s.tileEntry n) f) (State.visitPixel n f) s
    let s := s.onDiag n fun d => { d with lastPos := f % 64, active := true }
    let s := (s.initVisited n).writeProbed n
    let s := if f % 64 = 63 then s.passEnd n f else s
    s.onDiag n fun d => { d with results := [], periodRecs := 0 }
  else s.onDiag n fun d => { d with active := false, results := [], periodRecs := 0 }

/-! ### The class list (10 R246) -/

/-- The BOOST neighbours of dead pixels, in their order, each once. -/
def boostList (t : TileEntry) (dead : List (Pixel × Nat)) : List Pixel :=
  let isDead := fun (p : Pixel) => dead.any fun e => e.1 = p
  ((dead.filter (fun e => e.2 ≠ 6)).flatMap fun e =>
    let x := e.1.1
    let y := e.1.2
    let nb : List Pixel := (if x = 0 then [] else [(x - 1, y)]) ++ [(x + 1, y)] ++ (if y = 0 then [] else [(x, y - 1)]) ++ [(x, y + 1)]
    nb.filter fun p => decide (p.1 < t.width ∧ p.2 < t.height) && !isDead p).eraseDups

/-- The class list built at a cut, with its CLASS_LIST record where it changes. -/
def State.classCut (n : TileId) (s : State) : State :=
  let d := s.diag n
  let t := s.tileEntry n
  let dark := (d.dead.filter (fun e => e.2 ≠ 6)).map (·.1)
  let boost := if s.bit (Reg.TL_DIAG_CFG n) 1 then boostList t d.dead else []
  let keptD := dark.take 4096
  let keptB := boost.take (4096 - keptD.length)
  let list := keptD.map (fun p => (p, 1)) ++ keptB.map (fun p => (p, 2))
  let tooMany := decide (keptD.length < dark.length) || decide (keptB.length < boost.length)
  let s := if tooMany then (s.onDiag n fun d => { d with classOvf := true }).setFlag (Reg.TL_DIAG_EVT n) 3 else s
  let s := s.onPhot n fun p => { p with classes := list }
  if list = d.classList then s
  else
    (s.onDiag n fun d => { d with classList := list }).post 0x52 (178 + 4 * n.val)
      (le 2 keptD.length ++ le 2 keptB.length ++ le 2 (min 0xFFFF (boost.length - keptB.length)) ++
        le 2 (min 0xFFFF (dark.length - keptD.length)) ++ le 4 s.nextFrame)

/-! ### Probe schedules (10 R243; 04 R92) -/

/-- A rate change is pending or in its re-phase window. -/
def State.rateChanging (s : State) : Bool :=
  (match s.timing.retime with
   | some r => r.frameK.isSome
   | none => false) || s.timing.rephaseEnd.isSome

/-- Order of an entry: SUSPECT first, then larger age, then line, then column. -/
def PendProbe.order (epoch : Nat) (e : PendProbe) : Nat :=
  let age := (epoch % 32 + 32 - e.vstamp) % 32
  (((if e.suspect then 0 else 32) + (31 - age)) * 65536 + e.pix.2) * 65536 + e.pix.1

/-- The schedule for frame k+1 (log 117). -/
def State.schedule (s : State) (n : TileId) : List Pixel :=
  let d := s.diag n
  if !s.bit (Reg.TL_DIAG_CFG n) 0 || s.rateChanging || (s.port n).blind || decide (s.dev.state = .fatal) then []
  else
    let k := s.frame + 1
    let free := d.pend.filter fun e => match e.cancelled with
      | some f => decide (8 < (k + 2 ^ 32 - f) % 2 ^ 32)
      | none => true
    ((sortKey (PendProbe.order s.epoch) free).take (min 2048 (s.fld (Reg.TL_DIAG_CFG n) 27 16))).map (·.pix)

/-- The diagnostics engine's part of a cut. The strobes of TLn_DIAG_CTL end at it for a tile that is not declared, too (10 R252). -/
def State.diagCut (n : TileId) (s : State) : State :=
  if !s.declared n then s.onDiag n fun d => { d with fmapInit := false, pendFlush := false, pend := if d.pendFlush then [] else d.pend }
  else
    let s := (s.visitCut n).classCut n
    let l := s.schedule n
    s.onPhot n fun p => { p with sched := l }

/-- The visit that ends a pass, or an initialisation, made at its cut (log 13). -/
def State.visitAtCut (n : TileId) (due : Bool) (s : State) : State :=
  if due && s.timing.started && !s.timing.pastCut && s.visiting n then (s.advanceTo (s.nextTick - 25000)).visitCut n else s
def State.diagPassEnd (n : TileId) (s : State) : State := s.visitAtCut n (decide (s.frame % 64 = 63))
def State.fmapInitEnd (n : TileId) (s : State) : State := s.visitAtCut n (decide ((s.diag n).initLeft = 1))

/-- FMAP_INIT and PEND_FLUSH are requested (10 R252). -/
def State.fmapInitReq (n : TileId) (s : State) : State := s.onDiag n fun d => { d with fmapInit := true }
def State.pendFlushReq (n : TileId) (s : State) : State := s.onDiag n fun d => { d with pendFlush := true }

end Sys2Proof.Machine
end

