-- ==== Sys2Proof/Machine/FeedPort.lean ====
section
/-! DEFINITION. The feed port: lanes, packets, time stamps, status (16 R366 to R374; 04 R87). -/

namespace Sys2Proof.Machine

open Sys2Proof

/-- LANE_EN (R368). -/
def State.laneEn (s : State) : Nat := s.fld Reg.FEED_CFG 3 0
/-- Every enabled lane holds both locks within the skew (R368). -/
def State.feedAligned (s : State) : Bool :=
  let f := s.feed
  decide (s.laneEn ≠ 0) && decide (f.skew ≤ 64) &&
  (List.range 4).all fun i => !bitAt s.laneEn i || (f.blockLock.getLsbD i && f.markerLock.getLsbD i)

/-- The port leaves UP, with the first lane that lost lock (R368, R374). -/
def State.feedLeaves (lane : Nat) (s : State) : State :=
  if s.feed.state = 2 then
    (s.setFlag Reg.FEED_EVT 0).onFeed fun f => { f with state := 1, leftUp := if f.leftUp.isNone then some lane else f.leftUp }
  else s

/-- FEED_LANE_LOCK: an enabled lane gains block lock, or marker lock with the skew then measured; a port that is UP leaves it
where the skew is then past 512 bits (R367, R368). -/
def State.feedLaneLock (lane : Fin 4) (marker : Bool) (skew : Nat) (s : State) : State :=
  if !bitAt s.laneEn lane.val then s
  else
    let m : BitVec 4 := 1#4 <<< lane.val
    let s := if marker then s.onFeed fun f => { f with markerLock := f.markerLock ||| (m &&& f.blockLock), skew := skew % 128 }
      else s.onFeed fun f => { f with blockLock := f.blockLock ||| m }
    if s.feedAligned then s.onFeed fun f => { f with state := 2 } else s.feedLeaves lane.val

/-- FEED_LANE_LOCK_LOST (R367, R368). -/
def State.feedLaneLost (lane : Fin 4) (marker : Bool) (s : State) : State :=
  if !bitAt s.laneEn lane.val then s
  else
    let m : BitVec 4 := ~~~(1#4 <<< lane.val)
    (s.feedLeaves lane.val).onFeed fun f => { f with
      markerLock := f.markerLock &&& m, blockLock := if marker then f.blockLock else f.blockLock &&& m }

/-- A write to FEED_CFG (R368, R383): a change of LANE_EN restarts alignment, or takes the port DOWN. -/
def State.writeFeedCfg (v : Nat) (s : State) : State :=
  let n := bitsOf v 3 0
  let s := s.setFld Reg.FEED_CFG 9 8 (bitsOf v 9 8)
  if (n = 0 ∨ n = 1 ∨ n = 3 ∨ n = 15) ∧ n ≠ s.laneEn then
    let s := (s.feedLeaves 0).setFld Reg.FEED_CFG 3 0 n
    s.onFeed fun f => { f with
      state := if n = 0 then 0 else 1, markerLock := 0, blockLock := f.blockLock &&& BitVec.ofNat 4 n }
  else s

/-- A packet is discarded for its CRC (flag 1) or its format (flag 2) (R369). -/
def State.feedBad (crc : Bool) (s : State) : State :=
  let s := if crc then (s.setFlag Reg.FEED_EVT 1).addSat Reg.FEED_ERR 15 0 1 else (s.setFlag Reg.FEED_EVT 2).addSat Reg.FEED_ERR 31 16 1
  s.onFeed fun f => { f with errors := satAdd 0xFFFF f.errors 1, badPacket := true }

/-- The port receives: it is UP. -/
def State.feedUp (s : State) : Bool := decide (s.feed.state = 2)
def State.feedPacketError (k : PacketError) (s : State) : State := if s.feedUp then s.feedBad (decide (k = .crc)) else s
/-- A good packet is counted (R383). -/
def State.goodPacket (s : State) : State := s.addWrap Reg.FEED_CNT 31 0 1
/-- A good packet of an unknown type (R369). -/
def State.feedUnknown (type : Nat) (s : State) : State :=
  if !s.feedUp ∨ type = 1 ∨ type = 2 ∨ type = 4 then s
  else (s.goodPacket.setFlag Reg.FEED_EVT 6).addSat Reg.FEED_DROP2 31 16 1

/-- OBJECT_LIST: a payload of a wrong length is a format error (07 R149). -/
def State.objectList (p : Bytes) (s : State) : State :=
  if !s.feedUp then s
  else
    let s := s.goodPacket
    if p.length < 16 ∨ p.length ≠ 16 + 64 * rd p 6 1 then s.feedBad false else s.skimPacket s.nextCut p

/-! ### VIDEO_LINE (R370, R371; 03 R52) -/

/-- The header is as R370 gives. -/
def videoHeaderOk (p : Bytes) : Bool :=
  decide (32 ≤ p.length ∧ p.length ≤ 16384 ∧ p.length % 8 = 0 ∧ rd p 0 8 % 8 = 0 ∧ rd p 9 1 < 2 ∧ rd p 10 2 = 0 ∧ rd p 16 8 % 4 = 0) &&
  (decide (rd p 9 1 = 1) || decide (rd p 16 8 = 0)) && allZero (slice p 24 8)

/-- The destination is inside PART, of KIND 1 with feed write. -/
def State.videoDataOk (s : State) (p : Bytes) : Bool := match s.partEntry (rd p 8 1) with
  | some e => decide (e.kind = 1) && bitAt e.access 2 && e.holds (rd p 0 8) (p.length - 32)
  | none => false
/-- The fence word lies in a partition of KIND 1 or 4 with feed write. -/
def State.videoFenceOk (s : State) (p : Bytes) : Bool :=
  decide (rd p 9 1 = 0) || s.parts.any fun e => decide (e.kind = 1 ∨ e.kind = 4) && bitAt e.access 2 && e.holds (rd p 16 8) 4

/-- The data overlaps the captured range of a surface in force. -/
def State.videoOverlaps (s : State) (a n : Nat) : Bool :=
  tileIds.any fun c => slotIds.tail.any fun sl => ((s.churn c).layer sl).any fun L => overlap a n L.surface (surfExtent L.hdr)

/-- VIDEO_LINE; `room`: the receive buffers take it. -/
def State.videoLine (p : Bytes) (room : Bool) (s : State) : State :=
  if !s.feedUp then s
  else
    let s := s.goodPacket
    if !room then (s.setFlag Reg.FEED_EVT 4).addSat Reg.FEED_DROP2 15 0 1
    else
      let dataOk := videoHeaderOk p && s.videoDataOk p
      if !dataOk || !s.videoFenceOk p then
        ((if dataOk then s.deny 3 (rd p 16 8) else s.deny 2 (rd p 0 8)).setFlag Reg.FEED_EVT 3).addSat Reg.FEED_DROP 15 0 1
      else if s.dev.state = .hold ∧ s.videoOverlaps (rd p 0 8) (p.length - 32) then
        (s.setFlag Reg.FEED_EVT 5).addSat Reg.FEED_DROP 31 16 1
      else
        let s := s.dramWrite (rd p 0 8) (p.drop 32)
        if rd p 9 1 = 1 then s.dramWrite (rd p 16 8) (slice p 12 4) else s

/-! ### Time stamps (R372; 04 R87) -/

/-- TS_REQUEST: the launch of the reply, within 50 µs, is a free value (log 60). A payload of another length than 16
bytes is a format error (log 60). -/
def State.tsRequest (p : Bytes) (s : State) : State :=
  if !s.feedUp then s
  else
    let s := s.goodPacket
    if p.length ≠ 16 then s.feedBad false
    else if s.lamp < s.timing.tsBusyUntil then s.addSat Reg.TICK_TS_LAT 31 16 1
    else if !s.bit Reg.FEED_CFG 8 then s
    else
      let launch := s.lamp + s.free % 4900
      let t2 := s.lamp + 2 ^ 64 - s.fld Reg.TICK_TS_LAT 7 0
      let t3 := launch + s.fld Reg.TICK_TS_LAT 15 8
      let s := s.useFree.onTiming fun t => { t with tsBusyUntil := t3 }
      s.emit (.feedPacket 5 (slice p 0 12 ++ zeros 4 ++ le 8 (t2 % 2 ^ 64) ++ le 8 (t3 % 2 ^ 64)))

/-! ### At the cut and the tick (R373, R374) -/

/-- FEED_STATUS after a cut. -/
def State.feedStatus (s : State) : State :=
  if !s.bit Reg.FEED_CFG 9 ∨ !s.bit Reg.FEED_CFG 8 then s
  else
    let seq := (s.skim.list.map (·.seq)).getD 0
    let fresh := s.theDeal.isSome && s.skim.list.isSome && decide (s.skim.age = 0)
    let s := s.emit (.feedPacket 6 (le 4 s.nextFrame ++ le 2 seq ++ le 1 (min 15 s.skim.age + 16 * b2n s.skim.blind + 32 * b2n (!fresh)) ++
      le 1 s.timing.rate ++ le 8 s.nextTick ++ le 8 s.lamp ++ le 2 s.feed.errors ++ zeros 6))
    s.onFeed fun f => { f with errors := 0 }

/-- The FEED_LINK fault of the frame that has ended. -/
def State.feedTick (s : State) : State :=
  let f := s.feed
  let s := s.onFeed fun f => { f with leftUp := none, badPacket := false }
  let s := match f.leftUp with
    | some l => s.raise 11 l
    | none => s
  if f.badPacket ∧ f.leftUp = none then s.raise 11 0x10 else s

end Sys2Proof.Machine
end

