-- ==== Sys2Proof/Machine/Partner.lean ====
section
/-! DEFINITION. Partner operation: joining, the locked pair, takeover, leaving (14 R328 to R339). -/

namespace Sys2Proof.Machine

open Sys2Proof

/-! ### Records and what a chip tells of itself (R329, R339) -/

def State.ptnFlag (bit : Nat) (s : State) : State := s.setFlag Reg.PTN_EVT bit

/-- The identity and lit set a chip sends (R329 steps 2 and 3). -/
def State.peerInfo (s : State) : PeerInfo :=
  let d := s.theDeal
  ⟨(d.map (·.pairId)).getD 0, s.role, (d.map (·.seq)).getD 0, (d.map (·.matchDigest)).getD 0, s.dev.litSet, s.dev.state.code⟩
/-- The tick a chip tells its partner. -/
def State.peerTick (s : State) : PeerTick :=
  let t := s.timing
  ⟨s.lamp, t.frame, t.epoch, t.m, t.period, t.rate, t.syncSrc⟩
/-- Declared tiles that this chip has admitted. -/
def State.admittedMask (s : State) : BitVec 16 :=
  (s.declaredTiles.filter fun (n : TileId) => (s.port n).admitted).foldl (fun (m : BitVec 16) (n : TileId) => m ||| (1#16 <<< n.val)) 0

/-! ### Joining (R329) -/

/-- PARTNER_JOIN from step 5 on (R328). A locked pair needs no join; one that joins is busy (log 62). -/
def partnerJoinBody : Body := fun c ref s =>
  checked [] [(decide (s.role = 0), .range, 0xFF), (decide (s.partner.state = 1), .busy, 0xFF)] c ref
    (fun s =>
      let s := s.accept ref
      if s.partner.state = 2 then s.completeOk ref 0
      else s.onPartner fun p => { p with state := 1, join := some (ref, s.lamp), joinStep := 0, peer := none, peerAdmitted := 0 }) s

/-- The join ends without lock: the chip is SOLO (R329, R339). -/
def State.joinFails (st : Status) (s : State) : State := match s.partner.join with
  | some j => (s.completeWith j.1 st).joinEnds st
  | none => s

/-- This chip adopts the partner's timing and lit set (R329 step 4). -/
def State.adopting (s : State) (p : PeerInfo) : Bool :=
  decide (s.dev.litSet = 0) && (decide (p.litSet ≠ 0) || decide (s.role = 2))

/-- PAIR_ID, DEAL_SEQ and digest agree, and the roles are 1 and 2 (R329 step 2). -/
def State.pairOk (s : State) (p : PeerInfo) : Bool :=
  let q := s.peerInfo
  decide (p.pairId = q.pairId ∧ p.dealSeq = q.dealSeq ∧ p.digest = q.digest) && decide (p.role + q.role = 3 ∧ 1 ≤ p.role ∧ 1 ≤ q.role)

/-- A join goes as far as it can now: link, identity, lit sets (R329 steps 1 to 3). -/
def State.joinGo (s : State) : State :=
  if s.partner.join.isNone then s
  else
    let s := if s.partner.joinStep = 0 ∧ s.partner.laneLock = 3 then
        (s.onPartner fun p => { p with joinStep := 1 }).emit (.partner (.hello s.peerInfo))
      else s
    match s.partner.peer with
    | none => s
    | some p =>
      if s.partner.joinStep = 0 then s
      else if !s.pairOk p then s.joinFails .auth
      else if 3 ≤ s.partner.joinStep then s
      else if s.dev.litSet ≠ 0 ∧ p.litSet ≠ 0 then s.joinFails .aborted
      else if p.state = 6 ∨ p.state = 7 then s.onPartner fun x => { x with joinStep := 2 }
      else s.onPartner fun x => { x with joinStep := if s.adopting p then 3 else 5 }

/-- PARTNER_LINK_LOCK: a lane of the partner link locks; with both the partner is found (R328, R329). -/
def State.partnerLinkLock (lane : Fin 2) (delay : Nat) (s : State) : State :=
  if s.role = 0 then s
  else
    let s := s.onPartner fun p => { p with laneLock := p.laneLock ||| (1#2 <<< lane.val), delay := delay }
    let s := if s.partner.laneLock = 3 then s.onPartner fun p => { p with waitFrames := none, missing := false } else s
    s.joinGo

/-- PTN_NOT_FOUND: 64 frames without lock since DEALT (R328). -/
def State.ptnNotFound (s : State) : State :=
  if s.partner.waitFrames.any fun k => decide (64 ≤ k) then
    (((s.onPartner fun p => { p with waitFrames := none, missing := true }).ptnFlag 3).raise 116 0).partnerRecord 5 0
  else s

/-- PARTNER_JOIN_TIMEOUT: 1,000 ms (R329). -/
def State.joinTimeout (s : State) : State := match s.partner.join with
  | some j => (s.advanceTo (j.2 + msCounts 1000)).joinFails .timeout
  | none => s

/-- PARTNER_REDEAL_TIMEOUT: no paired image from the partner within 1,000 ms (R334). -/
def State.partnerRedealTimeout (s : State) : State := match s.deal.redeal with
  | some r =>
    if s.partner.state = 2 && !r.paired && !r.taken then
      ((s.advanceTo (r.verified + msCounts 1000)).onDeal fun d => { d with redeal := none }).completeWith r.ref .timeout
    else s
  | none => s

/-- The adopting chip admits every declared tile on its own lane, each once it has trained (R329 step 5). -/
def State.joinAdmits (s : State) : State :=
  if s.partner.adopted && s.partner.join.isSome then
    forEach (s.declaredTiles.filter s.admissible) (fun n s => s.startAdmission n none) s
  else s

/-- The adopting chip takes the lit set at its cut, and begins to admit the declared tiles (R329 steps 4 and 5). -/
def State.adoptCut (s : State) : State := match s.partner.adopt.filter (fun _ => s.partner.timing.isNone) with
  | some a =>
    let s := s.onPartner fun p => { p with adopt := none, joinStep := 5, adopted := true, lanesOff := false }
    let s := if a.1 = 0 then s
      else
        let s := s.onDev fun d => { d with litSet := a.1 }
        if s.dev.state = .dealt then (s.setDevState .lit 0x11).abortIllegal else s
    s.joinAdmits
  | none => s

/-- The pair is LOCKED at the first tick at which every declared tile is admitted on both lanes (R329 step 6): as soon as
both chips' masks of that tick are known, so that the two lock at one tick. -/
def State.joinLock (s : State) : State := match s.partner.join with
  | some j =>
    let all := s.declaredTiles.foldl (fun (m : BitVec 16) (n : TileId) => m ||| (1#16 <<< n.val)) 0
    if s.partner.joinStep = 5 ∧ s.partner.ownAdmitted &&& all = all ∧ s.partner.peerAdmitted &&& all = all then
      let s := s.onPartner fun p => { p with
        state := 2, join := none, joinStep := 0, adopted := false, fromPartner := decide (s.role = 2), lanesOff := false, held := [], cmds := [] }
      (s.completeOk j.1 0).partnerRecord 1 0
    else s
  | none => s

/-! ### Takeover and leaving (R335, R337) -/

/-- The lines of the present frame that the secondary still holds go out as its own parcels, after the PROBES of every line
for which the plan held none (R335 steps 3 and 4). -/
def State.sendHeld (s : State) : State :=
  let lines := s.partner.held.filter fun h => decide (h.frame = s.frame)
  let s := s.onPartner fun p => { p with held := [] }
  let probed (s : State) (h : HeldLine) : Bool := (s.port h.tile).tracks.any fun t => t.isProbes && decide (t.line = some h.line ∧ t.frame = h.frame)
  forEach lines (fun h s =>
    let s := if probed s h then s else s.queueProbes h.tile h.frame h.line h.fired
    match h.own with
    | some (_, segs) => forEach (segs.filter fun g => !h.acked.contains g.1) (fun g s => s.newParcel h.tile 1 g.1 0 g.2 h.frame (some h.line)) s
    | none => s) s

/-- The survivor is ALONE (R335); `cause` 1 to 4. A generator that follows SYNC_IN itself starts in SEEK (log 118). -/
def State.takeover (cause : Nat) (s : State) : State :=
  if s.partner.state ≠ 2 then s
  else
    let was := s.partner.fromPartner
    let lost := if cause = 1 then s.partner.laneLock.toNat else 0
    let s := s.onPartner fun p => { p with
      state := 3, fromPartner := false, laneLock := if cause = 1 then 0 else p.laneLock
      takeovers := satAdd 0xFFFF p.takeovers 1, cmds := [], cuts := [], outs := [], timing := none, leaveDue := false }
    let s := if was && s.timing.syncSrc then s.onTiming fun t => { t with lock := {} } else s
    let s := s.sendHeld
    let s := (s.ptnFlag 0).raise 113 lost
    ((s.ptnFlag 1).raise 114 cause).partnerRecord 3 cause

/-- PARTNER_LOSS (R335). Outside LOCKED the link's lock is lost, and no port is taken over. -/
def State.partnerLoss (c : LossCause) (s : State) : State :=
  if s.partner.state = 2 then s.takeover (match c with
    | .lanesUnlocked => 1
    | .silence => 2
    | .fatalNotice => 3)
  else if c = .lanesUnlocked ∧ s.partner.laneLock ≠ 0 then
    let lost := s.partner.laneLock.toNat
    (((s.onPartner fun p => { p with laneLock := 0 }).ptnFlag 0).raise 113 lost).partnerRecord 2 0
  else s

/-- PARTNER_LEAVE from step 5 on (R328, R337): it takes effect at the next frame tick, and a locked partner is told. -/
def partnerLeaveBody : Body := fun c ref s =>
  checked [] [(decide (s.role = 0), .range, 0xFF), (s.partner.leave.isSome, .busy, 0xFF)] c ref
    (fun s =>
      let s := (s.accept ref).onPartner fun p => { p with leave := some ref }
      if s.partner.state = 2 then s.emit (.partner .leave) else s) s

/-- The chip leaves at the tick: its lanes go off (R337). -/
def State.leaveTick (s : State) : State := match s.partner.leave with
  | some ref =>
    let s := if s.partner.join.isSome then s.joinFails .aborted else s
    let s := s.onPartner fun p => { p with
      state := 4, leave := none, lanesOff := true, fromPartner := false, held := [], cmds := [], cuts := [], outs := [], timing := none }
    let s := forEach s.declaredTiles (fun n s => forEach s.chipLanes (fun l s => s.emit (.laneIdle n l true)) s) s
    (s.completeOk ref 0).partnerRecord 4 0
  | none => s

/-! ### Messages (R331 to R334) -/

/-- A RETIME parcel of the plan tells the secondary how the primary has decided: 2 to proceed, 3 to abandon (R334; 04 R90). -/
def State.planRetime (kind : Nat) (s : State) : State :=
  if kind = 2 ∨ kind = 3 then s.onTiming fun t => { t with retime := t.retime.map fun r => { r with decided := some (decide (kind = 2)) } }
  else s

/-- A parcel of the plan (R331): the secondary sends it with the same SEQ; ADMIT is patched to its lane. -/
def State.planIn (n : TileId) (frame : Nat) (line : Option Nat) (p : Parcel) (s : State) : State :=
  let seq := p.seq.toNat
  let ty := p.type.toNat
  let s := s.onPort n fun x => { x with nextSeq := x.seqAfter seq (decide (ty = 5)) }
  match ty, line with
  | 8, _ => s
  | 1, some y => (s.onHeld n frame y fun h => { h with plan := h.plan ++ [(p.addr.toNat, seq)] }).releaseHeld n frame y
  | _, _ =>
    let due := if ty = 3 then s.openLanes n else []
    let q : Parcel := if ty = 5 then { p with payload := p.payload.take 10 ++ [2#8] ++ p.payload.drop 11 } else p
    let t : Track := { parcel := { q with kitty := false, tryN := 0 }, frame := frame, line := line, due := due }
    let s := if ty = 4 then s.planRetime (p.arg.toNat % 4) else s
    s.onPort n fun x => { x with
      tracks := (if ty = 5 then x.tracks.filter (!·.admits) else x.tracks) ++ [t]
      closeSent := x.closeSent || decide (ty = 3)
      admission := if ty = 5 then some ⟨none, s.lamp, false⟩ else x.admission
      retirement := if ty = 6 then x.retirement.map fun r => { r with stage := 3 } else x.retirement }

/-- The primary's values for the next frame are in force (R333). -/
def State.takePeerCut (x : PeerCut) (s : State) : State :=
  s.onPhot x.tile fun p => { p with sched := x.sched, classes := x.classes, scale := x.scale, debt := x.debt }

/-- A command of the primary is carried out here too (R334): state commands and TRUMP_SELECT at the coming cut, TIMING_SET
as the primary's plan decides it, the link's at once. Admissions come with the plan; FLASH parcels travel on lane A alone
(R331). -/
def State.commandIn (op : Nat) (c : Cmd) (s : State) : State :=
  if isStateCmd op || decide (op = 0x13) then s.onPartner fun p => { p with cmds := p.cmds ++ [(op, c)] }
  else if op = 0x09 then
    (s.onPartner fun p => { p with redealCut := none }).onTiming fun t => { t with
      retime := t.retime.or (some ⟨none, par c 8 1, par c 9 1, none, 0, 0, none⟩) }
  else if op = 0x21 then
    s.onPort (opTile c) fun p => if p.retirement.isSome then p else { p with retirement := some ⟨none, 0, 0, false⟩ }
  else if op = 0x28 then
    s.onPort (opTile c) fun p => { p with test := some ⟨none, par c 9 1, par c 10 2, false, par c 10 2, 0, par c 9 1⟩ }
  else s

/-- PARTNER_MESSAGE. A message that the pair's state does not expect does nothing. -/
def State.partnerMessage (msg : PartnerMsg) (s : State) : State :=
  let locked := decide (s.partner.state = 2)
  match msg with
  | .hello p =>
    if s.role = 0 then s
    else
      let first := s.partner.peer.isNone
      (s.onPartner fun x => { x with
        peer := some p, join := x.join.map fun j => if first then (j.1, max j.2 s.lamp) else j }).joinGo
  | .tick t =>
    if s.lockedSecondary then
      (s.onPartner fun x => { x with timing := some t, offset := (s.free % 5 + 65534) % 65536 }).useFree
    else if s.partner.join.isSome ∧ s.partner.joinStep = 3 then
      s.onPartner fun x => { x with timing := some t, joinStep := 4, adopt := x.peer.map fun p => (p.litSet, p.state) }
    else s
  | .admitted m => if s.partner.join.isSome then (s.onPartner fun x => { x with peerAdmitted := m }).joinLock else s
  | .plan n frame line p => if s.lockedSecondary then s.planIn n frame line p else s
  | .digest n line crc => if s.lockedSecondary then (s.onHeld n s.frame line fun h => { h with peer := some crc }).releaseHeld n s.frame line else s
  | .cutData n sched classes scale debt =>
    let x : PeerCut := ⟨n, sched, classes, scale, debt⟩
    if !s.lockedSecondary then s
    else if s.timing.pastCut then s.takePeerCut x
    else s.onPartner fun p => { p with cuts := p.cuts ++ [x] }
  | .outputs vals => if s.lockedSecondary then s.onPartner fun p => { p with outs := vals } else s
  | .command op c => if s.lockedSecondary then s.commandIn op c else s
  | .safeLight => if locked then s.safeLightDue 0x10 else s
  | .fatal => if locked then s.takeover 3 else s
  | .leave => if locked then s.onPartner fun p => { p with leaveDue := true } else s
  | .redealReady g d => ((s.onPartner fun p => { p with redealReady := some (g, d) }).pairRedeal).nameCut
  | .redealCut f => if s.lockedSecondary then s.onPartner fun p => { p with redealCut := some f } else s

/-! ### The pair at frame ticks, cuts and sample ticks -/

/-- The partner block at a frame tick, once the tick is placed. -/
def State.partnerTick (s : State) : State :=
  if s.role = 0 then s
  else
    let s := s.ptnNotFound
    let s := s.onPartner fun p => { p with
      waitFrames := p.waitFrames.map (· + 1), held := p.held.filter fun h => decide (h.frame = s.frame), divergeTile := none }
    let s := if s.partner.leaveDue then s.takeover 4 else s
    let s := s.leaveTick
    let s := s.onPartner fun p => { p with ownAdmitted := s.admittedMask }
    let s := if s.partner.join.isSome then
        let s := s.joinAdmits
        let s := if 1 ≤ s.partner.joinStep then (s.emit (.partner (.hello s.peerInfo))).emit (.partner (.admitted s.admittedMask)) else s
        s.joinGo.joinLock
      else s
    let s := if s.lockedPrimary ∨ s.partner.joinStep = 5 then s.emit (.partner (.tick s.peerTick)) else s
    s.nameCut

/-- A frame with divergent lines is reported at the tick that ends it (R332). -/
def State.divergeReport (s : State) : State := match s.partner.divergeTile with
  | some n => (s.ptnFlag 2).raise 115 n
  | none => s

/-- The secondary's part of a cut: the primary's commands and values (R333, R334). -/
def State.partnerCommands (s : State) : State :=
  let cmds := s.partner.cmds.filter fun x => legalIn x.1 s.dev.state
  forEach cmds (fun x s => if x.1 = 0x13 then forEach (maskTiles (par x.2 8 2)) (State.selectPage (par x.2 10 1)) s
    else s.stateEffect x.1 (par x.2 8 2)) (s.onPartner fun p => { p with cmds := [] })
def State.partnerCuts (s : State) : State :=
  let xs := s.partner.cuts
  forEach xs State.takePeerCut (s.onPartner fun p => { p with cuts := [] })

/-- The primary's part of a cut: what the secondary composes the next frame with (R333). -/
def State.sendCutData (s : State) : State :=
  if !s.lockedPrimary then s
  else forEach s.declaredTiles (fun n s =>
    let p := s.phot n
    s.emit (.partner (.cutData n p.sched p.classes p.scale p.debt))) s

/-- The output codes of tile signals that loops drive. -/
def State.tileOutputs (s : State) : List Nat :=
  ((s.theDeal.map (·.loops)).getD []).flatMap fun e => e.outs.filter fun c => decide (c / 256 < 0x13)
/-- The primary sends its tile outputs at each sample tick. -/
def State.sendOutputs (s : State) : State :=
  if s.lockedPrimary then s.emit (.partner (.outputs (s.tileOutputs.map fun c => (c, s.sigOut c)))) else s
/-- The secondary's tile loops track the primary's outputs (R333). -/
def State.trackOutputs (s : State) : State :=
  if !s.lockedSecondary then s
  else
    let outs := s.partner.outs
    forEach loopIds (fun l s => match s.loopEntry l with
      | none => s
      | some e => s.onLoop l fun lp => { lp with
          vp := lp.vp.zipIdx.map fun v => (((outs.find? fun o => o.1 = e.outs.getD v.2 0).map (·.2)).getD v.1) }) s

end Sys2Proof.Machine
end

