-- ==== Sys2Proof/Machine/Frame.lean ====
section
/-! DEFINITION. The frame tick, the sample tick, the cut fence, the cut and the retry horizon, each with the work of every
subsystem in its order, and the rows that name one effect of them (01 R14 to R17; 03 R52; 04 R78 to R82). -/

namespace Sys2Proof.Machine

open Sys2Proof

/-! ### What composes (05 R96; 08 R175; 14 R324) -/

/-- The tile's churn composes the next frame, `loc` being the groups that are local in it. -/
def State.composes (s : State) (loc : BitVec 4) (n : TileId) : Bool :=
  s.inLit n && s.declared n && s.ready (7 + groupOf n) &&
  (decide (s.dev.state = .lit ∨ s.dev.state = .hold) || (decide (s.dev.state = .safeLight) && !loc.getLsbD (groupOf n)))

/-- Groups local in the next frame. -/
def State.nextLocal (s : State) : BitVec 4 := s.faults.localGroups ||| s.faults.localNext
/-- The tiles whose churns compose the next frame. -/
def State.nextComposing (s : State) : List TileId := tileIds.filter (s.composes s.nextLocal)

/-! ### Sweep intervals (07 R156, R157, R168) -/

/-- The periods of a TIMING_SET that PEND shows, or of a rate change in its re-phase window. -/
def State.rateChange (s : State) : Option (Nat × Nat) := match s.shownRetime with
  | some r => some (nominalPeriod s.timing.rate, nominalPeriod r.rate)
  | none => s.timing.rephaseEnd.map fun _ => (nominalPeriod s.timing.oldRate, nominalPeriod s.timing.rate)

/-- The sweeps of a setup made at this cut. -/
def State.sweepPlan (s : State) : SweepPlan :=
  let n := 2 ^ s.throttle
  ⟨s.tickAhead 1, s.tickAhead 2, s.tickAhead n, s.tickAhead (n + 1), s.rateChange, n⟩

/-! ### Sample ticks (01 R16; 11 R256; 14 R333) -/

/-- The next sample tick of the frame. -/
def State.sampleTick (missed : List LoopId) (s : State) : State :=
  let j := s.timing.nextSample
  if !s.timing.started || decide (7 < j) then s
  else
    let s := (s.advanceTo (s.sampleAt j)).onTiming fun t => { t with
      sample := j, nextSample := j + 1, sampleCnt := (t.sampleCnt + 1) % 65536 }
    (s.trackOutputs.ctlTick missed).sendOutputs

/-- The sample ticks that a frame still has before its cut (log 13). -/
def State.samplesLeft : Nat → State → State
  | 0, s => s
  | k + 1, s => (s.sampleTick []).samplesLeft k

/-! ### The cut fence (05 R105, R106) -/

/-- CUT_FENCE. -/
def State.cutFence (s : State) : State :=
  if !s.timing.started || s.timing.fenced || s.timing.pastCut then s
  else
    let s := (s.advanceTo (s.cutAt - 5000)).onTiming fun t => { t with fenced := true }
    if s.dev.state = .hold then s else s.readFences

/-! ### The cut (01 R15; 03 R52, R54; 04 R81) -/

/-- An RWS register that the cut copies now. -/
def cutCopies (st : DevState) (off : Nat) : Bool :=
  !(decide (0x060000 ≤ off) && decide (off < 0x070000)) &&
  !(decide (st = .hold) && ((decide (0x100000 ≤ off) && decide (off < 0x200000)) || (decide (0x300000 ≤ off) && decide (off < 0x308000))))

/-- Lines of the frame that no CHURN_LINE has composed by the cut are sent as REPEAT (01 R17, log 73). -/
def State.linesLost (n : TileId) (s : State) : State :=
  let c := s.churn n
  if !c.composing then s
  else
    let next := match c.line with
      | some l => l + 1
      | none => 0
    forEach ((List.range ((s.tileEntry n).height - next)).map (· + next)) (fun y s => (s.repeatLine n y 0 0).lineDone n y) s

/-- The end of a tile's frame: the STALE_SURFACE and REPEAT_LINES records, CHURN_REPEAT, the withdrawal of a failed page (05 R115, R116, R124). -/
def State.frameEnd (n : TileId) (s : State) : State :=
  let s := (s.staleRecords n).repeatRecord n
  let s := if (s.churn n).repCause % 32 ≠ 0 then s.raiseGroup n 11 3 else s
  s.onChurn n fun c => { c with withdrawn := c.withdrawn || c.pageFailed }

/-- State commands and what the partner brings, with the reaction timer of a device that enters LIT (R50; 14 R320, R329, R334). -/
def State.cutStates (s : State) : State :=
  let was := s.dev.state
  let s := s.stateCut.partnerCommands.adoptCut
  if s.dev.state = .lit ∧ was ≠ .lit ∧ s.faults.urgent ≠ 0 ∧ s.faults.timer.isNone then s.startTimer else s

/-- What the cut closes of the frame that ends. -/
def State.cutClose (s : State) : State := (forEach tileIds (fun n s => (s.linesLost n).frameEnd n) s).potBook

/-- What the cut brings into force for the next frame. A state command that takes effect at CUT(k) comes before the decision on
a TIMING_SET there, and aborts one that it makes illegal (DESIGN CHOICE, log 105; R93 says what falls before CUT(k)). -/
def State.cutOpen (s : State) : State :=
  let s := s.rephaseCheck.cutStates.timingCut
  let r := s.redealCut
  let s := r.1
  let ofs := (Sparse.find? s.rws Reg.TICK_SYNC_IN_OFS).isSome
  let s := ((s.copyRws (cutCopies s.dev.state)).clampOfs ofs).syncOutCut
  let s := s.layersCut
  let s := s.skimCut s.sweepPlan s.throttle
  let s := forEach tileIds (fun n s => (s.retireCut n).blindDropped n) s
  let s := s.litCheck
  let next := s.nextComposing
  let s := forEach tileIds (fun n s => s.calCut (next.contains n) n) s
  let s := s.potPlan next
  let s := forEach tileIds (fun n s => s.diagCut n) s
  let s := s.partnerCuts.onDev fun d => { d with auditOn := d.auditOn || (s.theDeal.isSome && s.dev.state.dealtOrLater) }
  ((s.cutAudits r.2).sendCutData).feedStatus

/-- CUT. Sample ticks and the fence that lie before it have come (log 13). -/
def State.cutNow (s : State) : State :=
  if !s.timing.started || s.timing.pastCut then s
  else
    let s := (s.samplesLeft (8 - s.timing.nextSample)).cutFence
    let s := (s.advanceTo s.cutAt).onTiming fun t => { t with pastCut := true, cutCnt := (t.cutCnt + 1) % 65536 }
    s.cutClose.cutOpen

/-- RETRY_HORIZON, after its cut. -/
def State.horizonNow (s : State) : State := s.cutNow.retryHorizon

/-! ### The frame tick (01 R14; 04 R79) -/

/-- A skim setup at the undivided clock that has not ended yet ends within 130 µs (07 R167, log 13). -/
def State.setupTick (s : State) : State :=
  if s.skim.level = 0 ∧ (s.skim.setup.any fun u => !u.done) then (s.setupDone (s.free % 13001) false).useFree else s

/-- Groups become local at the tick, in SAFE_LIGHT alone (14 R324). -/
def State.localTick (s : State) : State :=
  let loc := if s.dev.state = .safeLight then s.nextLocal else 0
  s.onFaults fun f => { f with localGroups := loc, localNext := 0, localFrame := loc }

/-- The TICK block of a port that sends it: in FATAL too, on a single chip (09 R198; 14 R326, R336). -/
def State.sendTick (newRate : Bool) (n : TileId) (s : State) : State :=
  let p := s.port n
  let lit := s.served n && s.ready (11 + groupOf n) && !s.partner.lanesOff && s.dev.state.dealtOrLater
  if lit && s.chipLanes.any (fun l => decide (p.pwr l < 2)) then s.emit (.tick n s.frame s.timing.rate newRate) else s

/-- What a tick does about the frame that ended at it. Its records carry the new frame's number (09 R231; 15 R344). -/
def State.tickClose (s : State) : State :=
  let s := s.tickAudits
  let s := forEach tileIds (fun n s => s.linkTick n) s
  (forEach tileIds (fun n s => s.moveCharge n) s).firewallTick.feedTick.divergeReport

/-- The churn begins its frame; a tile takes part in the pot for the frames its churn composes (05 R96; 08 R175). -/
def State.composeTick (loc : BitVec 4) (n : TileId) (s : State) : State :=
  let c := s.composes loc n
  (s.churnFrame n c (decide (s.dev.state ≠ .safeLight))).onPhot n fun p => { p with inPot := c }

/-- FRAME_TICK. The cut and the horizon of the frame that ends have come (log 13). -/
def State.frameTick (s : State) : State :=
  if s.dev.state = .off then s
  else
    let s := if s.timing.started then s.horizonNow else s
    let s := if s.timing.started then s.advanceTo s.nextTick else s
    let r := s.retimeTick
    let s := (r.1.redealTick.setupTick.placeTick.tickClose).localTick.noticeTick.partnerTick
    let s := forEach tileIds (State.composeTick s.faults.localGroups) s
    (forEach tileIds (fun n s => s.sendTick r.2 n) s).scanTick

/-! ### Rows that name one effect (log 13) -/

/-- The present frame's cut, if it has the effect `p` that the row names; nothing otherwise. -/
def State.cutIf (p : State → Bool) (s : State) : State :=
  let t := s.cutNow
  if p t then t else s

/-- REDEAL_TAKE_EFFECT: the cut is C. -/
def State.redealNow (s : State) : State :=
  if s.deal.redeal.any (fun r => !r.taken) then s.cutIf fun t => t.deal.redeal.any (·.taken) else s

/-- LAYER_COMMIT_TIMEOUT: the eighth cut of a fenced commit. -/
def State.commitTimeout (n : TileId) (sl : Fin 8) (s : State) : State := match (s.churn n).op sl with
  | some o =>
    let late (t : State) : Bool := (t.ring o.ref.ring).window.any fun w =>
      decide (w.id = o.ref.id) && w.done.any fun c => decide (c.status = .timeout)
    if o.layer.isSome ∧ o.fenceAddr ≠ 0 then s.cutIf late else s
  | none => s

/-- POT_PERSIST: the cut at which a tile has been in debt for OVR_FRAMES cuts. -/
def State.potPersist (n : TileId) (s : State) : State :=
  if (s.phot n).persisted then s else s.cutIf fun t => (t.phot n).persisted

/-- CAL_ENTRY_COMPLETE: the cut at which the entry step reaches 64. -/
def State.calEntryNow (n : TileId) (s : State) : State :=
  if (s.phot n).calJob.any fun j => j.table.isSome then s.cutIf fun t => (t.phot n).calJob.isNone else s

/-- SKIM_BLIND_ENTRY: the cut at which AGE reaches STALE_LIMIT, or the horizon is too long. -/
def State.blindNow (s : State) : State := if s.skim.blind then s else s.cutIf fun t => t.skim.blind

/-- MAINT_WINDOW_CLOSE: the first cut at or after a window's end. -/
def State.maintClose (n : TileId) (s : State) : State :=
  if (s.skim.maintEnd.get n).isSome then s.cutIf fun t => (t.skim.maintEnd.get n).isNone else s

/-- RETIME_DECISION: CUT(k). -/
def State.retimeNow (s : State) : State :=
  if s.timing.retime.any fun r => r.decided.isNone then s.cutIf fun t => t.timing.retime.any fun r => r.decided.isSome else s

end Sys2Proof.Machine
end

