-- ==== Sys2Proof/Machine/RegView.lean ====
section
/-! DEFINITION. What every register reads as (00 R4 to R7; 18 R408 to R413): the views of the state that the register
tables of the chapters give, and the values kept as registers. -/

namespace Sys2Proof.Machine

open Sys2Proof

/-- A register's value from its fields (high bit, low bit, value). -/
def fields (l : List (Nat × Nat × Nat)) : Nat := l.foldl (fun a f => a + f.2.2 % 2 ^ (f.1 + 1 - f.2.1) * 2 ^ f.2.1) 0
/-- Word `w` of a sequence of 64-bit counters. -/
def counterWord (l : List Int) (w : Nat) : Nat := patternOf 64 (l.getD (w / 2) 0) / 2 ^ (32 * (w % 2))
/-- Word `w` of a sequence of 64-bit counters, of which a read of an even word latches the odd word after it. -/
def latchedWord (l : List Int) (hi : List Nat) (w : Nat) : Nat := if w % 2 = 0 then counterWord l w else hi.getD (w / 2) 0
/-- The upper words after a read of word `w` (08 R191). -/
def latchWord (l : List Int) (hi : List Nat) (w : Nat) : List Nat :=
  (List.range l.length).map fun i => if w = 2 * i then counterWord l (w + 1) % 2 ^ 32 else hi.getD i 0
/-- An index of a register row as a tile, a slot, and so on. -/
def tileAt (n : Nat) : TileId := ⟨n % 16, Nat.mod_lt _ (by decide)⟩
def fin8 (n : Nat) : Fin 8 := ⟨n % 8, Nat.mod_lt _ (by decide)⟩
def fin4 (n : Nat) : Fin 4 := ⟨n % 4, Nat.mod_lt _ (by decide)⟩
def fin2 (n : Nat) : Fin 2 := ⟨n % 2, Nat.mod_lt _ (by decide)⟩
def loopAt (n : Nat) : LoopId := ⟨n % 64, Nat.mod_lt _ (by decide)⟩

/-- What a register with indices `i`, `j` reads. -/
abbrev View := State → Nat → Nat → Nat

/-! ### DEV (01 R27; 02 R49; 03 R56, R62; 08 R192) -/

def PotLedger.words (l : PotLedger) : List Int := [l.granted, l.consumed, l.trump, l.unspent]

def viewsDev : List (Nat × View) := [
  (Reg.DEV_IDENT, fun _ _ _ => 0x51543216),
  (Reg.DEV_STATE, fun s _ _ => fields [(3, 0, s.dev.state.code), (7, 4, s.dev.prev), (15, 8, s.dev.cause), (16, 16, b2n s.dev.stateCmd.isSome)]),
  (Reg.DEV_AUDIT_STAT, fun s _ _ => (s.reg Reg.DEV_AUDIT_STAT).toNat + 256 * b2n s.auditing),
  (Reg.DEV_DEAL_STAT, fun s _ _ =>
    let pend := s.deal.redeal.filter fun r => !r.taken
    fields [(0, 0, b2n s.theDeal.isSome), (1, 1, b2n pend.isSome), (3, 2, (pend.map (·.group)).getD 0), (5, 4, s.deal.source),
      (9, 8, (s.theDeal.map (·.keySlot)).getD 0), (15, 12, s.deal.lastResult), (22, 16, (s.theDeal.map (·.secVer)).getD 0)]),
  (Reg.DEV_DEAL_SEQ, fun s _ _ => (s.theDeal.map (·.seq)).getD 0),
  (Reg.DEV_POT_CHIP_STAT, fun s _ _ =>
    fields [(16, 0, s.pot.factor), (24, 24, s.fld Reg.DEV_POT_CHIP_STAT 24 24), (25, 25, b2n (decide (0 < s.pot.debt)))]),
  (Reg.DEV_POT_CHIP_DEBT, fun s _ _ => s.pot.debt / 256),
  (Reg.DEV_POT_LEDGER 0, fun s w _ => latchedWord s.pot.ledger.words s.pot.hi w),
  (Reg.DEV_RING_BASE_LO 0, fun s n _ => (s.ring (fin4 n)).base),
  (Reg.DEV_RING_BASE_HI 0, fun s n _ => (s.ring (fin4 n)).base / 2 ^ 32),
  (Reg.DEV_RING_CFG 0, fun s n _ =>
    let r := s.ring (fin4 n)
    fields [(3, 0, r.sizeLog2), (8, 8, b2n r.enable), (9, 9, b2n r.isLocal)]),
  (Reg.DEV_RING_SQ_TAIL 0, fun s n _ => (s.ring (fin4 n)).sqTail),
  (Reg.DEV_RING_CQ_HEAD 0, fun s n _ => (s.ring (fin4 n)).cqHead),
  (Reg.DEV_RING_PTR 0, fun s n _ => fields [(15, 0, (s.ring (fin4 n)).sqHead), (31, 16, (s.ring (fin4 n)).cqTail)]),
  (Reg.DEV_RING_STAT 0, fun s n _ =>
    let r := s.ring (fin4 n)
    fields [(0, 0, b2n r.fetchErr), (1, 1, b2n r.postErr), (2, 2, b2n r.tailErr), (3, 3, b2n r.cfgErr), (4, 4, b2n r.stopped),
      (15, 8, r.accepted.length), (23, 16, r.held.length)])]

/-! ### TICK (04 R94): PEND and stage 1 of a rate change from the cut before tick k (R90) -/

def viewsTick : List (Nat × View) := [
  (Reg.TICK_MODE, fun s _ _ =>
    let t := s.timing
    let r := s.shownRetime
    let stage := if r.any fun r => r.frameK.isSome then 1 else if t.rephaseEnd.any fun e => decide (s.lamp < e) then 2 else 0
    fields [(2, 0, t.rate), (3, 3, b2n t.syncSrc), (4, 4, b2n (decide (t.lock.state = 2))), (8, 8, b2n r.isSome),
      (11, 9, (r.map (·.rate)).getD 0), (12, 12, (r.map (·.src)).getD 0), (17, 16, stage)]),
  (Reg.TICK_FRAME, fun s _ _ => s.timing.frame),
  (Reg.TICK_POS, fun s _ _ => fields [(2, 0, s.timing.sample), (3, 3, b2n s.timing.pastCut)]),
  (Reg.TICK_COUNTS, fun s _ _ => fields [(15, 0, s.timing.sampleCnt), (31, 16, s.timing.cutCnt)]),
  (Reg.TICK_LAMP_LO, fun s _ _ => s.lamp),
  (Reg.TICK_LAMP_HI, fun s _ _ => s.timing.lampHi),
  (Reg.TICK_LAST_LO, fun s _ _ => s.timing.lastTick),
  (Reg.TICK_LAST_HI, fun s _ _ => s.timing.lastHi),
  (Reg.TICK_PERIOD, fun s _ _ => s.timing.period % 2 ^ 24),
  (Reg.TICK_SYNC_STAT, fun s _ _ =>
    fields [(1, 0, s.timing.lock.state), (2, 2, s.fld Reg.TICK_SYNC_STAT 2 2), (31, 16, patternOf 16 (clampInt (-32767) 32767 s.timing.lock.err))]),
  (Reg.TICK_RETIME_STAT, fun s _ _ => fields [(1, 0, s.timing.lastResult), (31, 16, s.timing.nackMask)])]

/-! ### FEED and MEMC (16 R383, R384) -/

/-- Lamp counts spent in self-refresh. -/
def State.srCounts (s : State) : Nat := s.memc.srCounts + (s.memc.srSince.map (s.lamp - ·)).getD 0

def viewsFeed : List (Nat × View) := [
  (Reg.FEED_STAT, fun s _ _ =>
    fields [(1, 0, s.feed.state), (7, 4, s.feed.blockLock.toNat), (11, 8, s.feed.markerLock.toNat), (22, 16, s.feed.skew)])]

def viewsMemc : List (Nat × View) := [
  (Reg.MEMC_STAT, fun s _ _ =>
    let m := s.memc
    fields [(0, 0, b2n m.trained), (2, 1, m.rate), (3, 3, m.ranks), (4, 4, b2n m.srSince.isSome), (12, 8, m.sizeGib)]),
  (Reg.MEMC_SR_STAT, fun s _ _ => fields [(9, 0, if s.memc.trained then s.minTolerance s.memc.minTol else 0), (31, 16, s.memc.srEntries)]),
  (Reg.MEMC_SR_TIME, fun s _ _ => s.srCounts / 100000),
  (Reg.MEMC_ECC_CNT, fun s _ _ => fields [(15, 0, s.memc.eccCorr), (31, 16, s.memc.eccUncorr)]),
  (Reg.MEMC_ECC_LAST, fun s _ _ => fields [(27, 0, s.memc.eccLast / 64)]),
  (Reg.MEMC_ECC_REQ, fun s _ _ => fields [(7, 0, s.memc.eccReq)]),
  (Reg.MEMC_FW_STAT, fun s _ _ =>
    fields [(0, 0, b2n s.memc.viol), (3, 1, s.memc.violSrc), (15, 8, s.memc.violPart), (31, 16, s.memc.denials)]),
  (Reg.MEMC_FW_ADDR, fun s _ _ => fields [(27, 0, s.memc.violAddr)]),
  (Reg.MEMC_SCRUB, fun s _ _ => fields [(0, 0, s.fld Reg.MEMC_SCRUB 0 0), (31, 16, s.memc.scrubPasses)]),
  (Reg.MEMC_HOST_STAT, fun s _ _ =>
    let h := s.host
    fields [(0, 0, b2n h.linkUp), (2, 1, h.speed), (4, 3, h.width), (5, 5, b2n h.d3hot), (6, 6, b2n h.bme), (7, 7, b2n h.inL1),
      (31, 16, h.linkDownCnt)])]

/-! ### INTC and EVQ (15 R358, R359) -/

def viewsIntc : List (Nat × View) := [
  (Reg.INTC_STAT, fun s _ _ => fields [(12, 0, s.intc.staging.length), (25, 16, 512 - s.intc.reserveUsed)]),
  (Reg.INTC_COUNTS, fun s _ _ => fields [(15, 0, s.intc.discarded), (31, 16, s.intc.lost)]),
  (Reg.INTC_HAND_CLAIM 0, fun _ _ _ => 0),
  (Reg.INTC_HAND_RUN 0, fun s h _ =>
    let c := s.intc.cores.get (fin2 h)
    fields [(3, 0, c.run), (7, 4, c.stack.length), (8, 8, b2n c.completeErr), (25, 16, c.selected)]),
  (Reg.INTC_HAND_PEND 0 0, fun s h w => (s.intc.cores.get (fin2 h)).pend.toNat >>> (32 * w)),
  (Reg.INTC_SRC_CFG 0, fun s i _ =>
    if reservedSource i then 0
    else (s.reg (Reg.INTC_SRC_CFG i)).toNat + 512 * b2n (s.intc.staging.any fun r => r.ev.src = i)),
  (Reg.INTC_SRC_COAL 0, fun s i _ => if reservedSource i || decide (sourceGroup i ≠ 0) then 0 else (s.reg (Reg.INTC_SRC_COAL i)).toNat),
  (Reg.EVQ_PROD 0, fun s q _ => (s.evq (fin8 q)).prod),
  (Reg.EVQ_CONS 0, fun s q _ => (s.evq (fin8 q)).cons),
  (Reg.EVQ_CTL 0, fun _ _ _ => 0),
  (Reg.EVQ_STAT 0, fun s q _ =>
    let e := s.evq (fin8 q)
    let staged := (s.intc.staging.filter fun r => r.hand = some (handOf (fin8 q))).length
    fields [(0, 0, b2n e.armed), (1, 1, b2n e.notifyPend), (2, 2, b2n e.stalled), (3, 3, b2n e.consErr), (4, 4, b2n e.writeErr),
      (5, 5, b2n e.lost), (28, 16, staged)]),
  (Reg.EVQ_FREE 0, fun s q _ => (s.evq (fin8 q)).free)]

/-! ### FLT and PTN (14 R340, R341) -/

/-- Milliseconds left on the reaction timer, rounded up. -/
def State.timerLeft (s : State) : Nat := (s.faults.timer.map fun t => ceilDiv (t.start + msCounts t.ms - s.lamp) 100000).getD 0
/-- Lamp time of the latched raise. -/
def Faults.firstTime (f : Faults) : Nat := (f.first.map (·.time)).getD 0
/-- FLT_PENDw: class C bits read 0. -/
def Faults.pendWord (f : Faults) (w : Nat) : Nat :=
  (List.range 32).foldl (fun a b => if f.pend.getLsbD (32 * w + b) && decide (faultClass (32 * w + b) ≠ 1) then a + 2 ^ b else a) 0

def viewsFlt : List (Nat × View) := [
  (Reg.FLT_STAT, fun s _ _ =>
    let f := s.faults
    fields [(0, 0, b2n f.timer.isSome), (1, 1, b2n f.expired), (2, 2, b2n f.pinFault),
      (7, 4, if s.dev.state = .safeLight then f.localGroups.toNat else 0), (15, 8, countClass f.pend 3), (23, 16, countClass f.pend 4)]),
  (Reg.FLT_FIRST, fun s _ _ => s.faults.firstWord),
  (Reg.FLT_FIRST_TIME_LO, fun s _ _ => s.faults.firstTime),
  (Reg.FLT_FIRST_TIME_HI, fun s _ _ => s.faults.timeHi),
  (Reg.FLT_TIMER, fun s _ _ => fields [(9, 0, s.timerLeft)]),
  (Reg.FLT_COUNTS, fun s _ _ => fields [(15, 0, s.faults.cntC), (31, 16, s.faults.cntD)]),
  (Reg.FLT_PEND 0, fun s w _ => s.faults.pendWord w),
  (Reg.FLT_BROKEN 0, fun s w _ => s.faults.broken.toNat >>> (32 * w))]

def viewsPtn : List (Nat × View) := [
  (Reg.PTN_STAT, fun s _ _ =>
    let p := s.partner
    fields [(2, 0, p.state), (5, 4, s.role), (7, 6, p.laneLock.toNat), (8, 8, b2n p.fromPartner), (9, 9, b2n p.missing)]),
  (Reg.PTN_DELAY, fun s _ _ => fields [(15, 0, s.partner.delay), (31, 16, s.partner.offset)]),
  (Reg.PTN_DIVERGE, fun s _ _ => s.partner.divergeLines),
  (Reg.PTN_COUNTS, fun s _ _ => fields [(15, 0, s.partner.takeovers), (31, 16, s.partner.laneErrFrames)]),
  (Reg.PTN_PAIR_LO, fun s _ _ => (s.theDeal.map (·.pairId)).getD 0),
  (Reg.PTN_PAIR_HI, fun s _ _ => (s.theDeal.map (·.pairId)).getD 0 / 2 ^ 32)]

/-! ### CTL (11 R278) -/

def viewsCtl : List (Nat × View) := [
  (Reg.CTL_STAT, fun s _ _ => fields [(0, 0, b2n s.ctlRuns), (3, 1, s.ctl.sample), (15, 8, min 255 s.ctl.lastUs), (17, 16, s.ctl.div)]),
  (Reg.CTL_TRC_POST 0, fun s c _ =>
    fields [(13, 0, s.fldPend (Reg.CTL_TRC_POST c) 13 0), (18, 16, (s.ctl.traces.get (fin4 c)).trigSample)]),
  (Reg.CTL_TRC_CTL 0, fun s c _ => fields [(0, 0, b2n (s.ctl.traces.get (fin4 c)).armed), (1, 1, b2n (s.ctl.traces.get (fin4 c)).stopReq)]),
  (Reg.CTL_TRC_STAT 0, fun s c _ =>
    let t := s.ctl.traces.get (fin4 c)
    fields [(13, 0, t.wr), (14, 14, b2n t.wrapped), (15, 15, b2n t.triggered), (16, 16, b2n t.stopped), (31, 18, t.trigIndex)]),
  (Reg.CTL_TRC_TRIG_FRAME 0, fun s c _ => (s.ctl.traces.get (fin4 c)).trigFrame),
  (Reg.CTL_LOOP_CFG 0, fun s n _ => match s.loopEntry n with
    | some e => fields [(0, 0, 1), (7, 4, e.order), (10, 8, e.kind), (14, 12, e.ins.length), (18, 16, e.outs.length), (23, 20, e.groupCode)]
    | none => 0xF00000),
  (Reg.CTL_LOOP_STAT 0, fun s n _ =>
    let lp := s.loop (loopAt n)
    let nout := ((s.loopEntry n).map (·.outs.length)).getD 0
    fields [(1, 0, lp.mode), (2, 2, b2n lp.bankB), (3, 3, b2n lp.imgA.isSome), (4, 4, b2n lp.imgB.isSome), (5, 5, b2n lp.load.isSome),
      (6, 6, b2n lp.swap.isSome), (7, 7, b2n lp.modeCmd.isSome), (11, 8, lp.left), (15, 12, maskOf (lp.sat nout)), (19, 16, lp.stale),
      (23, 20, maskOf lp.tripped)]),
  (Reg.CTL_LOOP_OUT 0 0, fun s n k => patternOf 32 ((s.loop (loopAt n)).vp.getD k 0)),
  (Reg.CTL_LOOP_SETPT 0, fun s n _ => patternOf 32 (s.loop (loopAt n)).rs),
  (Reg.CTL_LOOP_RESCNT 0, fun s n _ =>
    let c := (s.loop (loopAt n)).resCnt
    fields [(7, 0, c.getD 0 0), (15, 8, c.getD 1 0), (23, 16, c.getD 2 0), (31, 24, c.getD 3 0)]),
  (Reg.CTL_LOOP_Z 0, fun s n _ =>
    let lp := s.loop (loopAt n)
    let z := lp.z.getD (s.fld (Reg.CTL_LOOP_ZSEL n) 1 0) 0
    patternOf 32 (phys ((lp.bank.map bankIs).getD 0) z))]

/-! ### HK (12 R297) -/

def viewsHk : List (Nat × View) := [
  (Reg.HK_STAT, fun s _ _ =>
    let h := s.house
    fields [(15, 0, h.round), (16, 16, b2n h.cal.isSome), (17, 17, b2n h.entry.isSome), (18, 18, b2n h.save.isSome), (19, 19, b2n h.restore.isSome)]),
  (Reg.HK_CAL_CTL, fun s _ _ => fields [(0, 0, b2n s.house.save.isSome), (1, 1, b2n s.house.restore.isSome)]),
  (Reg.HK_CAL_RES, fun s _ _ =>
    let h := s.house
    fields [(7, 0, h.agreed), (15, 8, h.disagreed), (19, 16, h.srResult), (20, 20, s.fld Reg.HK_CAL_RES 20 20), (28, 24, h.entryStep)]),
  (Reg.HK_CAL_STAT 0, fun s i _ =>
    let x := s.house.items.get (fin8 i)
    fields [(15, 0, x.count), (17, 16, x.result), (18, 18, b2n x.restored)]),
  (Reg.HK_CAL_LAST 0, fun s i _ => (s.house.items.get (fin8 i)).last),
  (Reg.HK_THERM_STAT, fun s _ _ =>
    let t := s.house.therm
    let valid := maskOf ((List.finRange 8).map fun k => (t.sensors.get k).valid)
    fields [(15, 0, patternOf 16 t.hottest), (17, 16, t.level), (18, 18, b2n t.warn), (19, 19, b2n (decide (0 < t.lR))),
      (20, 20, b2n t.nvOpen), (23, 21, t.hotSensor), (31, 24, valid)]),
  (Reg.HK_THERM_RATE, fun s _ _ => fields [(15, 0, patternOf 16 s.house.therm.rate), (31, 16, patternOf 16 s.house.therm.coldest)]),
  (Reg.HK_TEMP 0, fun s k _ =>
    let x := s.house.therm.sensors.get (fin8 k)
    fields [(15, 0, patternOf 16 x.temp), (16, 16, b2n x.valid)]),
  (Reg.HK_TRIM 0, fun s w _ => if h : w < 30 then
      fields [(15, 0, patternOf 16 (s.house.trim ⟨w, h⟩)), (31, 16, patternOf 16 (s.house.target ⟨w, h⟩))]
    else 0),
  (Reg.HK_CH 0, fun s c _ => fields [(11, 0, (s.milk c).code), (31, 16, (s.milk c).round)])]

/-! ### ACC (13 R314) -/

/-- SRC of a channel: a SHORT one is held off (R310). -/
def State.accSource (s : State) (c : Fin 48) : Nat :=
  if s.accClass c = 4 then 3
  else if s.isLoopOut (0x1300 + c.val) then 2
  else if s.accMode (c.val / 12) = 1 then 1 else 0

def viewsAcc : List (Nat × View) := [
  (Reg.ACC_STAT, fun s _ _ =>
    fields [(1, 0, s.accMode 0), (3, 2, s.accMode 1), (5, 4, s.accMode 2), (7, 6, s.accMode 3), (8, 8, b2n s.matrixOn),
      (9, 9, b2n s.accent.supplyLow), (10, 10, b2n s.accent.overload)]),
  (Reg.ACC_PWR, fun s _ _ => fields [(12, 0, s.fld Reg.ACC_PWR 12 0), (31, 16, min 65535 s.accent.est)]),
  (Reg.ACC_MCTL, fun s _ _ => fields [(0, 0, b2n s.accent.mswap), (1, 1, b2n s.accent.front)]),
  (Reg.ACC_CH_STAT 0, fun s i _ => if h : i < 48 then
      let c : Fin 48 := ⟨i, h⟩
      let x := s.acc c
      if s.accUnused i then fields [(18, 16, 6)]
      else
        let debt := s.accUnits.any fun l => decide (0 < (x.unit l).debt)
        fields [(15, 0, x.inForce), (18, 16, s.accClass c), (21, 20, s.accSource c), (22, 22, b2n debt), (31, 24, x.index / 4)]
    else 0),
  (Reg.ACC_CH_CFG 0, fun s i _ => if s.accUnused i then 0 else (s.reg (Reg.ACC_CH_CFG i)).toNat),
  (Reg.ACC_CH_FADE 0, fun s i _ => if s.accUnused i then 0 else (s.reg (Reg.ACC_CH_FADE i)).toNat),
  (Reg.ACC_CH_CTL 0, fun s i _ => if h : i < 48 then b2n ((s.acc ⟨i, h⟩).clr && !s.accUnused i) else 0),
  (Reg.ACC_MFRAME 0, fun s w _ =>
    let b := s.accent.backBuf
    fields [(15, 0, Sparse.get (fun _ => 0) b (2 * w)), (31, 16, Sparse.get (fun _ => 0) b (2 * w + 1))])]

/-! ### PWR (17 R405) -/

def viewsPwr : List (Nat × View) := [
  (Reg.PWR_DOMAIN_STAT, fun s _ _ => fields [(14, 0, s.domainsOn), (30, 16, s.power.ready.toNat)]),
  (Reg.PWR_RESET_CAUSE, fun s _ _ => fields [(2, 0, s.power.resetKind), (31, 16, s.power.resetCount)]),
  (Reg.PWR_PASTE_STAT, fun s _ _ => fields [(15, 0, s.power.lastMs), (31, 16, ceilDiv s.privateBytes 1048576)]),
  (Reg.PWR_LIFECYCLE, fun s _ _ =>
    let e := s.power.efuseShown
    fields [(1, 0, e.lifecycle), (11, 8, maskOf (e.keys.toList.map fun k => k.hash.isSome)), (15, 12, maskOf (e.keys.toList.map (·.revoked))),
      (22, 16, e.dealRb), (29, 24, e.fwRb)]),
  (Reg.PWR_FW, fun s _ _ =>
    let p := s.power
    fields [(0, 0, p.active), (1, 1, b2n (p.valid 0)), (2, 2, b2n (p.valid 1)), (3, 3, b2n p.absent), (4, 4, b2n p.stage.isSome),
      (5, 5, b2n p.switch.isSome)]),
  (Reg.PWR_FW_VER, fun s _ _ => if s.power.absent then 0 else s.power.version),
  (Reg.PWR_FW_ABSENT, fun s _ _ =>
    fields [(15, 0, if s.power.absent then min 65535 s.absenceMs else 0), (31, 16, s.power.lastAbsentMs)]),
  (Reg.PWR_DUMP_STAT, fun s _ _ => fields [(0, 0, b2n s.power.dumpDone), (1, 1, b2n s.power.dumpNone)]),
  (Reg.PWR_CLK_STAT, fun s _ _ => fields [(0, 0, b2n s.power.refOk), (1, 1, b2n s.power.churnLock), (2, 2, b2n s.power.fabricLock)])]

/-! ### SKM (07 R170, R172) -/

def viewsSkm : List (Nat × View) := [
  (Reg.SKM_LIST_STAT, fun s _ _ =>
    let k := s.skim
    fields [(15, 0, (k.list.map (·.seq)).getD 0), (24, 16, (k.list.map (·.records.length)).getD 0), (28, 25, min 15 k.age),
      (29, 29, b2n k.blind), (30, 30, b2n (k.asm.any fun a => !a.bad))]),
  (Reg.SKM_SETUP, fun s _ _ => fields [(15, 0, s.fld Reg.SKM_SETUP 15 0), (17, 16, s.skim.level), (18, 18, b2n s.skim.held)]),
  (Reg.SKM_ZONE_STAT, fun s _ _ => fields [(5, 0, s.skim.zones.length), (8, 8, b2n s.skim.staged.isSome)]),
  (Reg.SKM_LAT_TOL, fun s _ _ => s.skimTolerance),
  (Reg.SKM_TILE_STAT 0, fun s n _ =>
    let k := ((s.skimFor s.frame).map fun u => u.tiles.get (tileAt n)).getD {}
    let m := s.skim.maintEnd.get (tileAt n)
    fields [(6, 0, k.objs.length), (7, 7, b2n k.merged), (8, 8, b2n k.outOfField), (9, 9, b2n k.unmapped), (10, 10, b2n m.isSome),
      (27, 16, (m.map fun e => ceilDiv (e - s.lamp) 100000000).getD 0)])]

/-! ### CHN (05 R126; 08 R191) -/

/-- The position of a slot, 0 for slot 0 (05 R98). -/
def Churn.position (c : Churn) (sl : Nat) : Nat := if sl = 0 then 0 else c.order.idxOf sl + 1
/-- The layer whose place and surface the slot registers show: slot 0 has no rectangle and keeps no surface (05 R121, R126). -/
def Churn.shownLayer (c : Churn) (sl : Nat) : Option Layer := if sl = 0 then none else c.layer (fin8 sl)
def State.slotView (f : Layer → Nat) : View := fun s n sl => (((s.churn (tileAt n)).shownLayer sl).map f).getD 0

/-- The line that a churn composes now, 0x7FF where none (05 R126). -/
def State.shownLine (s : State) (n : TileId) : Nat := match (s.churn n).line with
  | some y => if (s.churn n).composing && decide (s.lamp < s.lineStart n (y + 1)) then y else 0x7FF
  | none => 0x7FF

/-- ADDED and SUBTRACTED (08 R190). -/
def Phot.probeWords (p : Phot) : List Int := [p.added, p.subtracted]

/-- The address of the table being entered, or of the one in force (08 R191). -/
def Phot.shownTable (p : Phot) : Nat := match p.calJob with
  | some j => if 0 < j.step then j.addr else (p.cal.map (·.addr)).getD 0
  | none => (p.cal.map (·.addr)).getD 0

def viewsChn : List (Nat × View) := [
  (Reg.CHN_STAT 0, fun s n _ => fields [(0, 0, b2n (s.churn (tileAt n)).composing), (18, 8, s.shownLine (tileAt n))]),
  (Reg.CHN_BG 0, fun s n _ => fields [(15, 0, s.fldPend (Reg.CHN_BG n) 15 0), (31, 16, s.fld (Reg.CHN_BG n) 15 0)]),
  (Reg.CHN_ORDER 0, fun s n _ => (s.churn (tileAt n)).order.foldr (fun sl a => sl + 16 * a) 0),
  (Reg.CHN_TRUMP_STAT 0, fun s n _ =>
    let c := s.churn (tileAt n)
    fields [(3, 0, c.page), (7, 4, (c.trump.map (·.pageCount)).getD 0), (8, 8, b2n c.trump.isSome), (9, 9, b2n c.staged.isSome),
      (10, 10, b2n c.pageFailed)]),
  (Reg.CHN_TRUMP_SEQ 0, fun s n _ => (s.churn (tileAt n)).trumpSeq),
  (Reg.CHN_TRUMP_SUM 0, fun s n _ => (s.churn (tileAt n)).trumpSum),
  (Reg.CHN_SLOT_CFG 0 0, fun s n sl =>
    let c := s.churn (tileAt n)
    let L := c.shownLayer sl
    let on := if sl = 0 then c.trump.isSome else L.isSome
    let op := c.op (fin8 sl)
    fields [(0, 0, b2n on), (3, 1, c.position sl), (6, 4, (L.map (·.blend)).getD 0), (11, 8, (L.map (·.hdr.format)).getD 0),
      (16, 16, b2n op.isSome), (19, 17, min 7 ((op.map (·.cuts)).getD 0)), (20, 20, s.fld (Reg.CHN_SLOT_CFG n sl) 20 20),
      (31, 24, min 255 ((L.map (·.staleFrames)).getD 0))]),
  (Reg.CHN_SLOT_SURF_LO 0 0, State.slotView fun L => L.surface),
  (Reg.CHN_SLOT_SURF_HI 0 0, State.slotView fun L => L.surface / 2 ^ 32),
  (Reg.CHN_SLOT_GEN 0 0, fun s n sl => (((s.churn (tileAt n)).layer (fin8 sl)).map (·.gen)).getD 0),
  (Reg.CHN_SLOT_POS 0 0, State.slotView fun L => fields [(15, 0, patternOf 16 L.x), (31, 16, patternOf 16 L.y)]),
  (Reg.CHN_SLOT_SIZE 0 0, State.slotView fun L => fields [(12, 0, L.w), (28, 16, L.h)]),
  (Reg.CHN_SLOT_ALPHA 0 0, State.slotView fun L => L.alpha),
  (Reg.CHN_SLOT_PEND 0 0, fun s n sl => match (s.churn (tileAt n)).op (fin8 sl) with
    | some o => fields [(15, 0, o.ref.tag), (17, 16, o.ref.ring.val), (19, 18, if o.layer.isSome then 1 else 2)]
    | none => 0),
  (Reg.CHN_POT_STAT 0, fun s n _ =>
    let p := s.phot (tileAt n)
    let o := Reg.CHN_POT_STAT n
    fields [(16, 0, p.scale), (24, 24, s.fld o 24 24), (25, 25, b2n (decide (0 < p.debt))), (26, 26, s.fld o 26 26), (27, 27, b2n p.atZero)]),
  (Reg.CHN_POT_LAST 0 0, fun s n w =>
    let l := (s.phot (tileAt n)).last
    ([l.1, l.2.1, l.2.2.1, l.2.2.2].getD w 0) / 16),
  (Reg.CHN_POT_LEDGER 0 0, fun s n w => latchedWord (s.phot (tileAt n)).ledger.words (s.phot (tileAt n)).potHi w),
  (Reg.CHN_PROBE_LEDGER 0 0, fun s n w => latchedWord (s.phot (tileAt n)).probeWords (s.phot (tileAt n)).probeHi w),
  (Reg.CHN_PROBE_SCHED 0, fun s n _ => (s.phot (tileAt n)).scheduled),
  (Reg.CHN_PROBE_STAT 0, fun s n _ => fields [(11, 0, (s.phot (tileAt n)).firedLast), (23, 12, (s.phot (tileAt n)).cancelledLast)]),
  (Reg.CHN_CAL_STAT 0, fun s n _ =>
    let p := s.phot (tileAt n)
    fields [(0, 0, b2n p.cal.isSome), (1, 1, b2n (p.calJob.any fun j => decide (0 < j.step))), (8, 2, p.calStep),
      (10, 9, s.fld (Reg.CHN_CAL_STAT n) 10 9)]),
  (Reg.CHN_CAL_ADDR_LO 0, fun s n _ => (s.phot (tileAt n)).shownTable),
  (Reg.CHN_CAL_ADDR_HI 0, fun s n _ => (s.phot (tileAt n)).shownTable / 2 ^ 32)]

/-! ### TL (09 R232; 10 R252) -/

/-- The oldest SEQ that is not acknowledged, NEXT_SEQ where there is none. -/
def Port.oldestSeq (p : Port) : Nat := ((p.tracks.find? fun t => !t.acked && !t.failed).map (·.seq)).getD p.nextSeq

def viewsTl : List (Nat × View) := [
  (Reg.TL_STAT 0, fun s n _ =>
    let p := s.port (tileAt n)
    fields [(3, 0, p.state), (4, 4, b2n p.blind), (5, 5, b2n (s.singleLane (tileAt n))), (6, 6, b2n (s.inLit (tileAt n))),
      (11, 8, (p.status.map (·.holdCount.toNat)).getD 0)]),
  (Reg.TL_LANE_STAT 0, fun s n _ =>
    let p := s.port (tileAt n)
    fields [(0, 0, b2n p.lockA), (1, 1, b2n p.lockB), (2, 2, b2n p.retLock), (5, 4, p.pwrA), (7, 6, p.pwrB), (9, 8, p.retPower s.lamp),
      (18, 16, s.fld (Reg.TL_LANE_STAT n) 18 16), (22, 20, p.testMask)]),
  (Reg.TL_CREDIT 0, fun s n _ =>
    let p := s.port (tileAt n)
    fields [(7, 0, p.credA), (15, 8, p.credB), (23, 16, p.kitty), (31, 24, p.inA + p.inB + p.inKA + p.inKB)]),
  (Reg.TL_CREDIT2 0, fun s n _ =>
    let p := s.port (tileAt n)
    fields [(7, 0, p.parkA + p.parkB), (15, 8, p.tileHeld)]),
  (Reg.TL_SEQ 0, fun s n _ => fields [(15, 0, (s.port (tileAt n)).nextSeq), (31, 16, (s.port (tileAt n)).oldestSeq)]),
  (Reg.TL_LAST_FRAME 0, fun s n _ =>
    let p := s.port (tileAt n)
    fields [(11, 0, min 4095 p.lastResends), (22, 12, min 2047 p.lastRepeat), (23, 23, b2n p.lastCloseAcked), (31, 24, min 255 p.lastFailed)]),
  (Reg.TL_IDENT 0, fun s n _ =>
    ((s.port (tileAt n)).ident.map fun i => fields [(15, 0, i.tileType.toNat), (23, 16, i.caps.toNat)]).getD 0),
  (Reg.TL_IDENT_SERIAL 0, fun s n _ => ((s.port (tileAt n)).ident.map (·.serial.toNat)).getD 0),
  (Reg.TL_IDENT_ARRAY 0, fun s n _ =>
    ((s.port (tileAt n)).ident.map fun i => fields [(11, 0, i.arrayW.toNat), (27, 16, i.arrayH.toNat)]).getD 0),
  (Reg.TL_SETPOINT 0, fun s n _ =>
    ((s.port (tileAt n)).status.map fun b => fields [(15, 0, b.iRef.toNat), (31, 16, b.vHr.toNat)]).getD 0),
  (Reg.TL_DIAG_CTL 0, fun s n _ => fields [(0, 0, b2n (s.diag (tileAt n)).fmapInit), (1, 1, b2n (s.diag (tileAt n)).pendFlush)]),
  (Reg.TL_DIAG_STAT 0, fun s n _ =>
    let d := s.diag (tileAt n)
    fields [(7, 0, d.ref), (13, 8, d.lastPos), (14, 14, b2n (decide (0 < d.initLeft))), (15, 15, b2n d.bad), (28, 16, d.pend.length),
      (29, 29, b2n d.active)]),
  (Reg.TL_DIAG_CNT 0 0, fun s n c => fields [(21, 0, (s.diag (tileAt n)).counts.get (fin8 c))])]

/-! ### SCL (06 R145) -/

/-- A context as SCLn_USERS shows it. -/
def userBits (u : Option (Nat × Nat)) : Nat := match u with
  | some u => fields [(3, 0, u.1), (4, 4, u.2 - 1), (7, 7, 1)]
  | none => 0

def viewsScl : List (Nat × View) := [
  (Reg.SCL_CFG_ACTIVE 0, fun s k _ => s.fld (Reg.SCL_CFG k) 15 0),
  (Reg.SCL_STAT 0, fun s k _ =>
    let used := claimSum (s.claims k (s.claimTaps k))
    let n := ((s.scalers.get (fin8 k)).users.filter (·.isSome)).length
    fields [(17, 0, used), (19, 18, n), (24, 24, s.fld (Reg.SCL_STAT k) 24 24), (25, 25, b2n (s.scalerEntry k).isNone)]),
  (Reg.SCL_USERS 0, fun s k _ =>
    let u := (s.scalers.get (fin8 k)).users
    userBits (u.getD 0 none) + 256 * userBits (u.getD 1 none))]

/-! ### The whole map -/

/-- The views of the block an offset lies in. -/
def viewBlock (off : Nat) : List (Nat × View) :=
  match off / 0x100000 with
  | 0 =>
    match off / 0x10000 with
    | 0 => viewsDev
    | 1 => viewsTick
    | 2 => viewsFeed
    | 3 => viewsMemc
    | 4 => viewsIntc
    | 5 => viewsFlt
    | 6 => viewsCtl
    | 7 => viewsHk
    | 8 => viewsAcc
    | 10 => viewsPwr
    | 11 => viewsPtn
    | 12 => viewsSkm
    | _ => []
  | 1 => viewsChn
  | 2 => viewsTl
  | 3 => viewsScl
  | _ => []

/-- The register at base `b` reads a view. -/
def findView (l : List (Nat × View)) (b : Nat) : Option View := (l.find? fun e => e.1 = b).map (·.2)

/-- A field of a register kept as such, by its access code (00 R7). -/
def State.fieldValue (s : State) (off : Nat) (f : Fld) : Nat := match f.acc with
  | .rws => s.fldPend off f.hi f.lo
  | .wo => 0
  | .rw | .ro | .w1c | .w1s => s.fld off f.hi f.lo

/-- The power domain of an offset: its bit in R39's order (18 R408). -/
def domainOf (off : Nat) : Nat :=
  match off / 0x100000 with
  | 0 =>
    match off / 0x10000 with
    | 1 => 0
    | 2 => 4
    | 3 => 3
    | 5 => 0
    | 6 => 6
    | 7 => 6
    | 8 => 6
    | 10 => 0
    | 12 => 5
    | _ => 1
  | 1 => 7 + (off - 0x100000) / 0x40000
  | 2 => 11 + (off - 0x200000) / 0x40000
  | 3 => 3
  | _ => if off < 0x440000 then 6 else 1

/-- A word of the MSI-X table (16 R361; layout PRESUMED from PCI Express, log 8). -/
def State.msixWord (s : State) (off : Nat) : Nat :=
  let e := s.host.msix.get ⟨(off - 0x00F000) / 16 % 16, Nat.mod_lt _ (by decide)⟩
  match (off / 4) % 4 with
  | 0 => e.addrLo.toNat
  | 1 => e.addrHi.toNat
  | 2 => e.data.toNat
  | _ => e.control.toNat

/-- The word at a word-aligned offset, without its side effects: 0 for a domain that is off (16 R362) and for a reserved
offset (00 R6). -/
def State.readWord (s : State) (off : Nat) : Nat :=
  if !bitAt s.domainsOn (domainOf off) then 0
  else if 0x00F000 ≤ off ∧ off < 0x00F100 then s.msixWord off
  else if off = 0x00F800 then s.host.pba.toNat
  else if 0x400000 ≤ off ∧ off < 0x440000 then
    Sparse.get (fun _ => 0) (s.ctl.traces.get (fin4 ((off - 0x400000) / 0x10000))).entries (off % 0x10000 / 4)
  else if 0x440000 ≤ off ∧ off < 0x480000 then leVal (Memory.read s.fwLog (off - 0x440000) 4)
  else match regAt off with
    | none => 0
    | some (r, is) =>
      let i := is.getD 0 0
      match findView (viewBlock off) r.base with
      | some f => f s i (is.getD 1 0) % 2 ^ 32
      | none => fields (r.flds.map fun f => (f.hi, f.lo, s.fieldValue off f))

end Sys2Proof.Machine
end

