-- ==== Sys2Proof/Machine/Registers.lean ====
section
/-! DEFINITION. Register accesses (00 R4 to R8; 16 R361, R362, R365; 17 R388, R398, R404; 18 R408 to R412): what a write
does, register by register, and a read with its side effects. -/

namespace Sys2Proof.Machine

open Sys2Proof

/-! ### Who is served -/

/-- A master's access reaches the register map: the device is not OFF, and a host's link is up. -/
def State.reaches (s : State) (m : Master) : Bool := decide (s.dev.state ≠ .off) && (decide (m = .core) || s.host.linkUp)
/-- A host access in D3hot is an Unsupported Request (16 R365). -/
def State.asleep (s : State) (m : Master) : Bool := decide (m = .host) && s.host.d3hot

/-- Offsets whose writes from the host are discarded (17 R398; 18 R411). -/
def hostDiscards (off : Nat) : Bool :=
  decide (off = Reg.INTC_HAND_CLAIM 0 ∨ off = Reg.INTC_HAND_CLAIM 1) ||
  (decide (Reg.EVQ_BASE_LO 6 ≤ off) && decide (off < Reg.EVQ_BASE_LO 8)) ||
  decide (off = Reg.PWR_FW_ALIVE ∨ off = Reg.PWR_WDOG_KICK ∨ off = Reg.PWR_WDOG_CFG)

/-! ### A register kept as such -/

/-- A word with a field taken from a written value. -/
def takeField (v : Nat) (f : Fld) (w : Word) : Word := putBits w f.hi f.lo (bitsOf v f.hi f.lo)

/-- The effect of a write on the fields of a register: RW at once, RWS held pending, W1C clears, RO and WO nothing (00 R7). -/
def State.writeFields (off : Nat) (flds : List Fld) (v : Nat) (s : State) : State :=
  let w := flds.foldl (fun w f => match f.acc with
    | .rw => takeField v f w
    | .w1c => putBits w f.hi f.lo (bitsOf w.toNat f.hi f.lo - (bitsOf w.toNat f.hi f.lo &&& bitsOf v f.hi f.lo))
    | .ro | .wo | .w1s | .rws => w) (s.reg off)
  let s := s.setReg off w
  if flds.any fun f => f.acc = .rws then
    { s with rws := Sparse.put off ((flds.filter fun f => f.acc = .rws).foldl (fun w f => takeField v f w) (s.regPend off)) s.rws }
  else s

/-! ### Registers whose write does more -/

/-- A write to DEV_AUDIT_STAT: a ledger may be reported again once its flag is cleared (01 R25, R27). -/
def State.writeAuditStat (v : Nat) (s : State) : State :=
  let w := s.reg Reg.DEV_AUDIT_STAT
  let s := s.setReg Reg.DEV_AUDIT_STAT (w &&& ~~~BitVec.ofNat 32 (v % 32))
  s.onDev fun d => { d with reported := d.reported.filter fun r => !bitAt (v % 32) r.1 }

/-- A write to SCLn_CFG (06 R142, R143). -/
def State.scalerCfgOk (s : State) (k v : Nat) : Bool := match s.scalerEntry k with
  | none => false
  | some e =>
    let fieldOk (filter taps most : Nat) : Bool :=
      decide (1 ≤ taps ∧ taps ≤ most) && (decide (filter ≠ 2) || decide (taps = 4 ∨ taps = 6 ∨ taps = 8))
    let t := max (effTaps (s.scalerFilter k 0) (s.fld (Reg.SCL_CFG k) 11 8)) (effTaps (bitsOf v 1 0) (bitsOf v 11 8))
    fieldOk (bitsOf v 1 0) (bitsOf v 11 8) e.maxVtaps && fieldOk (bitsOf v 3 2) (bitsOf v 15 12) e.maxHtaps &&
    decide (claimSum (s.claims k t) ≤ 196608)

/-- SCALER_CFG_WRITE: the checked value becomes pending, or CFG_REJ is set. -/
def State.writeScalerCfg (k v : Nat) (s : State) : State :=
  if s.scalerCfgOk k v then
    s.writeFields (Reg.SCL_CFG k) [⟨1, 0, .rws, 1⟩, ⟨3, 2, .rws, 1⟩, ⟨11, 8, .rws, 2⟩, ⟨15, 12, .rws, 2⟩] v
  else s.setFlag (Reg.SCL_STAT k) 24

/-- TABLE_WR (06 R143): not to 1 while a slot claims a context of the scaler. -/
def State.writeTableWr (k v : Nat) (s : State) : State :=
  if (s.scalerEntry k).isNone then s
  else if bitAt v 0 && !(s.claims k 1).isEmpty then s.setFlag (Reg.SCL_STAT k) 24
  else s.setFld (Reg.SCL_TABLE_CTL k) 0 0 v

/-- A write to SCLn_COEFw or SCLn_LINw (06 R143). -/
def State.writeScalerTable (k off v : Nat) (s : State) : State :=
  if (s.scalerEntry k).isSome && s.bit (Reg.SCL_TABLE_CTL k) 0 then s.setReg off (BitVec.ofNat 32 v) else s

/-- A write to CHNn_TCb_w: a bank in force, or pending to be, is kept (08 R187). -/
def State.writeCurve (n b w v : Nat) (s : State) : State :=
  let o := Reg.CHN_PHOT_CFG n
  if s.fld o 0 0 = b ∨ s.fldPend o 0 0 = b then s.setFlag (Reg.CHN_CAL_STAT n) 10
  else s.setReg (Reg.CHN_TC n b w) (BitVec.ofNat 32 (if w = 128 then v % 65536 else v))

/-- A write to TLn_LANE_PWR (09 R229). -/
def State.writeLanePwr (n : TileId) (v : Nat) (s : State) : State :=
  let s := s.writeFields (Reg.TL_LANE_PWR n) [⟨0, 0, .rw, 0⟩, ⟨8, 8, .w1c, 0⟩] v
  if bitAt v 0 then s.ls2Enter n else s.ls2Leave n

/-- A write to TLn_DIAG_CTL (10 R242, R248). -/
def State.writeDiagCtl (n : TileId) (v : Nat) (s : State) : State :=
  let s := if bitAt v 0 then s.fmapInitReq n else s
  if bitAt v 1 then s.pendFlushReq n else s

/-- A write to CTL_TRCc_CTL (11 R277). -/
def State.writeTraceCtl (c : Fin 4) (v : Nat) (s : State) : State :=
  let s := if bitAt v 0 then s.traceArm c else s
  if bitAt v 1 then s.traceStop c else s

/-- A write to HK_CAL_CTL (12 R291). -/
def State.writeCalCtl (v : Nat) (s : State) : State :=
  let s := if bitAt v 0 then s.calStart false else s
  if bitAt v 1 then s.calStart true else s

/-- A write to ACC_CHc_CFG; that of a group which the Deal leaves unused is discarded (13 R314). -/
def State.writeAccCfg (c v : Nat) (s : State) : State :=
  if s.accUnused c then s else s.writeFields (Reg.ACC_CH_CFG c) [⟨7, 0, .rw, 0⟩, ⟨13, 8, .rw, 0⟩, ⟨14, 14, .rw, 0⟩, ⟨15, 15, .rw, 0⟩] v

/-- A write to ACC_CHc_FADE starts a fade (13 R303, R314). -/
def State.writeFade (c : Fin 48) (v : Nat) (s : State) : State :=
  if s.accUnused c then s
  else (s.writeFields (Reg.ACC_CH_FADE c) [⟨9, 0, .rw, 0⟩, ⟨27, 16, .rw, 0⟩] v).fadeStart c

/-- A write to ACC_CHc_CTL (13 R310, R314). -/
def State.writeAccCtl (c : Fin 48) (v : Nat) (s : State) : State :=
  if bitAt v 0 && !s.accUnused c then s.onAcc c fun x => { x with clr := true } else s

/-- A write to MEMC_SR_CFG is discarded whole where EXIT_LEAD breaks a limit (16 R384). -/
def State.writeSrCfg (v : Nat) (s : State) : State :=
  let lead := bitsOf v 23 16
  if 2 ≤ lead ∧ lead < max 2 (bitsOf v 15 8) then
    s.writeFields Reg.MEMC_SR_CFG [⟨0, 0, .rw, 1⟩, ⟨15, 8, .rw, 0x14⟩, ⟨23, 16, .rw, 5⟩] v
  else s

/-- A write with bits `hi:lo` clamped to `least` to `most`. -/
def clampField (hi lo least most v : Nat) : Nat :=
  (putBits (BitVec.ofNat 32 v) hi lo (max least (min most (bitsOf v hi lo)))).toNat

/-- A write to a base register of an event queue: discarded while the queue is enabled (15 R351). -/
def State.writeEvqBase (q : QueueId) (off : Nat) (flds : List Fld) (v : Nat) (s : State) : State :=
  if s.evqEnabled q then s else s.writeFields off flds v

/-- What a write to a register with indices `i`, `j` does. -/
abbrev Hook := Nat → Nat → Nat → State → State

def hooksLow : List (Nat × Hook) := [
  (Reg.DEV_AUDIT_STAT, fun _ _ v s => s.writeAuditStat v),
  (Reg.DEV_RING_BASE_LO 0, fun n _ v s => s.writeRingBase (fin4 n) false v),
  (Reg.DEV_RING_BASE_HI 0, fun n _ v s => s.writeRingBase (fin4 n) true v),
  (Reg.DEV_RING_CFG 0, fun n _ v s => s.writeRingCfg (fin4 n) v),
  (Reg.DEV_RING_SQ_TAIL 0, fun n _ v s => s.writeSqTail (fin4 n) (bitsOf v 15 0)),
  (Reg.DEV_RING_CQ_HEAD 0, fun n _ v s => s.writeCqHead (fin4 n) (bitsOf v 15 0)),
  (Reg.DEV_RING_STAT 0, fun n _ v s => s.writeRingStat (fin4 n) v),
  (Reg.TICK_SYNC_OUT_LEAD, fun _ _ v s => s.writeFields Reg.TICK_SYNC_OUT_LEAD [⟨16, 0, .rws, 0⟩] (clampField 16 0 0 100000 v)),
  (Reg.FEED_CFG, fun _ _ v s => s.writeFeedCfg v),
  (Reg.MEMC_SR_CFG, fun _ _ v s => s.writeSrCfg v),
  (Reg.MEMC_FW_STAT, fun _ _ v s => if bitAt v 0 then s.onMemc fun m => { m with viol := false } else s),
  (Reg.INTC_HAND_RUN 0, fun h _ v s => if bitAt v 8 then s.onCore (fin2 h) fun c => { c with completeErr := false } else s),
  (Reg.INTC_HAND_PEND 0 0, fun h w v s => s.withdraw (fin2 h) w v),
  (Reg.INTC_SRC_CFG 0, fun i _ v s => s.writeSrcCfg i v),
  (Reg.INTC_SRC_COAL 0, fun i _ v s =>
    if reservedSource i || decide (sourceGroup i ≠ 0) then s
    else s.writeFields (Reg.INTC_SRC_COAL i) [⟨7, 0, .rw, 0⟩, ⟨31, 16, .rw, 0⟩] v),
  (Reg.EVQ_BASE_LO 0, fun q _ v s => s.writeEvqBase (fin8 q) (Reg.EVQ_BASE_LO q) [⟨31, 12, .rw, 0⟩] v),
  (Reg.EVQ_BASE_HI 0, fun q _ v s => s.writeEvqBase (fin8 q) (Reg.EVQ_BASE_HI q) [⟨31, 0, .rw, 0⟩] v),
  (Reg.EVQ_CFG 0, fun q _ v s => s.writeEvqCfg (fin8 q) v),
  (Reg.EVQ_CONS 0, fun q _ v s => s.writeCons (fin8 q) v),
  (Reg.EVQ_CTL 0, fun q _ v s => if bitAt v 0 then s.writeArm (fin8 q) else s),
  (Reg.EVQ_STAT 0, fun q _ v s => s.writeEvqStat (fin8 q) v),
  (Reg.FLT_CFG, fun _ _ v s =>
    s.writeFields Reg.FLT_CFG [⟨9, 0, .rw, 0⟩, ⟨10, 10, .rw, 0⟩, ⟨11, 11, .rw, 0⟩, ⟨12, 12, .rw, 0⟩, ⟨19, 16, .rw, 0⟩] (clampField 9 0 1 1000 v)),
  (Reg.FLT_FIRST, fun _ _ v s => if bitAt v 12 then s.clearFirst else s),
  (Reg.FLT_INJECT, fun _ _ v s => s.inject v),
  (Reg.FLT_PEND 0, fun w _ v s => s.clearPend w v),
  (Reg.FLT_BROKEN 0, fun w _ v s => s.onFaults fun f => { f with broken := f.broken &&& ~~~(BitVec.ofNat 128 v <<< (32 * w)) })]

def hooksHigh : List (Nat × Hook) := [
  (Reg.CTL_TRC_CTL 0, fun c _ v s => s.writeTraceCtl (fin4 c) v),
  (Reg.HK_CAL_CTL, fun _ _ v s => s.writeCalCtl v),
  (Reg.ACC_CFG, fun _ _ v s =>
    s.writeFields Reg.ACC_CFG [⟨0, 0, .rw, 0⟩, ⟨1, 1, .rw, 0⟩, ⟨2, 2, .rw, 0⟩, ⟨12, 8, .rw, 0⟩, ⟨23, 16, .rw, 0⟩] (clampField 12 8 2 28 v)),
  (Reg.ACC_PWR, fun _ _ v s => s.writeFields Reg.ACC_PWR [⟨12, 0, .rw, 0⟩] (clampField 12 0 100 4000 v)),
  (Reg.ACC_MCTL, fun _ _ v s => if bitAt v 0 then s.onAccent fun a => { a with mswap := true } else s),
  (Reg.ACC_CH_CFG 0, fun c _ v s => s.writeAccCfg c v),
  (Reg.ACC_CH_FADE 0, fun c _ v s => if h : c < 48 then s.writeFade ⟨c, h⟩ v else s),
  (Reg.ACC_CH_CTL 0, fun c _ v s => if h : c < 48 then s.writeAccCtl ⟨c, h⟩ v else s),
  (Reg.ACC_BIN 0 0, fun l w v s => s.setReg (Reg.ACC_BIN l w) (BitVec.ofNat 32 (if w = 4 then v % 65536 else v))),
  (Reg.ACC_MFRAME 0, fun w _ v s => s.writeCells w v),
  (Reg.PWR_RESET, fun _ _ v s => s.writePwrReset v),
  (Reg.PWR_FW_ALIVE, fun _ _ v s => s.fwAlive v),
  (Reg.PWR_WDOG_CFG, fun _ _ v s => s.writeWdogCfg v),
  (Reg.PWR_WDOG_KICK, fun _ _ v s => s.kickWatchdog v),
  (Reg.TL_LANE_PWR 0, fun n _ v s => s.writeLanePwr (tileAt n) v),
  (Reg.TL_DIAG_CTL 0, fun n _ v s => s.writeDiagCtl (tileAt n) v),
  (Reg.SCL_CFG 0, fun k _ v s => s.writeScalerCfg k v),
  (Reg.SCL_STAT 0, fun k _ v s => if (s.scalerEntry k).isNone then s else s.writeFields (Reg.SCL_STAT k) [⟨24, 24, .w1c, 0⟩] v),
  (Reg.SCL_TABLE_CTL 0, fun k _ v s => s.writeTableWr k v),
  (Reg.SCL_COEF 0 0, fun k w v s => s.writeScalerTable k (Reg.SCL_COEF k w) v),
  (Reg.SCL_LIN 0 0, fun k w v s => s.writeScalerTable k (Reg.SCL_LIN k w) v)]

/-- The hook of the register at base `b`, if its write does more than its fields say. -/
def findHook (b : Nat) : Option Hook := ((hooksLow ++ hooksHigh).find? fun e => e.1 = b).map (·.2)

/-- A write to the MSI-X table (16 R361; layout PRESUMED from PCI Express, log 8). -/
def State.writeMsix (off v : Nat) (s : State) : State :=
  let k : Fin 16 := ⟨(off - 0x00F000) / 16 % 16, Nat.mod_lt _ (by decide)⟩
  let w := BitVec.ofNat 32 v
  (s.onHost fun h => { h with msix := h.msix.set k (match (off / 4) % 4 with
    | 0 => { h.msix.get k with addrLo := w &&& ~~~3#32 }
    | 1 => { h.msix.get k with addrHi := w }
    | 2 => { h.msix.get k with data := w }
    | _ => { h.msix.get k with control := w &&& 1#32 }) }).flushPba

/-- A 32-bit write to a word-aligned offset that is served: nothing for a domain that is off or a reserved offset. -/
def State.writeWord (m : Master) (off v : Nat) (s : State) : State :=
  if !bitAt s.domainsOn (domainOf off) then s
  else if 0x00F000 ≤ off ∧ off < 0x00F100 then s.writeMsix off v
  else if 0x440000 ≤ off ∧ off < 0x480000 then
    (if m = .core then { s with fwLog := Memory.write s.fwLog (off - 0x440000) (le 4 v) } else s)
  else match regAt off with
    | none => s
    | some (r, is) =>
      let i := is.getD 0 0
      let j := is.getD 1 0
      if r.base = Reg.INTC_HAND_CLAIM 0 then s.claimWrite m (fin2 i) (bitsOf v 9 0)
      else if r.base = Reg.CHN_TC 0 0 0 then s.writeCurve i j (is.getD 2 0) v
      else match findHook r.base with
        | some h => h i j v s
        | none => s.writeFields off r.flds v

/-- A register write of a master. A write that is not 32 bits wide and naturally aligned is discarded (00 R4), as is every
write in PASTEURISE (17 R388) and those that the host may not make (17 R398; 18 R411). -/
def State.writeReg (m : Master) (off size v : Nat) (s : State) : State :=
  if !s.reaches m then s
  else if s.asleep m then s.emit .unsupported
  else if s.dev.state = .pasteurise ∨ size ≠ 4 ∨ off % 4 ≠ 0 ∨ (m = .host ∧ hostDiscards off = true) then s
  else s.writeWord m off v

/-! ### Reads -/

/-- What a read of an even word of a photometric LEDGER latches (08 R191, R192). -/
def State.latchLedger (off : Nat) (s : State) : State :=
  let n := tileAt (off / 0x10000)
  let w := fun b => (off - b) / 4
  if Reg.DEV_POT_LEDGER 0 ≤ off ∧ off < Reg.DEV_POT_LEDGER 8 then
    s.onPot fun p => { p with hi := latchWord p.ledger.words p.hi (w (Reg.DEV_POT_LEDGER 0)) }
  else if off / 0x100000 = 1 ∧ Reg.CHN_POT_LEDGER n 0 ≤ off ∧ off < Reg.CHN_POT_LEDGER n 8 then
    s.onPhot n fun p => { p with potHi := latchWord p.ledger.words p.potHi (w (Reg.CHN_POT_LEDGER n 0)) }
  else if off / 0x100000 = 1 ∧ Reg.CHN_PROBE_LEDGER n 0 ≤ off ∧ off < Reg.CHN_PROBE_LEDGER n 4 then
    s.onPhot n fun p => { p with probeHi := latchWord p.probeWords p.probeHi (w (Reg.CHN_PROBE_LEDGER n 0)) }
  else s

/-- What a read of the register at a word-aligned offset changes: the latching pairs (04 R86; 08 R191, R192; 14 R340). -/
def State.latchRead (off : Nat) (s : State) : State :=
  if off = Reg.TICK_LAMP_LO then s.onTiming fun t => { t with lampHi := s.lamp / 2 ^ 32 % 2 ^ 32 }
  else if off = Reg.TICK_LAST_LO then s.onTiming fun t => { t with lastHi := t.lastTick / 2 ^ 32 % 2 ^ 32 }
  else if off = Reg.FLT_FIRST_TIME_LO then s.onFaults fun f => { f with timeHi := f.firstTime / 2 ^ 32 % 2 ^ 32 }
  else s.latchLedger off

/-- The bytes a read of `size` bytes at `off` returns: those of the register that holds the first, then 0 (00 R4). -/
def readBytes (off size w : Nat) : Bytes := padTo size ((le (4 - off % 4) (w / 2 ^ (8 * (off % 4)))).take size)

/-- A register read of a master, with its side effects; a core's read of CLAIM claims (15 R349). -/
def State.readReg (m : Master) (off size : Nat) (s : State) : State :=
  if !s.reaches m then s
  else if s.asleep m then s.emit .unsupported
  else
    let a := off / 4 * 4
    let claims := decide (m = .core) && decide (a = Reg.INTC_HAND_CLAIM 0 ∨ a = Reg.INTC_HAND_CLAIM 1)
    let r := if claims then s.claim (fin2 ((a - Reg.INTC_HAND_CLAIM 0) / 16)) else (s.readWord a, s.latchRead a)
    r.2.emit (.regRead m off (readBytes off size r.1))

/-! ### I²C (16 R381) -/

/-- The register behind an index of the I²C target. -/
def i2cOffset (i : Nat) : Option Nat :=
  [Reg.DEV_IDENT, Reg.DEV_STATE, Reg.FLT_STAT, Reg.FLT_FIRST, Reg.HK_THERM_STAT, Reg.TICK_FRAME, Reg.DEV_DEAL_SEQ, Reg.PTN_STAT][i]?
/-- The value at an index; the index advances by 1 a value, and is a byte. -/
def State.i2cValue (s : State) (i : Nat) : Word := BitVec.ofNat 32 (((i2cOffset (i % 256)).map s.readWord).getD 0)
/-- I2C_READ: the target answers once the device has left PASTEURISE, and changes nothing. -/
def State.i2cRead (index count : Nat) (s : State) : State :=
  if s.dev.state = .off ∨ s.dev.state = .pasteurise then s.emit (.i2cRead none)
  else s.emit (.i2cRead (some ((List.range count).map fun k => s.i2cValue (index + k))))

end Sys2Proof.Machine
end

