-- ==== Sys2Proof/Machine/Misc.lean ====
section
/-! DEFINITION. Fault inputs as commands, SYNC and its summary, the fatal dump, and the release of a waiting command
(14 R316, R318; 03 R66, R73, R75, R76; 17 R400). -/

namespace Sys2Proof.Machine

open Sys2Proof

/-! ### Fault inputs (14 R315 to R318) -/

/-- What raising an input shows beside the collector: block errors of the partner link count once a frame (14 R341). -/
def State.inputShows (input : Nat) (s : State) : State :=
  if input = 112 then (s.setFlag Reg.PTN_EVT 4).onPartner fun p => { p with laneErrFrames := satAdd 0xFFFF p.laneErrFrames 1 } else s
/-- FAULT_INPUT_RAISE. -/
def State.faultInputRaise (input detail : Nat) (s : State) : State :=
  if s.dev.state = .off then s else (s.inputShows input).raise input detail
/-- BROKEN_PAIR; the collector raises nothing while the device is OFF. -/
def State.brokenInput (input : Nat) (s : State) : State := if s.dev.state = .off then s else s.brokenPair input

/-! ### SYNC (03 R75, R76) -/

/-- The firmware that runs: its slot, `none` in every absence. -/
def State.runningSlot (s : State) : Option Nat := if s.power.absent then none else s.power.started

/-- A ring entry of the summary. -/
def State.syncRing (s : State) (r : RingId) : Bytes :=
  let x := s.ring r
  le 2 x.sqHead ++ le 2 x.sqTail ++ le 2 x.cqTail ++ le 2 x.cqHead ++
  le 1 (fields [(3, 0, x.sizeLog2), (4, 4, b2n x.enable), (5, 5, b2n x.isLocal), (6, 6, b2n x.stopped)]) ++
  le 1 x.accepted.length ++ le 2 x.window.length ++ le 2 ((x.window.getLast?.map (·.cmd.tag.toNat)).getD 0) ++
  le 2 ((x.accepted.head?.map (·.tag)).getD 0) ++ le 4 (s.ringTokens r) ++ le 4 x.acceptedCount ++ le 1 x.held.length ++ zeros 7

/-- A tile entry of the summary. -/
def State.syncTile (s : State) (n : TileId) : Bytes :=
  let p := s.port n
  let c := s.churn n
  let used := fun (f : Fin 8 → Bool) => maskOf (slotIds.map f)
  let on := fun (sl : Fin 8) => if sl = 0 then c.trump.isSome else (c.layer sl).isSome
  let left := if p.state = 4 then (s.tileEntry n).holdFrames + 1 - (p.status.map (·.holdCount.toNat)).getD 0 else 0
  le 1 p.state ++ le 1 (b2n p.lockA + 2 * b2n p.lockB + 4 * b2n p.retLock) ++ le 1 (used on) ++
  le 1 (used fun sl => ((c.op sl).bind (·.layer)).isSome) ++ le 1 c.page ++ le 1 left ++
  le 2 (min 65535 ((s.diag n).counts.get 7)) ++ le 4 (s.reg (Reg.CHN_REPEAT_CNT n)).toNat ++ zeros 4

/-- The 1,024 bytes of the summary at the snapshot. -/
def State.syncSummary (s : State) : Bytes :=
  let f := s.faults
  let t := s.house.therm
  let b := le 4 0x4E595351 ++ le 2 1 ++ le 2 1024 ++ le 4 0x51543216 ++
    le 1 s.dev.state.code ++ le 1 s.dev.prev ++ le 1 s.dev.cause ++ le 1 s.power.efuseShown.lifecycle ++
    le 8 s.lamp ++ le 4 s.frame ++ le 1 s.timing.rate ++
    le 1 (b2n (decide (s.timing.lock.state = 2)) + 2 * b2n s.timing.retime.isSome + 4 * b2n s.dev.stateCmd.isSome) ++
    le 2 s.dev.litSet.toNat ++ le 4 (s.readWord Reg.DEV_DEAL_SEQ) ++ le 4 (s.readWord Reg.DEV_DEAL_STAT) ++
    le 8 ((s.theDeal.map (·.luminaireId)).getD 0) ++ le 4 (s.readWord Reg.DEV_AUDIT_STAT) ++
    le 4 (s.readWord Reg.PWR_FW_VER) ++ le 1 (s.runningSlot.getD 0xFF) ++
    le 1 (s.role + 128 * b2n (decide (s.partner.state = 2))) ++ zeros 6 ++
    (ringIds.map s.syncRing).flatten ++ (tileIds.map s.syncTile).flatten ++
    le 1 ((f.first.map (·.input)).getD 0xFF) ++ le 1 ((f.first.map fun e => e.cls + 128 * b2n e.overflow).getD 0) ++
    le 2 s.timerLeft ++ le 8 f.firstTime ++ le 2 f.cntC ++ le 2 f.cntD ++
    le 2 (patternOf 16 t.hottest) ++ le 1 t.level ++ le 1 (b2n t.warn + 2 * b2n (decide (0 < t.lR)) + 4 * b2n t.nvOpen) ++ zeros 12 ++
    zeros 540
  b ++ le 4 (crc32c b)

/-- SYNC from step 5 on: the snapshot is taken where it passes step 6. -/
def syncBody : Body := fun c ref s =>
  let opts := par c 16 1
  checked [(8, 8), (16, 1)] [(decide (par c 8 8 % 64 ≠ 0), .invalid, 8), (decide (1 < opts), .invalid, 16)] c ref
    (fun s =>
      let job : SyncJob := ⟨ref, par c 8 8, s.syncSummary, decide (opts = 1), s.lamp % 2 ^ 32⟩
      (s.accept ref).onDealer fun d => { d with syncs := d.syncs ++ [job] }) s

/-- REARM: a COMPLETION record for every ring whose completion queue is not empty (15 R344). -/
def State.rearm (tag : Nat) (s : State) : State :=
  forEach ringIds (fun r s =>
    let x := s.ring r
    if x.enable && decide (x.cqTail ≠ x.cqHead) then
      s.post 0x01 (r.val + 1) (le 1 r.val ++ le 1 1 ++ le 2 x.cqTail ++ le 2 tag ++ le 1 0 ++ le 1 2)
    else s) s

/-- SUMMARY_WRITTEN: the oldest summary reaches the host, or its write fails with the link (16 R364, R435). A SYNC that ends
TIMEOUT does not carry out its REARM (DESIGN CHOICE, log 104). -/
def State.summaryWritten (s : State) : State := match s.dealer.syncs with
  | [] => s
  | j :: rest =>
    if s.host.linkUp && !s.hostReady then s
    else
      let s := s.onDealer fun d => { d with syncs := rest }
      if !s.host.linkUp then s.completeWith j.ref .timeout
      else
        let s := (s.emit (.hostWrite j.addr j.summary)).completeOk j.ref j.lampLow
        if j.rearm then s.rearm j.ref.tag else s

/-! ### The fatal dump (17 R400) -/

/-- `n` bytes that the rules do not give: free values. -/
def State.freeBytes (s : State) (k n : Nat) : Bytes := (List.range n).map fun i => BitVec.ofNat 8 (Config.freeValue (s.freeSeq + k + i))

/-- The words of a range of the register map as the firmware reads them. -/
def State.mapBytes (s : State) (off words : Nat) : Bytes :=
  (List.range words).flatMap fun k =>
    let o := off + 4 * k
    let w := if o = Reg.TICK_LAMP_HI then s.lamp / 2 ^ 32
      else if o = Reg.TICK_LAST_HI then s.timing.lastTick / 2 ^ 32
      else if o = Reg.FLT_FIRST_TIME_HI then s.faults.firstTime / 2 ^ 32
      else s.readWord o
    le 4 w

/-- The header with its CHECK. -/
def State.dumpHeader (s : State) (size check : Nat) : Bytes :=
  let e := s.power.fatalAt.getD (0, 0, 0, 0, 0)
  le 4 0x504D4451 ++ le 2 1 ++ le 2 4096 ++ le 4 size ++ le 4 0x51543216 ++ le 8 Config.dieUid.toNat ++ le 8 e.1 ++ le 4 e.2.1 ++
  le 1 e.2.2.1 ++ le 1 (s.power.started.getD s.power.active) ++ zeros 2 ++ le 4 e.2.2.2.1 ++ le 8 e.2.2.2.2 ++
  le 4 s.power.version ++ le 4 (s.readWord Reg.DEV_DEAL_SEQ) ++ le 8 ((s.theDeal.map (·.luminaireId)).getD 0) ++ le 4 check ++ zeros 4024

/-- The dump: header, event staging, register map, TRC window, core memory, and the firmware's log. Bytes between the
sections are free. -/
def State.dumpBytes (s : State) (log : Bytes) : Bytes :=
  let log := log.take (67108864 - 0xA00000)
  let size := (0xA00000 + log.length + 63) / 64 * 64
  let staged := padTo 0x20000 (s.intc.staging.flatMap fun r => r.ev.bytes 0 1 true false)
  let body := staged ++ s.freeBytes 0 0xDF000 ++ s.mapBytes 0 0x100000 ++ s.mapBytes 0x400000 0x40000 ++
    Memory.read s.coreMem 0 0x400000 ++ padTo (size - 0xA00000) log
  let check := crc32c (s.dumpHeader size 0 ++ body)
  s.dumpHeader size check ++ body

/-- DUMP_DONE: the firmware has written the dump to the partition of KIND 5. -/
def State.writeDump (log : Bytes) (s : State) : State := match s.dumpPart with
  | some p =>
    if s.dumping && !s.power.absent then
      let b := s.dumpBytes log
      ({ s.dramWrite p.base b with freeSeq := s.freeSeq + 0xDF000 }).onPower fun x => { x with
        dumpDone := true, dumpSince := s.lamp, dumpSize := b.length }
    else s
  | none => s

/-! ### The release of a waiting command (03 R66, R73) -/

/-- Steps 5 on of an opcode; `data` is what a read of host memory gives, for the two opcodes that make it at once. -/
def bodyOf (data : HostRead) (op : Nat) : Body := match op with
  | 0x01 => nopBody
  | 0x02 => syncBody
  | 0x03 => dealLoadBody
  | 0x04 => redealGroupBody
  | 0x05 => lightBody
  | 0x06 => darkenBody
  | 0x07 => holdBody
  | 0x08 => resumeBody
  | 0x09 => timingSetBody
  | 0x10 => layerCommitBody
  | 0x11 => layerDisableBody
  | 0x12 => surfaceCopyBody
  | 0x13 => trumpSelectBody
  | 0x18 => skimZonesSetBody
  | 0x19 => skimMaintWindowBody
  | 0x20 => tileAdmitBody
  | 0x21 => tileRetireBody
  | 0x22 => tileCalLoadBody
  | 0x23 => tileCalReadBody
  | 0x28 => linkTestBody
  | 0x30 => loopLoadBody
  | 0x31 => loopSwapBody
  | 0x32 => loopModeBody
  | 0x38 => calRunBody
  | 0x40 => crcScanBody
  | 0x48 => dumpFetchBody
  | 0x50 => fwStageBody data
  | 0x51 => fwSwitchBody
  | 0x58 => lifecycleBody data
  | 0x60 => partnerJoinBody
  | 0x61 => partnerLeaveBody
  | _ => fun _ _ s => s

/-- COMMAND_WAIT_RELEASE; `data` is what the command's read of host memory gives, where it makes one at once. -/
def State.releaseWait (r : RingId) (data : HostRead) (s : State) : State := s.waitRelease r (bodyOf data)

/-! ### How a command ends -/

/-- Nothing happens to a chip that is OFF (03 R50). -/
def State.alive (f : State → State) (s : State) : State := if s.dev.state = .off then s else f s
/-- The answer of a command: the state after all that follows at once from its effect. -/
def finish (s : State) : Host.Outcome State Fault Refusal := .next s.settle

/-- An offset of INTC_SRCs_CFG or INTC_HANDh_CFG (15 R354). -/
def routingOffset (off : Nat) : Bool :=
  (decide (Reg.INTC_SRC_CFG 1 ≤ off ∧ off < Reg.INTC_SRC_CFG 384) && decide (off % 8 = 0)) ||
  (decide (Reg.INTC_HAND_CFG 0 ≤ off ∧ off < Reg.INTC_HAND_CFG 8) && decide (off % 16 = 0))

end Sys2Proof.Machine
end

