-- ==== Sys2Proof/Machine/ExecControl.lean ====
section
/-! DEFINITION. The meanings of the commands. The control engine, housekeeping, the thermal monitor and the accent driver (11, 12, 13). -/

namespace Sys2Proof.Machine

open Sys2Proof

/-- LOOP_MODE_TIMEOUT (R257). -/
def execLoopModeTimeout (l : LoopId) (s : State) : Host.Outcome State Fault Refusal :=
  finish (s.alive (·.loopModeTimeout l))

/-- HANDOVER_WINDOW_END (R266). -/
def execHandoverWindowEnd (l : LoopId) (s : State) : Host.Outcome State Fault Refusal :=
  finish (s.alive (·.handoverEnd l))

/-- RESIDUAL_TRIP (R262). -/
def execResidualTrip (l : LoopId) (input : Fin 4) (s : State) : Host.Outcome State Fault Refusal :=
  finish (s.alive (fun s => if s.tripDue l input then (s.residualTrip l input (signedOf 32 s.free)).useFree else s))

/-- LOOP_LOAD_DONE (R270). -/
def execLoopLoadDone (l : LoopId) (s : State) : Host.Outcome State Fault Refusal :=
  finish (s.alive (·.loopLoadDone l))

/-- TRACE_ARM (R277). -/
def execTraceArm (m : Master) (c : Fin 4) (value : Word) (s : State) : Host.Outcome State Fault Refusal :=
  finish (s.alive (·.writeReg m (Reg.CTL_TRC_CTL c) 4 value.toNat))

/-- TRACE_STOP (R277). -/
def execTraceStop (m : Master) (c : Fin 4) (value : Word) (s : State) : Host.Outcome State Fault Refusal :=
  finish (s.alive (·.writeReg m (Reg.CTL_TRC_CTL c) 4 value.toNat))

/-- TRACE_POST_END (R277). -/
def execTracePostEnd (c : Fin 4) (s : State) : Host.Outcome State Fault Refusal :=
  finish (s.alive (·.tracePostEnd c))

/-- MILK_ROUND_END (R279). -/
def execMilkRoundEnd (conv : List Nat) (s : State) : Host.Outcome State Fault Refusal :=
  finish (s.alive (·.milkRoundEnd (slotCodes conv)))

/-- THERMAL_EVALUATION (R292). -/
def execThermalEvaluation (conv : List Nat) (s : State) : Host.Outcome State Fault Refusal :=
  finish (s.alive (·.thermalEvaluation (slotCodes conv)))

/-- THROTTLE_LEVEL_APPLY (R292). -/
def execThrottleLevelApply (s : State) : Host.Outcome State Fault Refusal :=
  finish (s.alive (·.applyLevel))

/-- CAL_RUN_DECISION (R286). -/
def execCalRunDecision (s : State) : Host.Outcome State Fault Refusal :=
  finish (s.alive (·.calDecision))

/-- TRIM_ENTRY_COMPLETE (R287). -/
def execTrimEntryComplete (s : State) : Host.Outcome State Fault Refusal :=
  finish (s.alive (·.entryDone))

/-- SAVE (R291). -/
def execSave (m : Master) (value : Word) (s : State) : Host.Outcome State Fault Refusal :=
  finish (s.alive (·.writeReg m Reg.HK_CAL_CTL 4 value.toNat))

/-- RESTORE (R291). -/
def execRestore (m : Master) (value : Word) (s : State) : Host.Outcome State Fault Refusal :=
  finish (s.alive (·.writeReg m Reg.HK_CAL_CTL 4 value.toNat))

/-- SAVE_DONE (R291). -/
def execSaveDone (s : State) : Host.Outcome State Fault Refusal :=
  finish (s.alive (·.saveDone))

/-- RESTORE_READ_DONE (R291). -/
def execRestoreReadDone (s : State) : Host.Outcome State Fault Refusal :=
  finish (s.alive (·.restoreDone))

/-- PWM_PERIOD_START (R301). -/
def execPwmPeriodStart (samples : List PinSample) (s : State) : Host.Outcome State Fault Refusal :=
  finish (s.alive (·.pwmStart samples))

/-- FADE_TICK (R303). -/
def execFadeTick (offChecks : List PinSample) (s : State) : Host.Outcome State Fault Refusal :=
  finish (s.alive (·.fadeTick offChecks))

/-- TARGET (R303). -/
def execTarget (m : Master) (c : Fin 48) (value : Word) (s : State) : Host.Outcome State Fault Refusal :=
  finish (s.alive (·.writeReg m (Reg.ACC_CH_FADE c) 4 value.toNat))

/-- SCAN_SLOT_START (R305). -/
def execScanSlotStart (samples : List PinSample) (s : State) : Host.Outcome State Fault Refusal :=
  finish (s.alive (·.scanSlot samples))

/-- MSYNC_LOST (R306). -/
def execMsyncLost (s : State) : Host.Outcome State Fault Refusal :=
  finish (s.alive (·.msyncLost))

/-- MSWAP (R307). -/
def execMswap (m : Master) (value : Word) (s : State) : Host.Outcome State Fault Refusal :=
  finish (s.alive (·.writeReg m Reg.ACC_MCTL 4 value.toNat))

/-- CLR (R310). -/
def execClr (m : Master) (c : Fin 48) (value : Word) (s : State) : Host.Outcome State Fault Refusal :=
  finish (s.alive (·.writeReg m (Reg.ACC_CH_CTL c) 4 value.toNat))

end Sys2Proof.Machine
end

