-- ==== Sys2Proof/Machine/ExecDealer.lean ====
section
/-! DEFINITION. The meanings of the commands. The commands of the submission rings (03 R58 to R76). -/

namespace Sys2Proof.Machine

open Sys2Proof

/-- UNKNOWN_OPCODE (R66). -/
def execUnknownOpcode (opcode : Byte) (q : Submission) (s : State) : Host.Outcome State Fault Refusal :=
  finish (s.alive (·.unknownOpcode opcode.toNat q))

/-- NOP (R67). -/
def execNop (q : Submission) (s : State) : Host.Outcome State Fault Refusal :=
  finish (s.alive (·.dealerRun 0x01 q nopBody))

/-- SYNC (R75). -/
def execSync (q : Submission) (s : State) : Host.Outcome State Fault Refusal :=
  finish (s.alive (·.dealerRun 0x02 q syncBody))

/-- DEAL_LOAD (R45). -/
def execDealLoad (q : Submission) (s : State) : Host.Outcome State Fault Refusal :=
  finish (s.alive (·.dealerRun 0x03 q dealLoadBody))

/-- REDEAL_GROUP (R46). -/
def execRedealGroup (q : Submission) (s : State) : Host.Outcome State Fault Refusal :=
  finish (s.alive (·.dealerRun 0x04 q redealGroupBody))

/-- LIGHT (R54). -/
def execLight (q : Submission) (s : State) : Host.Outcome State Fault Refusal :=
  finish (s.alive (·.dealerRun 0x05 q lightBody))

/-- DARKEN (R434). -/
def execDarken (q : Submission) (s : State) : Host.Outcome State Fault Refusal :=
  finish (s.alive (·.dealerRun 0x06 q darkenBody))

/-- HOLD (R52). -/
def execHold (q : Submission) (s : State) : Host.Outcome State Fault Refusal :=
  finish (s.alive (·.dealerRun 0x07 q holdBody))

/-- RESUME (R53). -/
def execResume (q : Submission) (s : State) : Host.Outcome State Fault Refusal :=
  finish (s.alive (·.dealerRun 0x08 q resumeBody))

/-- TIMING_SET (R89). -/
def execTimingSet (q : Submission) (s : State) : Host.Outcome State Fault Refusal :=
  finish (s.alive (·.dealerRun 0x09 q timingSetBody))

/-- LAYER_COMMIT (R102). -/
def execLayerCommit (q : Submission) (s : State) : Host.Outcome State Fault Refusal :=
  finish (s.alive (·.dealerRun 0x10 q layerCommitBody))

/-- LAYER_DISABLE (R107). -/
def execLayerDisable (q : Submission) (s : State) : Host.Outcome State Fault Refusal :=
  finish (s.alive (·.dealerRun 0x11 q layerDisableBody))

/-- SURFACE_COPY_IN (R135). -/
def execSurfaceCopyIn (q : Submission) (s : State) : Host.Outcome State Fault Refusal :=
  finish (s.alive (·.dealerRun 0x12 q surfaceCopyBody))

/-- TRUMP_SELECT (R122). -/
def execTrumpSelect (q : Submission) (s : State) : Host.Outcome State Fault Refusal :=
  finish (s.alive (·.dealerRun 0x13 q trumpSelectBody))

/-- SKIM_ZONES_SET (R164). -/
def execSkimZonesSet (q : Submission) (s : State) : Host.Outcome State Fault Refusal :=
  finish (s.alive (·.dealerRun 0x18 q skimZonesSetBody))

/-- SKIM_MAINT_WINDOW (R169). -/
def execSkimMaintWindow (q : Submission) (s : State) : Host.Outcome State Fault Refusal :=
  finish (s.alive (·.dealerRun 0x19 q skimMaintWindowBody))

/-- TILE_ADMIT (R223). -/
def execTileAdmit (q : Submission) (s : State) : Host.Outcome State Fault Refusal :=
  finish (s.alive (·.dealerRun 0x20 q tileAdmitBody))

/-- TILE_RETIRE (R224). -/
def execTileRetire (q : Submission) (s : State) : Host.Outcome State Fault Refusal :=
  finish (s.alive (·.dealerRun 0x21 q tileRetireBody))

/-- TILE_CAL_LOAD (R183). -/
def execTileCalLoad (q : Submission) (s : State) : Host.Outcome State Fault Refusal :=
  finish (s.alive (·.dealerRun 0x22 q tileCalLoadBody))

/-- TILE_CAL_READ (R228). -/
def execTileCalRead (q : Submission) (s : State) : Host.Outcome State Fault Refusal :=
  finish (s.alive (·.dealerRun 0x23 q tileCalReadBody))

/-- LINK_TEST (R230). -/
def execLinkTest (q : Submission) (s : State) : Host.Outcome State Fault Refusal :=
  finish (s.alive (·.dealerRun 0x28 q linkTestBody))

/-- LOOP_LOAD (R270). -/
def execLoopLoad (q : Submission) (s : State) : Host.Outcome State Fault Refusal :=
  finish (s.alive (·.dealerRun 0x30 q loopLoadBody))

/-- LOOP_SWAP (R271). -/
def execLoopSwap (q : Submission) (s : State) : Host.Outcome State Fault Refusal :=
  finish (s.alive (·.dealerRun 0x31 q loopSwapBody))

/-- LOOP_MODE (R265). -/
def execLoopMode (q : Submission) (s : State) : Host.Outcome State Fault Refusal :=
  finish (s.alive (·.dealerRun 0x32 q loopModeBody))

/-- CAL_RUN (R284). -/
def execCalRun (q : Submission) (s : State) : Host.Outcome State Fault Refusal :=
  finish (s.alive (·.dealerRun 0x38 q calRunBody))

/-- CRC_SCAN (R402). -/
def execCrcScan (q : Submission) (s : State) : Host.Outcome State Fault Refusal :=
  finish (s.alive (·.dealerRun 0x40 q crcScanBody))

/-- DUMP_FETCH (R401). -/
def execDumpFetch (q : Submission) (s : State) : Host.Outcome State Fault Refusal :=
  finish (s.alive (·.dealerRun 0x48 q dumpFetchBody))

/-- FW_STAGE (R396). -/
def execFwStage (q : Submission) (image : HostRead) (s : State) : Host.Outcome State Fault Refusal :=
  finish (s.alive (·.dealerRun 0x50 q (fwStageBody image)))

/-- FW_SWITCH (R397). -/
def execFwSwitch (q : Submission) (s : State) : Host.Outcome State Fault Refusal :=
  finish (s.alive (·.dealerRun 0x51 q fwSwitchBody))

/-- LIFECYCLE_ADVANCE (R393). -/
def execLifecycleAdvance (q : Submission) (auth : HostRead) (s : State) : Host.Outcome State Fault Refusal :=
  finish (s.alive (·.dealerRun 0x58 q (lifecycleBody auth)))

/-- PARTNER_JOIN (R329). -/
def execPartnerJoin (q : Submission) (s : State) : Host.Outcome State Fault Refusal :=
  finish (s.alive (·.dealerRun 0x60 q partnerJoinBody))

/-- PARTNER_LEAVE (R337). -/
def execPartnerLeave (q : Submission) (s : State) : Host.Outcome State Fault Refusal :=
  finish (s.alive (·.dealerRun 0x61 q partnerLeaveBody))

/-- COMMAND_WAIT_RELEASE (R73). -/
def execCommandWaitRelease (r : RingId) (data : HostRead) (s : State) : Host.Outcome State Fault Refusal :=
  finish (s.alive (·.releaseWait r data))

/-- COMMAND_WAIT_TIMEOUT (R73). -/
def execCommandWaitTimeout (r : RingId) (s : State) : Host.Outcome State Fault Refusal :=
  finish (s.alive (·.waitTimeout r))

/-- SURFACE_COPY_DONE (R135). -/
def execSurfaceCopyDone (data : Bytes) (s : State) : Host.Outcome State Fault Refusal :=
  finish (s.alive (·.copyDone data))

/-- SURFACE_COPY_TIMEOUT (R135). -/
def execSurfaceCopyTimeout (arrived : Bytes) (s : State) : Host.Outcome State Fault Refusal :=
  finish (s.alive (·.copyTimeout arrived))

/-- SUMMARY_WRITTEN (R75). -/
def execSummaryWritten (s : State) : Host.Outcome State Fault Refusal :=
  finish (s.alive (·.summaryWritten))

/-- DEAL_VERIFY_DONE (R43). -/
def execDealVerifyDone (image : HostRead) (s : State) : Host.Outcome State Fault Refusal :=
  finish (s.alive (·.dealVerifyDone image))

end Sys2Proof.Machine
end

