-- ==== Sys2Proof/Machine/ExecFault.lean ====
section
/-! DEFINITION. The meanings of the commands. Faults and the partner (14). -/

namespace Sys2Proof.Machine

open Sys2Proof

/-- FAULT_INPUT_RAISE (R318). -/
def execFaultInputRaise (input : Fin 128) (detail : BitVec 16) (s : State) : Host.Outcome State Fault Refusal :=
  finish (s.alive (·.faultInputRaise input detail.toNat))

/-- BROKEN_PAIR (R316). -/
def execBrokenPair (input : Fin 128) (s : State) : Host.Outcome State Fault Refusal :=
  finish (s.alive (·.brokenInput input))

/-- FLT_INJECT (R318). -/
def execFltInject (m : Master) (value : Word) (s : State) : Host.Outcome State Fault Refusal :=
  finish (s.alive (·.writeReg m Reg.FLT_INJECT 4 value.toNat))

/-- VALID (R319). -/
def execValid (m : Master) (value : Word) (s : State) : Host.Outcome State Fault Refusal :=
  finish (s.alive (·.writeReg m Reg.FLT_FIRST 4 value.toNat))

/-- FAULT_PEND_CLEAR (R320). -/
def execFaultPendClear (m : Master) (w : Fin 4) (value : Word) (s : State) : Host.Outcome State Fault Refusal :=
  finish (s.alive (·.writeReg m (Reg.FLT_PEND w) 4 value.toNat))

/-- REACTION_TIMER_EXPIRY (R320). -/
def execReactionTimerExpiry (s : State) : Host.Outcome State Fault Refusal :=
  finish (s.alive (·.timerExpiry))

/-- PTN_NOT_FOUND (R328). -/
def execPtnNotFound (s : State) : Host.Outcome State Fault Refusal :=
  finish (s.alive (·.ptnNotFound))

/-- PARTNER_MESSAGE (R331). -/
def execPartnerMessage (msg : PartnerMsg) (s : State) : Host.Outcome State Fault Refusal :=
  finish (s.alive (·.partnerMessage msg))

/-- PARTNER_LOSS (R335). -/
def execPartnerLoss (cause : LossCause) (s : State) : Host.Outcome State Fault Refusal :=
  finish (s.alive (·.partnerLoss cause))

/-- PARTNER_JOIN_TIMEOUT (R329). -/
def execPartnerJoinTimeout (s : State) : Host.Outcome State Fault Refusal :=
  finish (s.alive (·.joinTimeout))

/-- PARTNER_REDEAL_TIMEOUT (R334). -/
def execPartnerRedealTimeout (s : State) : Host.Outcome State Fault Refusal :=
  finish (s.alive (·.partnerRedealTimeout))

/-- PARTNER_LINK_LOCK (R329). -/
def execPartnerLinkLock (lane : Fin 2) (delay : BitVec 16) (s : State) : Host.Outcome State Fault Refusal :=
  finish (s.alive (·.partnerLinkLock lane delay.toNat))

end Sys2Proof.Machine
end

