-- ==== Sys2Proof/Machine/ExecFeed.lean ====
section
/-! DEFINITION. The meanings of the commands. The feed port (04 R87; 16 R366 to R374). -/

namespace Sys2Proof.Machine

open Sys2Proof

/-- OBJECT_LIST_PACKET (R152). -/
def execObjectListPacket (payload : Bytes) (s : State) : Host.Outcome State Fault Refusal :=
  finish (s.alive (·.objectList payload))

/-- VIDEO_LINE (R371). -/
def execVideoLine (payload : Bytes) (room : Bool) (s : State) : Host.Outcome State Fault Refusal :=
  finish (s.alive (·.videoLine payload room))

/-- TS_REQUEST (R87). -/
def execTsRequest (payload : Bytes) (s : State) : Host.Outcome State Fault Refusal :=
  finish (s.alive (·.tsRequest payload))

/-- FEED_PACKET_ERROR (R369). -/
def execFeedPacketError (kind : PacketError) (s : State) : Host.Outcome State Fault Refusal :=
  finish (s.alive (·.feedPacketError kind))

/-- FEED_UNKNOWN_PACKET (R369). -/
def execFeedUnknownPacket (type : Byte) (s : State) : Host.Outcome State Fault Refusal :=
  finish (s.alive (·.feedUnknown type.toNat))

/-- FEED_LANE_LOCK (R367). -/
def execFeedLaneLock (lane : Fin 4) (marker : Bool) (skew : Nat) (s : State) : Host.Outcome State Fault Refusal :=
  finish (s.alive (·.feedLaneLock lane marker skew))

/-- FEED_LANE_LOCK_LOST (R368). -/
def execFeedLaneLockLost (lane : Fin 4) (marker : Bool) (s : State) : Host.Outcome State Fault Refusal :=
  finish (s.alive (·.feedLaneLost lane marker))

/-- LANE_EN (R368). -/
def execLaneEn (m : Master) (value : Word) (s : State) : Host.Outcome State Fault Refusal :=
  finish (s.alive (·.writeReg m Reg.FEED_CFG 4 value.toNat))

end Sys2Proof.Machine
end

