-- ==== Sys2Proof/Machine/ExecFrame.lean ====
section
/-! DEFINITION. The meanings of the commands. Ticks, the cut and what they bring; layers, scalers, skim, photometric stage (01 to 08). -/

namespace Sys2Proof.Machine

open Sys2Proof

/-- FRAME_TICK (R14). -/
def execFrameTick (s : State) : Host.Outcome State Fault Refusal :=
  finish (s.alive (·.frameTick))

/-- SAMPLE_TICK (R256). -/
def execSampleTick (missed : List (Fin 64)) (s : State) : Host.Outcome State Fault Refusal :=
  finish (s.alive (·.sampleTick missed))

/-- CUT (R15). -/
def execCut (s : State) : Host.Outcome State Fault Refusal :=
  finish (s.alive (·.cutNow))

/-- CUT_FENCE (R105). -/
def execCutFence (s : State) : Host.Outcome State Fault Refusal :=
  finish (s.alive (·.cutFence))

/-- RETRY_HORIZON (R212). -/
def execRetryHorizon (s : State) : Host.Outcome State Fault Refusal :=
  finish (s.alive (·.horizonNow))

/-- CHURN_LINE (R96). -/
def execChurnLine (n : TileId) (line : Nat) (env : LineEnv) (s : State) : Host.Outcome State Fault Refusal :=
  finish (s.alive (·.churnLine n line env))

/-- SYNC_IN_EDGE (R83). -/
def execSyncInEdge (falling : Bool) (s : State) : Host.Outcome State Fault Refusal :=
  finish (s.alive (·.syncInEdge falling))

/-- SYNC_LOCK_LOST (R83). -/
def execSyncLockLost (s : State) : Host.Outcome State Fault Refusal :=
  finish (s.alive (·.syncLockLost))

/-- SYNC_OUT_PULSE (R85). -/
def execSyncOutPulse (rising : Bool) (s : State) : Host.Outcome State Fault Refusal :=
  finish (s.alive (·.syncOutPulse rising))

/-- RETIME_DECISION (R90). -/
def execRetimeDecision (s : State) : Host.Outcome State Fault Refusal :=
  finish (s.alive (·.retimeNow))

/-- RETIME_WINDOW_END (R92). -/
def execRetimeWindowEnd (s : State) : Host.Outcome State Fault Refusal :=
  finish (s.alive (·.rephaseOver))

/-- REDEAL_TAKE_EFFECT (R47). -/
def execRedealTakeEffect (s : State) : Host.Outcome State Fault Refusal :=
  finish (s.alive (·.redealNow))

/-- LAYER_COMMIT_TIMEOUT (R104). -/
def execLayerCommitTimeout (n : TileId) (slot : Fin 8) (s : State) : Host.Outcome State Fault Refusal :=
  finish (s.alive (·.commitTimeout n slot))

/-- POT_PERSIST (R179). -/
def execPotPersist (n : TileId) (s : State) : Host.Outcome State Fault Refusal :=
  finish (s.alive (·.potPersist n))

/-- CAL_CHECKS_COMPLETE (R183). -/
def execCalChecksComplete (n : TileId) (s : State) : Host.Outcome State Fault Refusal :=
  finish (s.alive (·.calChecksDone n))

/-- CAL_ENTRY_COMPLETE (R184). -/
def execCalEntryComplete (n : TileId) (s : State) : Host.Outcome State Fault Refusal :=
  finish (s.alive (·.calEntryNow n))

/-- SKIM_BLIND_ENTRY (R154). -/
def execSkimBlindEntry (s : State) : Host.Outcome State Fault Refusal :=
  finish (s.alive (·.blindNow))

/-- SKIM_SETUP_DONE (R167). -/
def execSkimSetupDone (counts : Nat) (ecc : Bool) (s : State) : Host.Outcome State Fault Refusal :=
  finish (s.alive (·.setupDone counts ecc))

/-- MAINT_WINDOW_CLOSE (R169). -/
def execMaintWindowClose (n : TileId) (s : State) : Host.Outcome State Fault Refusal :=
  finish (s.alive (·.maintClose n))

/-- SCALER_CFG_WRITE (R143). -/
def execScalerCfgWrite (m : Master) (k : Fin 8) (value : Word) (s : State) : Host.Outcome State Fault Refusal :=
  finish (s.alive (·.writeReg m (Reg.SCL_CFG k) 4 value.toNat))

/-- TABLE_WR (R143). -/
def execTableWr (m : Master) (k : Fin 8) (value : Word) (s : State) : Host.Outcome State Fault Refusal :=
  finish (s.alive (·.writeReg m (Reg.SCL_TABLE_CTL k) 4 value.toNat))

end Sys2Proof.Machine
end

