-- ==== Sys2Proof/Machine/ExecHost.lean ====
section
/-! DEFINITION. The meanings of the commands. The host port, registers, event queues and memory (00 R4; 15; 16). -/

namespace Sys2Proof.Machine

open Sys2Proof

/-- SQ_TAIL_WRITE (R60). -/
def execSqTailWrite (m : Master) (r : RingId) (value : Word) (s : State) : Host.Outcome State Fault Refusal :=
  finish (s.alive (·.writeReg m (Reg.DEV_RING_SQ_TAIL r) 4 value.toNat))

/-- CQ_HEAD_WRITE (R60). -/
def execCqHeadWrite (m : Master) (r : RingId) (value : Word) (s : State) : Host.Outcome State Fault Refusal :=
  finish (s.alive (·.writeReg m (Reg.DEV_RING_CQ_HEAD r) 4 value.toNat))

/-- RING_ENABLE (R62). -/
def execRingEnable (m : Master) (r : RingId) (value : Word) (s : State) : Host.Outcome State Fault Refusal :=
  finish (s.alive (·.writeReg m (Reg.DEV_RING_CFG r) 4 value.toNat))

/-- RING_DISABLE (R62). -/
def execRingDisable (m : Master) (r : RingId) (value : Word) (s : State) : Host.Outcome State Fault Refusal :=
  finish (s.alive (·.writeReg m (Reg.DEV_RING_CFG r) 4 value.toNat))

/-- FLUSH_REPLAY (R62). -/
def execFlushReplay (m : Master) (r : RingId) (value : Word) (s : State) : Host.Outcome State Fault Refusal :=
  finish (s.alive (·.writeReg m (Reg.DEV_RING_CFG r) 4 value.toNat))

/-- RING_ERROR_CLEAR (R62). -/
def execRingErrorClear (m : Master) (r : RingId) (value : Word) (s : State) : Host.Outcome State Fault Refusal :=
  finish (s.alive (·.writeReg m (Reg.DEV_RING_STAT r) 4 value.toNat))

/-- PCIE_LINK_DOWN (R364). -/
def execPcieLinkDown (hotReset : Bool) (s : State) : Host.Outcome State Fault Refusal :=
  finish (s.alive (match hotReset with | true => State.linkDown | false => State.linkDown))

/-- PCIE_PERST (R424). -/
def execPciePerst (s : State) : Host.Outcome State Fault Refusal :=
  finish (s.alive (·.linkDown))

/-- D3HOT_ENTRY (R357). -/
def execD3hotEntry (pmeEn pmeClear : Bool) (s : State) : Host.Outcome State Fault Refusal :=
  finish (s.alive (·.d3hotEntry pmeEn pmeClear))

/-- D0_RETURN (R357). -/
def execD0Return (pmeEn pmeClear : Bool) (s : State) : Host.Outcome State Fault Refusal :=
  finish (s.alive (·.d0Return pmeEn pmeClear))

/-- BUS_MASTER_ENABLE (R364). -/
def execBusMasterEnable (s : State) : Host.Outcome State Fault Refusal :=
  finish (s.alive (·.busMasterEnable))

/-- BAR2_READ (R379). -/
def execBar2Read (offset : BitVec 28) (len : Nat) (s : State) : Host.Outcome State Fault Refusal :=
  finish (s.alive (·.bar2Read offset.toNat len))

/-- BAR2_WRITE (R379). -/
def execBar2Write (offset : BitVec 28) (data : Bytes) (s : State) : Host.Outcome State Fault Refusal :=
  finish (s.alive (·.bar2Write offset.toNat data))

/-- I2C_READ (R381). -/
def execI2cRead (index : Byte) (count : Nat) (s : State) : Host.Outcome State Fault Refusal :=
  finish (s.alive (·.i2cRead index.toNat count))

/-- REGISTER_WRITE (R7). -/
def execRegisterWrite (m : Master) (offset : BitVec 24) (size : Nat) (value : Word) (s : State) : Host.Outcome State Fault Refusal :=
  finish (s.alive (·.writeReg m offset.toNat size value.toNat))

/-- LATCHING_PAIR_READ (R86). -/
def execLatchingPairRead (m : Master) (offset : BitVec 24) (size : Nat) (s : State) : Host.Outcome State Fault Refusal :=
  finish (s.alive (·.readReg m offset.toNat size))

/-- WINDOW_TIMEOUT (R346). -/
def execWindowTimeout (src : Nat) (s : State) : Host.Outcome State Fault Refusal :=
  finish (s.alive (·.windowTimeout src))

/-- HOLDOFF_EXPIRY (R347). -/
def execHoldoffExpiry (g : Fin 3) (h : Fin 8) (s : State) : Host.Outcome State Fault Refusal :=
  finish (s.alive (·.holdoffExpiry g h))

/-- CLAIM_READ (R349). -/
def execClaimRead (m : Master) (h : Fin 2) (s : State) : Host.Outcome State Fault Refusal :=
  finish (s.alive (·.readReg m (Reg.INTC_HAND_CLAIM h) 4))

/-- CLAIM_WRITE (R350). -/
def execClaimWrite (m : Master) (h : Fin 2) (value : Word) (s : State) : Host.Outcome State Fault Refusal :=
  finish (s.alive (·.writeReg m (Reg.INTC_HAND_CLAIM h) 4 value.toNat))

/-- PENDING_WITHDRAW (R355). -/
def execPendingWithdraw (m : Master) (h : Fin 2) (w : Fin 12) (value : Word) (s : State) : Host.Outcome State Fault Refusal :=
  finish (s.alive (·.writeReg m (Reg.INTC_HAND_PEND h w) 4 value.toNat))

/-- EVQ_ENABLE (R351). -/
def execEvqEnable (m : Master) (q : QueueId) (value : Word) (s : State) : Host.Outcome State Fault Refusal :=
  finish (s.alive (·.writeReg m (Reg.EVQ_CFG q) 4 value.toNat))

/-- EVQ_DISABLE (R352). -/
def execEvqDisable (m : Master) (q : QueueId) (value : Word) (s : State) : Host.Outcome State Fault Refusal :=
  finish (s.alive (·.writeReg m (Reg.EVQ_CFG q) 4 value.toNat))

/-- CONS (R352). -/
def execCons (m : Master) (q : QueueId) (value : Word) (s : State) : Host.Outcome State Fault Refusal :=
  finish (s.alive (·.writeReg m (Reg.EVQ_CONS q) 4 value.toNat))

/-- ARM (R353). -/
def execArm (m : Master) (q : QueueId) (value : Word) (s : State) : Host.Outcome State Fault Refusal :=
  finish (s.alive (·.writeReg m (Reg.EVQ_CTL q) 4 value.toNat))

/-- WRITE_ERR_CLEAR (R352). -/
def execWriteErrClear (m : Master) (q : QueueId) (value : Word) (s : State) : Host.Outcome State Fault Refusal :=
  finish (s.alive (·.writeReg m (Reg.EVQ_STAT q) 4 value.toNat))

/-- SOURCE_ROUTING_WRITE (R354). -/
def execSourceRoutingWrite (m : Master) (offset : BitVec 24) (value : Word) (s : State) : Host.Outcome State Fault Refusal :=
  finish (s.alive (fun s => if routingOffset offset.toNat then s.writeReg m offset.toNat 4 value.toNat else s))

/-- SELF_REFRESH_ENTRY (R378). -/
def execSelfRefreshEntry (minTol : Nat) (s : State) : Host.Outcome State Fault Refusal :=
  finish (s.alive (·.selfRefreshEntry minTol))

/-- SELF_REFRESH_EXIT (R378). -/
def execSelfRefreshExit (minTol : Nat) (s : State) : Host.Outcome State Fault Refusal :=
  finish (s.alive (·.selfRefreshExit minTol))

/-- DRAM_TRAINING_DONE (R376). -/
def execDramTrainingDone (result : Option TrainResult) (s : State) : Host.Outcome State Fault Refusal :=
  finish (s.alive (·.trainingDone result))

/-- PATROL_SCRUB (R21). -/
def execPatrolScrub (found : ScrubFinding) (s : State) : Host.Outcome State Fault Refusal :=
  finish (s.alive (·.patrolScrub found))

/-- DRAM_REFRESH_RATE_READ (R375). -/
def execDramRefreshRateRead (multipliers : List Nat) (s : State) : Host.Outcome State Fault Refusal :=
  finish (s.alive (·.refreshRead multipliers))

end Sys2Proof.Machine
end

