-- ==== Sys2Proof/Machine/ExecLink.lean ====
section
/-! DEFINITION. The meanings of the commands. Tile ports: parcels, return records, lanes, tests, flash, pixel diagnostics (09, 10). -/

namespace Sys2Proof.Machine

open Sys2Proof

/-- PARCEL_SEND (R208). -/
def execParcelSend (n : TileId) (lane : TxLane) (ecc : Bool) (s : State) : Host.Outcome State Fault Refusal :=
  finish (s.alive (·.parcelSend n lane ecc))

/-- CLOSE_SEND (R212). -/
def execCloseSend (n : TileId) (s : State) : Host.Outcome State Fault Refusal :=
  finish (s.alive (·.closeSend n))

/-- RESEND_TIMEOUT (R211). -/
def execResendTimeout (n : TileId) (seq : BitVec 16) (s : State) : Host.Outcome State Fault Refusal :=
  finish (s.alive (·.resendTimeout n seq.toNat))

/-- ACK (R210). -/
def execAck (n : TileId) (h : RecHdr) (body : AckBody) (s : State) : Host.Outcome State Fault Refusal :=
  finish (s.alive fun s => s.recordIn n h (State.ackIn n body))

/-- NAK (R210). -/
def execNak (n : TileId) (h : RecHdr) (body : NakBody) (s : State) : Host.Outcome State Fault Refusal :=
  finish (s.alive fun s => s.recordIn n h (State.nakIn n body))

/-- STATUS (R225). -/
def execStatus (n : TileId) (h : RecHdr) (body : StatusBody) (s : State) : Host.Outcome State Fault Refusal :=
  finish (s.alive fun s => s.recordIn n h (State.statusIn n body))

/-- SENSOR (R227). -/
def execSensor (n : TileId) (h : RecHdr) (body : SensorBody) (s : State) : Host.Outcome State Fault Refusal :=
  finish (s.alive fun s => s.recordIn n h fun s => (s.sensorIn n body).sensorSeen n)

/-- VF (R237). -/
def execVf (n : TileId) (h : RecHdr) (body : VfBody) (s : State) : Host.Outcome State Fault Refusal :=
  finish (s.alive fun s => s.recordIn n h (State.vfIn n h body))

/-- IDENT (R222). -/
def execIdent (n : TileId) (h : RecHdr) (body : IdentBody) (s : State) : Host.Outcome State Fault Refusal :=
  finish (s.alive fun s => s.recordIn n h (State.identIn n body))

/-- ADMIT_ACK (R223). -/
def execAdmitAck (n : TileId) (h : RecHdr) (e : EventBody) (s : State) : Host.Outcome State Fault Refusal :=
  finish (s.alive fun s => s.eventIn n h e (State.admitAckIn n e))

/-- RETIRE_ACK (R224). -/
def execRetireAck (n : TileId) (h : RecHdr) (e : EventBody) (s : State) : Host.Outcome State Fault Refusal :=
  finish (s.alive fun s => s.eventIn n h e (State.retireAckIn n))

/-- RETIME_ACK (R90). -/
def execRetimeAck (n : TileId) (h : RecHdr) (e : EventBody) (s : State) : Host.Outcome State Fault Refusal :=
  finish (s.alive fun s => s.eventIn n h e (State.retimeAckIn n))

/-- LANE_DOWN (R219). -/
def execLaneDown (n : TileId) (h : RecHdr) (lane : TxLane) (e : EventBody) (s : State) : Host.Outcome State Fault Refusal :=
  finish (s.alive fun s => s.eventIn n h e (State.laneDownIn n lane e))

/-- LANE_UP (R221). -/
def execLaneUp (n : TileId) (h : RecHdr) (lane : TxLane) (e : EventBody) (s : State) : Host.Outcome State Fault Refusal :=
  finish (s.alive fun s => s.eventIn n h e (State.laneUpIn n lane e))

/-- RESYNC (R221). -/
def execResync (n : TileId) (h : RecHdr) (e : EventBody) (s : State) : Host.Outcome State Fault Refusal :=
  finish (s.alive fun s => s.eventIn n h e (State.resyncIn n e))

/-- TEST_RESULT (R230). -/
def execTestResult (n : TileId) (h : RecHdr) (lane : TxLane) (e : EventBody) (s : State) : Host.Outcome State Fault Refusal :=
  finish (s.alive fun s => s.eventIn n h e (State.testResultIn n lane e))

/-- FLASH_DONE (R228). -/
def execFlashDone (n : TileId) (h : RecHdr) (failed : Bool) (e : EventBody) (s : State) : Host.Outcome State Fault Refusal :=
  finish (s.alive fun s => s.eventIn n h e (State.flashDoneIn n failed))

/-- LS2_ACK (R229). -/
def execLs2Ack (n : TileId) (h : RecHdr) (e : EventBody) (s : State) : Host.Outcome State Fault Refusal :=
  finish (s.alive fun s => s.eventIn n h e (State.ls2AckIn n))

/-- FLASH_DATA (R228). -/
def execFlashData (n : TileId) (h : RecHdr) (offset : Word) (data : Bytes) (s : State) : Host.Outcome State Fault Refusal :=
  finish (s.alive fun s => s.recordIn n h (State.flashDataIn n offset.toNat data))

/-- BAD_RETURN_RECORD (R226). -/
def execBadReturnRecord (n : TileId) (s : State) : Host.Outcome State Fault Refusal :=
  finish (s.alive (·.badRecord n))

/-- RETURN_LANE_LOCK (R197). -/
def execReturnLaneLock (n : TileId) (s : State) : Host.Outcome State Fault Refusal :=
  finish (s.alive (·.retLaneLock n))

/-- RETURN_LANE_LOST (R220). -/
def execReturnLaneLost (n : TileId) (s : State) : Host.Outcome State Fault Refusal :=
  finish (s.alive (·.retLaneLost n))

/-- TILE_ABSENT_TIMEOUT (R225). -/
def execTileAbsentTimeout (n : TileId) (s : State) : Host.Outcome State Fault Refusal :=
  finish (s.alive (·.absentTimeout n))

/-- DEAL_MISMATCH_MISSING (R48). -/
def execDealMismatchMissing (n : TileId) (s : State) : Host.Outcome State Fault Refusal :=
  finish (s.alive (·.mismatchMissing n))

/-- IDENT_RECHECK (R222). -/
def execIdentRecheck (n : TileId) (s : State) : Host.Outcome State Fault Refusal :=
  finish (s.alive (·.identRecheck n))

/-- TILE_ADMIT_TIMEOUT (R223). -/
def execTileAdmitTimeout (n : TileId) (s : State) : Host.Outcome State Fault Refusal :=
  finish (s.alive (·.admitTimeout n))

/-- TILE_RETIRE_TIMEOUT (R224). -/
def execTileRetireTimeout (n : TileId) (s : State) : Host.Outcome State Fault Refusal :=
  finish (s.alive (·.retireTimeout n))

/-- FLASH_DONE_TIMEOUT (R228). -/
def execFlashDoneTimeout (n : TileId) (s : State) : Host.Outcome State Fault Refusal :=
  finish (s.alive (·.flashTimeout n))

/-- LINK_TEST_END (R230). -/
def execLinkTestEnd (n : TileId) (returnErrors : Nat) (s : State) : Host.Outcome State Fault Refusal :=
  finish (s.alive (·.testEnd n returnErrors))

/-- LS2_REQUEST (R229). -/
def execLs2Request (m : Master) (n : TileId) (value : Word) (s : State) : Host.Outcome State Fault Refusal :=
  finish (s.alive (·.writeReg m (Reg.TL_LANE_PWR n) 4 value.toNat))

/-- LS2_RELEASE (R229). -/
def execLs2Release (m : Master) (n : TileId) (value : Word) (s : State) : Host.Outcome State Fault Refusal :=
  finish (s.alive (·.writeReg m (Reg.TL_LANE_PWR n) 4 value.toNat))

/-- LS1_EXIT (R229). -/
def execLs1Exit (n : TileId) (lane : TxLane) (s : State) : Host.Outcome State Fault Refusal :=
  finish (s.alive (·.ls1Exit n lane))

/-- DIAG_PASS_END (R238). -/
def execDiagPassEnd (n : TileId) (s : State) : Host.Outcome State Fault Refusal :=
  finish (s.alive (·.diagPassEnd n))

/-- FMAP_INIT_END (R248). -/
def execFmapInitEnd (n : TileId) (s : State) : Host.Outcome State Fault Refusal :=
  finish (s.alive (·.fmapInitEnd n))

/-- FMAP_INIT (R248). -/
def execFmapInit (m : Master) (n : TileId) (value : Word) (s : State) : Host.Outcome State Fault Refusal :=
  finish (s.alive (·.writeReg m (Reg.TL_DIAG_CTL n) 4 value.toNat))

/-- PEND_FLUSH (R242). -/
def execPendFlush (m : Master) (n : TileId) (value : Word) (s : State) : Host.Outcome State Fault Refusal :=
  finish (s.alive (·.writeReg m (Reg.TL_DIAG_CTL n) 4 value.toNat))

end Sys2Proof.Machine
end

