-- ==== Sys2Proof/Machine/ExecPower.lean ====
section
/-! DEFINITION. The meanings of the commands. Power, resets, firmware and the dump (17; 03 R50; 19 R420). -/

namespace Sys2Proof.Machine

open Sys2Proof

/-- POWER_OFF (R50). -/
def execPowerOff (pin : OffPin) (s : State) : Host.Outcome State Fault Refusal :=
  finish (s.powerOff pin)

/-- POWER_ON (R387). -/
def execPowerOn (straps : BitVec 2) (s : State) : Host.Outcome State Fault Refusal :=
  finish (s.powerOn straps)

/-- BROWN_OUT (R420). -/
def execBrownOut (rail : CoreRail) (s : State) : Host.Outcome State Fault Refusal :=
  finish (s.brownOut rail)

/-- CLK_FAIL (R405). -/
def execClkFail (source : ClockSource) (s : State) : Host.Outcome State Fault Refusal :=
  finish (s.alive (·.clkFail source))

/-- DEVICE_RESET (R387). -/
def execDeviceReset (m : Master) (value : Word) (s : State) : Host.Outcome State Fault Refusal :=
  finish (s.alive (·.writeReg m Reg.PWR_RESET 4 value.toNat))

/-- PASTEURISE_COMPLETE (R388). -/
def execPasteuriseComplete (s : State) : Host.Outcome State Fault Refusal :=
  finish (s.alive (·.pasteuriseComplete))

/-- BOOT_DEAL_SELECT (R44). -/
def execBootDealSelect (slotA slotB : Bytes) (s : State) : Host.Outcome State Fault Refusal :=
  finish (s.alive (·.bootDealSelect slotA slotB))

/-- FIRMWARE_SLOT_START (R395). -/
def execFirmwareSlotStart (imageA imageB : Bytes) (s : State) : Host.Outcome State Fault Refusal :=
  finish (s.alive (·.firmwareSlotStart imageA imageB))

/-- DOMAIN_READY (R386). -/
def execDomainReady (d : Fin 15) (s : State) : Host.Outcome State Fault Refusal :=
  finish (s.alive (·.domainReady d))

/-- WATCHDOG_EXPIRY (R399). -/
def execWatchdogExpiry (s : State) : Host.Outcome State Fault Refusal :=
  finish (s.alive (·.watchdogExpiry))

/-- WATCHDOG_KICK (R399). -/
def execWatchdogKick (m : Master) (value : Word) (s : State) : Host.Outcome State Fault Refusal :=
  finish (s.alive (·.writeReg m Reg.PWR_WDOG_KICK 4 value.toNat))

/-- LOCKSTEP_DISAGREE (R399). -/
def execLockstepDisagree (s : State) : Host.Outcome State Fault Refusal :=
  finish (s.alive (·.lockstepDisagree))

/-- FW_ALIVE (R398). -/
def execFwAlive (m : Master) (value : Word) (s : State) : Host.Outcome State Fault Refusal :=
  finish (s.alive (·.writeReg m Reg.PWR_FW_ALIVE 4 value.toNat))

/-- FW_ABSENCE_LIMIT (R398). -/
def execFwAbsenceLimit (s : State) : Host.Outcome State Fault Refusal :=
  finish (s.alive (·.fwAbsenceLimit))

/-- FW_SWITCH_TIMEOUT (R397). -/
def execFwSwitchTimeout (s : State) : Host.Outcome State Fault Refusal :=
  finish (s.alive (·.fwSwitchTimeout))

/-- DUMP_DONE (R400). -/
def execDumpDone (log : Bytes) (s : State) : Host.Outcome State Fault Refusal :=
  finish (s.alive (·.writeDump log))

/-- DUMP_TIMEOUT (R400). -/
def execDumpTimeout (s : State) : Host.Outcome State Fault Refusal :=
  finish (s.alive (·.dumpTimeout))

/-- AUTO_RESET (R401). -/
def execAutoReset (s : State) : Host.Outcome State Fault Refusal :=
  finish (s.alive (·.autoReset))

/-- FW_STAGE_DONE (R396). -/
def execFwStageDone (s : State) : Host.Outcome State Fault Refusal :=
  finish (s.alive (·.fwStageDone))

/-- CRC_SCAN_DONE (R402). -/
def execCrcScanDone (u : Fin 2) (s : State) : Host.Outcome State Fault Refusal :=
  finish (s.alive (·.crcScanDone u))

/-- EFUSE_PROGRAMMING_DONE (R393). -/
def execEfuseProgrammingDone (s : State) : Host.Outcome State Fault Refusal :=
  finish (s.alive (·.efuseDone))

/-- DUMP_FETCH_DONE (R401). -/
def execDumpFetchDone (s : State) : Host.Outcome State Fault Refusal :=
  finish (s.alive (·.dumpFetchDone))

end Sys2Proof.Machine
end

