-- ==== Sys2Proof/Machine/ExecTile.lean ====
section
/-! DEFINITION. The meanings of the commands. The tile ends of the ports (09, 10), which live on when the chip is OFF. -/

namespace Sys2Proof.Machine

open Sys2Proof

/-- TILE_POWER_UP (R222). -/
def execTilePowerUp (n : TileId) (maker : TileMaker) (s : State) : Host.Outcome State Fault Refusal :=
  finish (s.tilePowerUp n maker)

/-- TILE_IDENT_SEND (R222). -/
def execTileIdentSend (n : TileId) (s : State) : Host.Outcome State Fault Refusal :=
  finish (s.tileIdent n)

/-- TILE_TICK_BLOCK (R198). -/
def execTileTickBlock (n : TileId) (lane : TxLane) (frame : Word) (rate : Nat) (newRate : Bool) (s : State) : Host.Outcome State Fault Refusal :=
  finish (s.tileTickBlock n lane frame.toNat rate newRate)

/-- TILE_FLYWHEEL (R198). -/
def execTileFlywheel (n : TileId) (s : State) : Host.Outcome State Fault Refusal :=
  finish (s.tileFlywheel n)

/-- TILE_FRAME_SWAP (R215). -/
def execTileFrameSwap (n : TileId) (s : State) : Host.Outcome State Fault Refusal :=
  finish (s.tileFrameSwap n)

/-- TILE_HOLD_EXPIRY (R216). -/
def execTileHoldExpiry (n : TileId) (s : State) : Host.Outcome State Fault Refusal :=
  finish (s.tileHoldExpiry n)

/-- TILE_SUBFRAME_START (R234). -/
def execTileSubframeStart (n : TileId) (meas : List PixelMeas) (s : State) : Host.Outcome State Fault Refusal :=
  finish (s.tileSubframeStart n meas)

/-- TILE_LANE_LOST (R219). -/
def execTileLaneLost (n : TileId) (lane : TxLane) (partialCopy : Bool) (s : State) : Host.Outcome State Fault Refusal :=
  finish (s.tileLaneLost n lane partialCopy)

/-- TILE_LANE_LOCK (R221). -/
def execTileLaneLock (n : TileId) (lane : TxLane) (s : State) : Host.Outcome State Fault Refusal :=
  finish (s.tileLaneLock n lane)

/-- TILE_TRANSMIT_LOSS (R390). -/
def execTileTransmitLoss (n : TileId) (s : State) : Host.Outcome State Fault Refusal :=
  finish (s.tileTransmitLoss n)

/-- TILE_BAD_COPY (R210). -/
def execTileBadCopy (n : TileId) (lane : TxLane) (runt : Bool) (seq : BitVec 16) (s : State) : Host.Outcome State Fault Refusal :=
  finish (s.tileBadCopy n lane runt seq)

/-- PIXELS (R203). -/
def execPixels (n : TileId) (lane : TxLane) (p : Parcel) (s : State) : Host.Outcome State Fault Refusal :=
  finish (s.pixelsIn n lane p)

/-- PROBES (R204). -/
def execProbes (n : TileId) (lane : TxLane) (p : Parcel) (s : State) : Host.Outcome State Fault Refusal :=
  finish (s.probesIn n lane p)

/-- CLOSE (R205). -/
def execClose (n : TileId) (lane : TxLane) (p : Parcel) (s : State) : Host.Outcome State Fault Refusal :=
  finish (s.closeIn n lane p)

/-- RETIME (R218). -/
def execRetime (n : TileId) (lane : TxLane) (p : Parcel) (s : State) : Host.Outcome State Fault Refusal :=
  finish (s.retimeIn n lane p)

/-- ADMIT (R223). -/
def execAdmitParcel (n : TileId) (lane : TxLane) (p : Parcel) (s : State) : Host.Outcome State Fault Refusal :=
  finish (s.admitIn n lane p)

/-- RETIRE (R224). -/
def execRetire (n : TileId) (lane : TxLane) (p : Parcel) (s : State) : Host.Outcome State Fault Refusal :=
  finish (s.retireIn n lane p)

/-- FALLBACK (R217). -/
def execFallback (n : TileId) (lane : TxLane) (p : Parcel) (s : State) : Host.Outcome State Fault Refusal :=
  finish (s.fallbackIn n lane p)

/-- FLASH (R228). -/
def execFlash (n : TileId) (lane : TxLane) (p : Parcel) (s : State) : Host.Outcome State Fault Refusal :=
  finish (s.flashIn n lane p)

/-- LANE (R206). -/
def execLane (n : TileId) (tx : TxLane) (p : Parcel) (s : State) : Host.Outcome State Fault Refusal :=
  finish (s.laneIn n tx p)

/-- TILE_ACK_SEND (R210). -/
def execTileAckSend (n : TileId) (s : State) : Host.Outcome State Fault Refusal :=
  finish (s.tileAck n)

/-- TILE_SENSOR_SEND (R227). -/
def execTileSensorSend (n : TileId) (reading : SensorReading) (s : State) : Host.Outcome State Fault Refusal :=
  finish (s.tileSensor n reading)

end Sys2Proof.Machine
end

