-- ==== Sys2Proof/Machine/Dispatch.lean ====
section
/-! DEFINITION. The dispatch: one arm per command, each a direct call of its meaning. -/

namespace Sys2Proof.Machine

open Sys2Proof

/-- The effect of a command on everything but the queue. -/
def exec (i : Instr) (s : State) : Host.Outcome State Fault Refusal :=
  match i with
  | .powerOff pin => Sys2Proof.Machine.execPowerOff pin s
  | .powerOn straps => Sys2Proof.Machine.execPowerOn straps s
  | .brownOut rail => Sys2Proof.Machine.execBrownOut rail s
  | .clkFail source => Sys2Proof.Machine.execClkFail source s
  | .deviceReset m value => Sys2Proof.Machine.execDeviceReset m value s
  | .pasteuriseComplete => Sys2Proof.Machine.execPasteuriseComplete s
  | .bootDealSelect slotA slotB => Sys2Proof.Machine.execBootDealSelect slotA slotB s
  | .firmwareSlotStart imageA imageB => Sys2Proof.Machine.execFirmwareSlotStart imageA imageB s
  | .domainReady d => Sys2Proof.Machine.execDomainReady d s
  | .watchdogExpiry => Sys2Proof.Machine.execWatchdogExpiry s
  | .watchdogKick m value => Sys2Proof.Machine.execWatchdogKick m value s
  | .lockstepDisagree => Sys2Proof.Machine.execLockstepDisagree s
  | .fwAlive m value => Sys2Proof.Machine.execFwAlive m value s
  | .fwAbsenceLimit => Sys2Proof.Machine.execFwAbsenceLimit s
  | .fwSwitchTimeout => Sys2Proof.Machine.execFwSwitchTimeout s
  | .dumpDone log => Sys2Proof.Machine.execDumpDone log s
  | .dumpTimeout => Sys2Proof.Machine.execDumpTimeout s
  | .autoReset => Sys2Proof.Machine.execAutoReset s
  | .unknownOpcode opcode q => Sys2Proof.Machine.execUnknownOpcode opcode q s
  | .nop q => Sys2Proof.Machine.execNop q s
  | .sync q => Sys2Proof.Machine.execSync q s
  | .dealLoad q => Sys2Proof.Machine.execDealLoad q s
  | .redealGroup q => Sys2Proof.Machine.execRedealGroup q s
  | .light q => Sys2Proof.Machine.execLight q s
  | .darken q => Sys2Proof.Machine.execDarken q s
  | .hold q => Sys2Proof.Machine.execHold q s
  | .resume q => Sys2Proof.Machine.execResume q s
  | .timingSet q => Sys2Proof.Machine.execTimingSet q s
  | .layerCommit q => Sys2Proof.Machine.execLayerCommit q s
  | .layerDisable q => Sys2Proof.Machine.execLayerDisable q s
  | .surfaceCopyIn q => Sys2Proof.Machine.execSurfaceCopyIn q s
  | .trumpSelect q => Sys2Proof.Machine.execTrumpSelect q s
  | .skimZonesSet q => Sys2Proof.Machine.execSkimZonesSet q s
  | .skimMaintWindow q => Sys2Proof.Machine.execSkimMaintWindow q s
  | .tileAdmit q => Sys2Proof.Machine.execTileAdmit q s
  | .tileRetire q => Sys2Proof.Machine.execTileRetire q s
  | .tileCalLoad q => Sys2Proof.Machine.execTileCalLoad q s
  | .tileCalRead q => Sys2Proof.Machine.execTileCalRead q s
  | .linkTest q => Sys2Proof.Machine.execLinkTest q s
  | .loopLoad q => Sys2Proof.Machine.execLoopLoad q s
  | .loopSwap q => Sys2Proof.Machine.execLoopSwap q s
  | .loopMode q => Sys2Proof.Machine.execLoopMode q s
  | .calRun q => Sys2Proof.Machine.execCalRun q s
  | .crcScan q => Sys2Proof.Machine.execCrcScan q s
  | .dumpFetch q => Sys2Proof.Machine.execDumpFetch q s
  | .fwStage q image => Sys2Proof.Machine.execFwStage q image s
  | .fwSwitch q => Sys2Proof.Machine.execFwSwitch q s
  | .lifecycleAdvance q auth => Sys2Proof.Machine.execLifecycleAdvance q auth s
  | .partnerJoin q => Sys2Proof.Machine.execPartnerJoin q s
  | .partnerLeave q => Sys2Proof.Machine.execPartnerLeave q s
  | .commandWaitRelease r data => Sys2Proof.Machine.execCommandWaitRelease r data s
  | .commandWaitTimeout r => Sys2Proof.Machine.execCommandWaitTimeout r s
  | .sqTailWrite m r value => Sys2Proof.Machine.execSqTailWrite m r value s
  | .cqHeadWrite m r value => Sys2Proof.Machine.execCqHeadWrite m r value s
  | .ringEnable m r value => Sys2Proof.Machine.execRingEnable m r value s
  | .ringDisable m r value => Sys2Proof.Machine.execRingDisable m r value s
  | .flushReplay m r value => Sys2Proof.Machine.execFlushReplay m r value s
  | .ringErrorClear m r value => Sys2Proof.Machine.execRingErrorClear m r value s
  | .pcieLinkDown hotReset => Sys2Proof.Machine.execPcieLinkDown hotReset s
  | .pciePerst => Sys2Proof.Machine.execPciePerst s
  | .d3hotEntry pmeEn pmeClear => Sys2Proof.Machine.execD3hotEntry pmeEn pmeClear s
  | .d0Return pmeEn pmeClear => Sys2Proof.Machine.execD0Return pmeEn pmeClear s
  | .bar2Read offset len => Sys2Proof.Machine.execBar2Read offset len s
  | .bar2Write offset data => Sys2Proof.Machine.execBar2Write offset data s
  | .i2cRead index count => Sys2Proof.Machine.execI2cRead index count s
  | .registerWrite m offset size value => Sys2Proof.Machine.execRegisterWrite m offset size value s
  | .latchingPairRead m offset size => Sys2Proof.Machine.execLatchingPairRead m offset size s
  | .frameTick => Sys2Proof.Machine.execFrameTick s
  | .sampleTick missed => Sys2Proof.Machine.execSampleTick missed s
  | .cut => Sys2Proof.Machine.execCut s
  | .cutFence => Sys2Proof.Machine.execCutFence s
  | .retryHorizon => Sys2Proof.Machine.execRetryHorizon s
  | .churnLine n line env => Sys2Proof.Machine.execChurnLine n line env s
  | .syncInEdge falling => Sys2Proof.Machine.execSyncInEdge falling s
  | .syncLockLost => Sys2Proof.Machine.execSyncLockLost s
  | .retimeDecision => Sys2Proof.Machine.execRetimeDecision s
  | .retimeWindowEnd => Sys2Proof.Machine.execRetimeWindowEnd s
  | .redealTakeEffect => Sys2Proof.Machine.execRedealTakeEffect s
  | .layerCommitTimeout n slot => Sys2Proof.Machine.execLayerCommitTimeout n slot s
  | .surfaceCopyDone data => Sys2Proof.Machine.execSurfaceCopyDone data s
  | .surfaceCopyTimeout arrived => Sys2Proof.Machine.execSurfaceCopyTimeout arrived s
  | .potPersist n => Sys2Proof.Machine.execPotPersist n s
  | .calEntryComplete n => Sys2Proof.Machine.execCalEntryComplete n s
  | .objectListPacket payload => Sys2Proof.Machine.execObjectListPacket payload s
  | .skimBlindEntry => Sys2Proof.Machine.execSkimBlindEntry s
  | .skimSetupDone counts ecc => Sys2Proof.Machine.execSkimSetupDone counts ecc s
  | .maintWindowClose n => Sys2Proof.Machine.execMaintWindowClose n s
  | .parcelSend n lane ecc => Sys2Proof.Machine.execParcelSend n lane ecc s
  | .closeSend n => Sys2Proof.Machine.execCloseSend n s
  | .resendTimeout n seq => Sys2Proof.Machine.execResendTimeout n seq s
  | .ack n h body => Sys2Proof.Machine.execAck n h body s
  | .nak n h body => Sys2Proof.Machine.execNak n h body s
  | .status n h body => Sys2Proof.Machine.execStatus n h body s
  | .sensor n h body => Sys2Proof.Machine.execSensor n h body s
  | .vf n h body => Sys2Proof.Machine.execVf n h body s
  | .ident n h body => Sys2Proof.Machine.execIdent n h body s
  | .admitAck n h e => Sys2Proof.Machine.execAdmitAck n h e s
  | .retireAck n h e => Sys2Proof.Machine.execRetireAck n h e s
  | .retimeAck n h e => Sys2Proof.Machine.execRetimeAck n h e s
  | .laneDown n h lane e => Sys2Proof.Machine.execLaneDown n h lane e s
  | .laneUp n h lane e => Sys2Proof.Machine.execLaneUp n h lane e s
  | .resync n h e => Sys2Proof.Machine.execResync n h e s
  | .testResult n h lane e => Sys2Proof.Machine.execTestResult n h lane e s
  | .flashDone n h failed e => Sys2Proof.Machine.execFlashDone n h failed e s
  | .ls2Ack n h e => Sys2Proof.Machine.execLs2Ack n h e s
  | .flashData n h offset data => Sys2Proof.Machine.execFlashData n h offset data s
  | .badReturnRecord n => Sys2Proof.Machine.execBadReturnRecord n s
  | .returnLaneLock n => Sys2Proof.Machine.execReturnLaneLock n s
  | .returnLaneLost n => Sys2Proof.Machine.execReturnLaneLost n s
  | .tileAbsentTimeout n => Sys2Proof.Machine.execTileAbsentTimeout n s
  | .dealMismatchMissing n => Sys2Proof.Machine.execDealMismatchMissing n s
  | .identRecheck n => Sys2Proof.Machine.execIdentRecheck n s
  | .tileAdmitTimeout n => Sys2Proof.Machine.execTileAdmitTimeout n s
  | .tileRetireTimeout n => Sys2Proof.Machine.execTileRetireTimeout n s
  | .flashDoneTimeout n => Sys2Proof.Machine.execFlashDoneTimeout n s
  | .linkTestEnd n returnErrors => Sys2Proof.Machine.execLinkTestEnd n returnErrors s
  | .ls2Request m n value => Sys2Proof.Machine.execLs2Request m n value s
  | .ls2Release m n value => Sys2Proof.Machine.execLs2Release m n value s
  | .tilePowerUp n maker => Sys2Proof.Machine.execTilePowerUp n maker s
  | .tileIdentSend n => Sys2Proof.Machine.execTileIdentSend n s
  | .tileTickBlock n lane frame rate newRate => Sys2Proof.Machine.execTileTickBlock n lane frame rate newRate s
  | .tileFlywheel n => Sys2Proof.Machine.execTileFlywheel n s
  | .tileFrameSwap n => Sys2Proof.Machine.execTileFrameSwap n s
  | .tileHoldExpiry n => Sys2Proof.Machine.execTileHoldExpiry n s
  | .tileSubframeStart n meas => Sys2Proof.Machine.execTileSubframeStart n meas s
  | .tileLaneLost n lane partialCopy => Sys2Proof.Machine.execTileLaneLost n lane partialCopy s
  | .tileLaneLock n lane => Sys2Proof.Machine.execTileLaneLock n lane s
  | .tileTransmitLoss n => Sys2Proof.Machine.execTileTransmitLoss n s
  | .tileBadCopy n lane runt seq => Sys2Proof.Machine.execTileBadCopy n lane runt seq s
  | .pixels n lane p => Sys2Proof.Machine.execPixels n lane p s
  | .probes n lane p => Sys2Proof.Machine.execProbes n lane p s
  | .close n lane p => Sys2Proof.Machine.execClose n lane p s
  | .retime n lane p => Sys2Proof.Machine.execRetime n lane p s
  | .admitParcel n lane p => Sys2Proof.Machine.execAdmitParcel n lane p s
  | .retire n lane p => Sys2Proof.Machine.execRetire n lane p s
  | .fallback n lane p => Sys2Proof.Machine.execFallback n lane p s
  | .flash n lane p => Sys2Proof.Machine.execFlash n lane p s
  | .lane n tx p => Sys2Proof.Machine.execLane n tx p s
  | .diagPassEnd n => Sys2Proof.Machine.execDiagPassEnd n s
  | .fmapInitEnd n => Sys2Proof.Machine.execFmapInitEnd n s
  | .fmapInit m n value => Sys2Proof.Machine.execFmapInit m n value s
  | .pendFlush m n value => Sys2Proof.Machine.execPendFlush m n value s
  | .loopModeTimeout l => Sys2Proof.Machine.execLoopModeTimeout l s
  | .handoverWindowEnd l => Sys2Proof.Machine.execHandoverWindowEnd l s
  | .residualTrip l input => Sys2Proof.Machine.execResidualTrip l input s
  | .traceArm m c value => Sys2Proof.Machine.execTraceArm m c value s
  | .traceStop m c value => Sys2Proof.Machine.execTraceStop m c value s
  | .tracePostEnd c => Sys2Proof.Machine.execTracePostEnd c s
  | .milkRoundEnd conv => Sys2Proof.Machine.execMilkRoundEnd conv s
  | .thermalEvaluation conv => Sys2Proof.Machine.execThermalEvaluation conv s
  | .throttleLevelApply => Sys2Proof.Machine.execThrottleLevelApply s
  | .calRunDecision => Sys2Proof.Machine.execCalRunDecision s
  | .trimEntryComplete => Sys2Proof.Machine.execTrimEntryComplete s
  | .save m value => Sys2Proof.Machine.execSave m value s
  | .restore m value => Sys2Proof.Machine.execRestore m value s
  | .dramRefreshRateRead multipliers => Sys2Proof.Machine.execDramRefreshRateRead multipliers s
  | .pwmPeriodStart samples => Sys2Proof.Machine.execPwmPeriodStart samples s
  | .fadeTick offChecks => Sys2Proof.Machine.execFadeTick offChecks s
  | .target m c value => Sys2Proof.Machine.execTarget m c value s
  | .scanSlotStart samples => Sys2Proof.Machine.execScanSlotStart samples s
  | .msyncLost => Sys2Proof.Machine.execMsyncLost s
  | .mswap m value => Sys2Proof.Machine.execMswap m value s
  | .clr m c value => Sys2Proof.Machine.execClr m c value s
  | .faultInputRaise input detail => Sys2Proof.Machine.execFaultInputRaise input detail s
  | .brokenPair input => Sys2Proof.Machine.execBrokenPair input s
  | .fltInject m value => Sys2Proof.Machine.execFltInject m value s
  | .valid m value => Sys2Proof.Machine.execValid m value s
  | .faultPendClear m w value => Sys2Proof.Machine.execFaultPendClear m w value s
  | .reactionTimerExpiry => Sys2Proof.Machine.execReactionTimerExpiry s
  | .ptnNotFound => Sys2Proof.Machine.execPtnNotFound s
  | .partnerMessage msg => Sys2Proof.Machine.execPartnerMessage msg s
  | .partnerLoss cause => Sys2Proof.Machine.execPartnerLoss cause s
  | .partnerJoinTimeout => Sys2Proof.Machine.execPartnerJoinTimeout s
  | .partnerRedealTimeout => Sys2Proof.Machine.execPartnerRedealTimeout s
  | .windowTimeout src => Sys2Proof.Machine.execWindowTimeout src s
  | .holdoffExpiry g h => Sys2Proof.Machine.execHoldoffExpiry g h s
  | .claimRead m h => Sys2Proof.Machine.execClaimRead m h s
  | .claimWrite m h value => Sys2Proof.Machine.execClaimWrite m h value s
  | .pendingWithdraw m h w value => Sys2Proof.Machine.execPendingWithdraw m h w value s
  | .evqEnable m q value => Sys2Proof.Machine.execEvqEnable m q value s
  | .cons m q value => Sys2Proof.Machine.execCons m q value s
  | .arm m q value => Sys2Proof.Machine.execArm m q value s
  | .writeErrClear m q value => Sys2Proof.Machine.execWriteErrClear m q value s
  | .videoLine payload room => Sys2Proof.Machine.execVideoLine payload room s
  | .tsRequest payload => Sys2Proof.Machine.execTsRequest payload s
  | .feedPacketError kind => Sys2Proof.Machine.execFeedPacketError kind s
  | .feedUnknownPacket type => Sys2Proof.Machine.execFeedUnknownPacket type s
  | .feedLaneLock lane marker skew => Sys2Proof.Machine.execFeedLaneLock lane marker skew s
  | .feedLaneLockLost lane marker => Sys2Proof.Machine.execFeedLaneLockLost lane marker s
  | .selfRefreshEntry minTol => Sys2Proof.Machine.execSelfRefreshEntry minTol s
  | .selfRefreshExit minTol => Sys2Proof.Machine.execSelfRefreshExit minTol s
  | .scalerCfgWrite m k value => Sys2Proof.Machine.execScalerCfgWrite m k value s
  | .tableWr m k value => Sys2Proof.Machine.execTableWr m k value s
  | .dealVerifyDone image => Sys2Proof.Machine.execDealVerifyDone image s
  | .calChecksComplete n => Sys2Proof.Machine.execCalChecksComplete n s
  | .loopLoadDone l => Sys2Proof.Machine.execLoopLoadDone l s
  | .fwStageDone => Sys2Proof.Machine.execFwStageDone s
  | .crcScanDone u => Sys2Proof.Machine.execCrcScanDone u s
  | .efuseProgrammingDone => Sys2Proof.Machine.execEfuseProgrammingDone s
  | .dumpFetchDone => Sys2Proof.Machine.execDumpFetchDone s
  | .summaryWritten => Sys2Proof.Machine.execSummaryWritten s
  | .saveDone => Sys2Proof.Machine.execSaveDone s
  | .restoreReadDone => Sys2Proof.Machine.execRestoreReadDone s
  | .dramTrainingDone result => Sys2Proof.Machine.execDramTrainingDone result s
  | .patrolScrub found => Sys2Proof.Machine.execPatrolScrub found s
  | .syncOutPulse rising => Sys2Proof.Machine.execSyncOutPulse rising s
  | .ls1Exit n lane => Sys2Proof.Machine.execLs1Exit n lane s
  | .partnerLinkLock lane delay => Sys2Proof.Machine.execPartnerLinkLock lane delay s
  | .busMasterEnable => Sys2Proof.Machine.execBusMasterEnable s
  | .sourceRoutingWrite m offset value => Sys2Proof.Machine.execSourceRoutingWrite m offset value s
  | .evqDisable m q value => Sys2Proof.Machine.execEvqDisable m q value s
  | .laneEn m value => Sys2Proof.Machine.execLaneEn m value s
  | .tileAckSend n => Sys2Proof.Machine.execTileAckSend n s
  | .tileSensorSend n reading => Sys2Proof.Machine.execTileSensorSend n reading s

end Sys2Proof.Machine
end

