-- ==== Sys2Proof/Machine/Step.lean ====
section
/-! DEFINITION. One step: the command at the front of the queue, or one lamp count of idling. -/

namespace Sys2Proof.Machine

open Sys2Proof

/-- Idling: the lamp clock counts once, except in OFF, where nothing runs (04 R86, 03 R50; log 17). -/
def State.idle (s : State) : State :=
  match s.dev.state with
  | .off => s
  | .pasteurise | .boot | .undealt | .dealt | .lit | .hold | .safeLight | .fatal => { s with lamp := s.lamp + 1 }

/-- The command at the front of the queue takes its effect on the state with the queue's rest. -/
def step (s : State) : Host.Outcome State Fault Refusal :=
  match s.pending with
  | [] => .next s.idle
  | c :: rest => exec c { s with pending := rest }

/-- `s` with the command a table word spells put at the front of its queue; no word spells one. -/
def State.withFetchWord (s : State) (nbits w : Nat) : State :=
  match decodeTableWord nbits w with
  | some c => { s with pending := c :: s.pending }
  | none => s

end Sys2Proof.Machine
end

