-- ==== Sys2Proof/Safety.lean ====
section
/-! DEFINITION. What counts as a safe state and a safe step, in the terms the statements use. -/

namespace Sys2Proof.Machine

open Sys2Proof

/-- A command completes: exec answers a next state. -/
def Completes (i : Instr) (s : State) : Prop := ∃ t, exec i s = .next t

/-- The memories keep their canonical form. -/
def State.memoryWf (s : State) : Bool := Memory.wf s.dram && Memory.wf s.coreMem && Memory.wf s.fwLog

/-- The device is not OFF. -/
def State.on (s : State) : Prop := s.dev.state ≠ .off

/-- No entry to SAFE_LIGHT or FATAL stands due. Every command ends with both taken (03 R50). -/
def State.quiet (s : State) : Prop := s.faults.fatalDue = none ∧ s.faults.safeDue = none

/-- No entry to SAFE_LIGHT stands due, and none to FATAL but in PASTEURISE, where it waits for BOOT (14 R321, log 95). -/
def State.entriesTaken (s : State) : Prop := s.faults.safeDue = none ∧ (s.faults.fatalDue = none ∨ s.dev.state = .pasteurise)

/-- The FAULT pins signal what 14 R322 has them signal. -/
def State.pinsFollow (s : State) : Prop := s.faults.pinFault = !s.pinsOk

/-- The state apart from what posting records, notifying and sending to the host changes: the interrupt controller, the
emissions, the core rings' memory, the host's MSI-X pending bits and PME status. -/
def State.outside (s : State) : State :=
  { s with intc := {}, outbox := [], coreMem := [], host := { s.host with pba := 0, pmeStatus := false } }

/-- The state apart from all that follows a command by itself: what `outside` leaves out, the fault collector, the list of
ledgers reported broken, and the register words, whose reads `SameRegs` compares. -/
def State.beyond (s : State) : State :=
  { s.outside with faults := {}, regs := [], dev := { s.dev with reported := [] } }

/-- Every register word but the audit status reads the same. -/
def SameRegs (s t : State) : Prop := ∀ off, off ≠ Reg.DEV_AUDIT_STAT → t.reg off = s.reg off

/-- A 32-bit write of a master reaches the register at a word-aligned offset (00 R4; 16 R361, R365; 17 R388, R398; 18 R411). -/
def State.serves (s : State) (m : Master) (off : Nat) : Prop :=
  s.dev.state ≠ .off ∧ s.dev.state ≠ .pasteurise ∧ bitAt s.domainsOn (domainOf off) = true ∧
  (m = .host → s.host.linkUp = true ∧ s.host.d3hot = false ∧ hostDiscards off = false)

/-- `t` is what a loss of power leaves of the state (03 R50, 17 R387). -/
def State.lostPower (s t : State) : Prop :=
  t.dev.state = .off ∧ (∀ off, off ≠ Reg.DEV_AUDIT_STAT → t.reg off = resetWord off) ∧ t.deal = State.reset.deal ∧
  t.rings = State.reset.rings ∧ t.timing = State.reset.timing ∧ t.power.efuse = s.power.efuse ∧ t.tiles = s.tiles

/-- `t` is what a device reset of a kind leaves, with its CAUSE (17 R387, R405). -/
def State.wasReset (s : State) (kind cause : Nat) (t : State) : Prop :=
  t.dev.state = .pasteurise ∧ t.dev.prev = s.dev.state.code ∧ t.dev.cause = cause ∧
  t.power.resetKind = kind ∧ t.power.resetCount = min 0xFFFF (s.power.resetCount + 1) ∧
  t.timing.frame = s.timing.frame ∧ t.timing.lastTick = s.timing.lastTick ∧ t.timing.rate = s.timing.rate ∧
  t.memc.trained = s.memc.trained ∧ t.memc.sizeGib = s.memc.sizeGib ∧
  (∀ off, off ≠ Reg.DEV_AUDIT_STAT → t.reg off = if keptOffset off then s.reg off else resetWord off) ∧
  t.rings = State.reset.rings ∧ t.deal.inForce = none ∧ t.churns = State.reset.churns ∧ t.ports = State.reset.ports ∧
  t.ctl = State.reset.ctl ∧ t.tiles = s.tiles

/-- `t` is what a core restart leaves: `sw` is the FW_SWITCH then held, and `next` the slot that the restart names
(17 R387, R398, R399). -/
def State.restarted (s t : State) (sw : Option SwitchJob) (next : Option Nat) : Prop :=
  t.power = { s.power with
    stage := none, fuseJobs := s.power.fuseJobs.filter (·.begun), abortAtAlive := s.power.abortAtAlive ++ s.heldByFirmware
    absent := true, absentSince := if s.power.absent then s.power.absentSince else t.lamp, version := 0, started := none
    startDue := true, nextSlot := next, wdogSince := t.lamp, switch := sw } ∧
  t.reg Reg.PWR_WDOG_CFG = resetWord Reg.PWR_WDOG_CFG ∧ t.deal = { s.deal with jobs := [] } ∧
  t.dev.state = s.dev.state ∧ t.dev.litSet = s.dev.litSet ∧ t.rings = s.rings ∧ t.dealer = s.dealer ∧ t.timing = s.timing ∧
  t.churns = s.churns ∧ t.ports = s.ports ∧ t.phots = s.phots ∧ t.diags = s.diags ∧ t.ctl = s.ctl ∧ t.dram = s.dram

/-! ### A submission that passes steps 1 to 4 (03 R58, R63, R66, R69, R70, R73) -/

/-- The command as the Dealer knows it when it reads it now. -/
def State.refOf (op : Nat) (q : Submission) (s : State) : CmdRef :=
  ⟨q.ring, q.cmd.tag.toNat, op, (s.ring q.ring).sqHead, bitAt q.cmd.flags.toNat 1, s.dealer.nextId⟩

/-- The Dealer may read the command now, and the ring's memory gives its bytes. -/
def State.readable (op : Nat) (q : Submission) (s : State) : Prop :=
  s.canRead q.ring op = true ∧
  ((s.ring q.ring).isLocal = false → s.host.linkUp = true) ∧
  ((s.ring q.ring).isLocal = true →
    s.dramGood ((s.ring q.ring).base + 64 * (s.ring q.ring).sqHead) 64 = true ∧
    s.dramRead ((s.ring q.ring).base + 64 * (s.ring q.ring).sqHead) 64 = cmdBytes op q.cmd)

/-- The state once the Dealer has read the command: SQ_HEAD has moved on by one, and the ring is the one served last (03 R74). -/
def State.fetched (q : Submission) (s : State) : State :=
  (s.onDealer fun d => { d with nextId := d.nextId + 1, last := some q.ring }).onRing q.ring fun x =>
    { x with sqHead := (x.sqHead + 1) % x.entries }

/-- The state once the command also stands in its ring's replay window of the 256 most recent. -/
def State.taken (op : Nat) (q : Submission) (s : State) : State :=
  (s.fetched q).onRing q.ring fun x =>
    let w : List WindowEntry := x.window ++ [⟨s.dealer.nextId, q.cmd, op, none⟩]
    { x with window := w.drop (w.length - 256) }

/-- The command passes steps 1 to 3: its header is well formed, its tag is new to the window, and its waits are met. -/
def State.clears (op : Nat) (q : Submission) (s : State) : Prop :=
  headerFault op q.cmd = none ∧
  (∀ w ∈ (s.ring q.ring).window, w.cmd.tag ≠ q.cmd.tag) ∧
  (waitEn q.cmd = true → s.waitTagKnown q.cmd = true) ∧
  s.waitsMet q.ring q.cmd = true

/-- The command is read and passes steps 1 to 4: the device state permits it, a locked secondary may take it, and it names
a tile that exists. -/
def State.passes (op : Nat) (q : Submission) (s : State) : Prop :=
  s.readable op q ∧ s.clears op q ∧ legalIn op s.dev.state = true ∧
  (s.lockedSecondary = true → primaryOnly op q.cmd = false) ∧ (namesTile op = true → par q.cmd 8 1 ≤ 15)

/-- The state once the command is accepted: it is pending on its ring, and counted (03 R66 step 7, R76). -/
def State.accepted (op : Nat) (q : Submission) (s : State) : State :=
  (s.taken op q).onRing q.ring fun x => { x with
    accepted := x.accepted ++ [s.refOf op q], acceptedCount := (x.acceptedCount + 1) % 2 ^ 32 }

/-- The primary of a locked pair tells its partner of a command that it carries out for both chips (14 R334). -/
def State.told (op : Nat) (q : Submission) (s t : State) : State :=
  if s.lockedPrimary && primaryOnly op q.cmd then t.emit (.partner (.command op q.cmd)) else t

/-- The state once a good return record has been received: its RSEQ is the last one, its time is kept for LS1, and gaps count as
lost (09 R226, R229). -/
def State.received (n : TileId) (h : RecHdr) (s : State) : State :=
  (s.onPort n fun p => { p with lastRseq := some h.rseq.toNat, retAt := s.lamp }).addWrap (Reg.TL_RET_ERR n) 31 16
    (match (s.port n).lastRseq with
      | none => 0
      | some r => (h.rseq.toNat + 65536 - (r + 1) % 65536) % 65536)

/-- The state once a good copy of an event has been received that is the first of its EVENT_ID (09 R226). -/
def State.heard (n : TileId) (h : RecHdr) (e : EventBody) (s : State) : State :=
  (s.received n h).onPort n fun p => { p with events := (e.id.toNat :: p.events).take 16 }

/-- The port works (02 R48), its return lane is locked, and the event is not one of the last 16 that acted (09 R226). -/
def State.hears (n : TileId) (e : EventBody) (s : State) : Prop :=
  s.on ∧ (s.port n).retLock = true ∧ s.served n = true ∧ (s.port n).events.contains e.id.toNat = false

/-- The collector's latch after a raise `e` that it takes, or that it passes over (14 R319). -/
def latched (takes : Bool) (e : FirstErr) (old : Option FirstErr) : Option FirstErr :=
  if takes = false then old
  else match old with
    | none => some e
    | some o => if o.time = e.time ∧ e.input < o.input then some { e with overflow := true } else some { o with overflow := true }

/-- `x` is what a raise of input `i` in class `c` leaves (14 R318 to R320): pending bit, counts, latch, timer, and the entry to
FATAL that it makes due; beyond the collector and the event path nothing changes. -/
def State.raised (i c d : Nat) (injected broken : Bool) (s x : State) : Prop :=
  x.beyond = s.beyond ∧ (∀ off, x.reg off = s.reg off) ∧
  x.faults.pend = (if 2 ≤ c then s.faults.pend ||| (1#128 <<< i) else s.faults.pend) ∧
  x.faults.cntC = (if c = 1 then min 0xFFFF (s.faults.cntC + 1) else s.faults.cntC) ∧
  x.faults.cntD = (if c = 2 then min 0xFFFF (s.faults.cntD + 1) else s.faults.cntD) ∧
  x.faults.first = latched (decide (c ≠ 1) || s.bit Reg.FLT_CFG 10) ⟨i, c, d, broken, injected, s.lamp, false⟩ s.faults.first ∧
  (c = 3 → injected = false → s.faults.urgent = 0 → x.faults.timer = some ⟨s.lamp, s.reactMs⟩) ∧
  (c ≠ 3 ∨ injected = true ∨ s.faults.urgent ≠ 0 → x.faults.timer = s.faults.timer) ∧
  x.faults.fatalDue = (if c = 4 ∧ injected = false ∧ s.faults.fatalDue = none then some 0x0C else s.faults.fatalDue) ∧
  x.faults.safeDue = s.faults.safeDue

/-- No parameter byte outside the fields `used` is set (03 R63). -/
def tidy (q : Submission) (used : List (Nat × Nat)) : Prop := unusedByte used q.cmd = none

end Sys2Proof.Machine
end

