-- ==== Sys2Proof/WellFormed.lean ====
section
/-! DEFINITION. Which commands are well formed: operands within what the interface can carry. -/

namespace Sys2Proof

/-- Sizes of a register access in bytes: an aligned word, or a narrower access (00 R4). -/
def accessSize (n : Nat) : Bool := decide (n = 1 ∨ n = 2 ∨ n = 4)

/-- Conversions of the 12-bit converter (12 R279). -/
def adcCodes (l : List Nat) : Bool := l.all fun c => decide (c ≤ 4095)

/-- A parcel of a type of 09 R202 with at most the 256 payload bytes of 09 R200. -/
def Parcel.isType (k : Nat) (p : Parcel) : Bool := decide (p.type.toNat = k) && decide (p.payload.length ≤ 256)

/-- A parcel of a type that 09 R202 does not list: it arrives as the row LANE does, and the tile acknowledges and ignores it. -/
def Parcel.unknownType (p : Parcel) : Bool := decide (p.type.toNat = 0 ∨ 9 < p.type.toNat) && decide (p.payload.length ≤ 256)

/-- Every operand is one the block's interface can carry. -/
def Instr.wellFormed (i : Instr) : Bool :=
  match i with
  | .bar2Read off len => decide (1 ≤ len) && decide (off.toNat + len ≤ 2 ^ 28)
  | .bar2Write off data => decide (1 ≤ data.length) && decide (off.toNat + data.length ≤ 2 ^ 28)
  | .registerWrite _ _ size _ => accessSize size
  | .latchingPairRead _ _ size => accessSize size
  | .churnLine _ line _ => decide (line < 1024)
  | .vf _ _ b => decide (1 ≤ b.codes.length) && decide (b.codes.length ≤ 48)
  | .flashData _ _ _ data => decide (data.length = 48)
  | .tileTickBlock _ _ _ rate _ => decide (rate < 256)
  | .pixels _ _ p => p.isType 1
  | .probes _ _ p => p.isType 2
  | .close _ _ p => p.isType 3
  | .retime _ _ p => p.isType 4
  | .admitParcel _ _ p => p.isType 5
  | .retire _ _ p => p.isType 6
  | .fallback _ _ p => p.isType 7
  | .flash _ _ p => p.isType 8
  | .lane _ _ p => p.isType 9 || p.unknownType
  | .milkRoundEnd conv => adcCodes conv
  | .thermalEvaluation conv => adcCodes conv
  | .windowTimeout src => decide (1 ≤ src) && decide (src < 384)
  | .powerOff .. | .powerOn .. | .brownOut .. | .clkFail .. | .deviceReset .. | .pasteuriseComplete ..
  | .bootDealSelect .. | .firmwareSlotStart .. | .domainReady .. | .watchdogExpiry .. | .watchdogKick ..
  | .lockstepDisagree .. | .fwAlive .. | .fwAbsenceLimit .. | .fwSwitchTimeout .. | .dumpDone .. | .dumpTimeout ..
  | .autoReset .. | .unknownOpcode .. | .nop .. | .sync .. | .dealLoad .. | .redealGroup .. | .light .. | .darken ..
  | .hold .. | .resume .. | .timingSet .. | .layerCommit .. | .layerDisable .. | .surfaceCopyIn .. | .trumpSelect ..
  | .skimZonesSet .. | .skimMaintWindow .. | .tileAdmit .. | .tileRetire .. | .tileCalLoad .. | .tileCalRead ..
  | .linkTest .. | .loopLoad .. | .loopSwap .. | .loopMode .. | .calRun .. | .crcScan .. | .dumpFetch ..
  | .fwStage .. | .fwSwitch .. | .lifecycleAdvance .. | .partnerJoin .. | .partnerLeave .. | .commandWaitRelease ..
  | .commandWaitTimeout .. | .sqTailWrite .. | .cqHeadWrite .. | .ringEnable .. | .ringDisable .. | .flushReplay ..
  | .ringErrorClear .. | .pcieLinkDown .. | .pciePerst .. | .d3hotEntry .. | .d0Return .. | .i2cRead ..
  | .frameTick .. | .sampleTick .. | .cut .. | .cutFence .. | .retryHorizon .. | .syncInEdge .. | .syncLockLost ..
  | .retimeDecision .. | .retimeWindowEnd .. | .redealTakeEffect .. | .layerCommitTimeout .. | .surfaceCopyDone ..
  | .surfaceCopyTimeout .. | .potPersist .. | .calEntryComplete .. | .objectListPacket .. | .skimBlindEntry ..
  | .skimSetupDone .. | .maintWindowClose .. | .parcelSend .. | .closeSend .. | .resendTimeout .. | .ack .. | .nak ..
  | .status .. | .sensor .. | .ident .. | .admitAck .. | .retireAck .. | .retimeAck .. | .laneDown .. | .laneUp ..
  | .resync .. | .testResult .. | .flashDone .. | .ls2Ack .. | .badReturnRecord .. | .returnLaneLock ..
  | .returnLaneLost .. | .tileAbsentTimeout .. | .dealMismatchMissing .. | .identRecheck .. | .tileAdmitTimeout ..
  | .tileRetireTimeout .. | .flashDoneTimeout .. | .linkTestEnd .. | .ls2Request .. | .ls2Release ..
  | .tilePowerUp .. | .tileIdentSend .. | .tileFlywheel .. | .tileFrameSwap .. | .tileHoldExpiry ..
  | .tileSubframeStart .. | .tileLaneLost .. | .tileLaneLock .. | .tileTransmitLoss .. | .tileBadCopy ..
  | .diagPassEnd .. | .fmapInitEnd .. | .fmapInit .. | .pendFlush .. | .loopModeTimeout .. | .handoverWindowEnd ..
  | .residualTrip .. | .traceArm .. | .traceStop .. | .tracePostEnd .. | .throttleLevelApply .. | .calRunDecision ..
  | .trimEntryComplete .. | .save .. | .restore .. | .dramRefreshRateRead .. | .pwmPeriodStart .. | .fadeTick ..
  | .target .. | .scanSlotStart .. | .msyncLost .. | .mswap .. | .clr .. | .faultInputRaise .. | .brokenPair ..
  | .fltInject .. | .valid .. | .faultPendClear .. | .reactionTimerExpiry .. | .ptnNotFound .. | .partnerMessage ..
  | .partnerLoss .. | .partnerJoinTimeout .. | .partnerRedealTimeout .. | .holdoffExpiry .. | .claimRead ..
  | .claimWrite .. | .pendingWithdraw .. | .evqEnable .. | .cons .. | .arm .. | .writeErrClear .. | .videoLine ..
  | .tsRequest .. | .feedPacketError .. | .feedUnknownPacket .. | .feedLaneLock .. | .feedLaneLockLost ..
  | .selfRefreshEntry .. | .selfRefreshExit .. | .scalerCfgWrite .. | .tableWr .. | .dealVerifyDone ..
  | .calChecksComplete .. | .loopLoadDone .. | .fwStageDone .. | .crcScanDone .. | .efuseProgrammingDone ..
  | .dumpFetchDone .. | .summaryWritten .. | .saveDone .. | .restoreReadDone .. | .dramTrainingDone ..
  | .patrolScrub .. | .syncOutPulse .. | .ls1Exit .. | .partnerLinkLock .. | .busMasterEnable ..
  | .sourceRoutingWrite .. | .evqDisable .. | .laneEn .. | .tileAckSend .. | .tileSensorSend .. => true

end Sys2Proof
end

