-- ==== Sys2Proof/Certificates/Slice0/Obligations.lean ====
section
/-! DEFINITION. The statements about the model, from the rules of the spec. -/

open Sys2Proof Sys2Proof.Machine

/-- Loss of RST_N, PWR_OK or a core rail takes the device to OFF from every other state. From every state but OFF,
POWER_OFF on either pin and BROWN_OUT on either rail answer a next state in which the device is OFF, every register
reads its reset value, no Deal is in force, the rings and the timing generator are as after reset, and the eFuses and
the tiles are as they were; POWER_OFF also shows its pin low, and BROWN_OUT stops the test access port and, of
VDD_AON, the fault drivers. (R50, R387) -/
def Obligations.PowerLossEntersOff : Prop :=
  ∀ s : State, s.on →
    (∀ pin : OffPin, ∃ t, exec (.powerOff pin) s = .next t ∧ s.lostPower t ∧
      t.pins = match pin with | .rstN => { s.pins with rstN := false } | .pwrOk => { s.pins with pwrOk := false }) ∧
    (∀ rail : CoreRail, ∃ t, exec (.brownOut rail) s = .next t ∧ s.lostPower t ∧
      t.pins = match rail with
        | .core => { s.pins with tap := { on := false } }
        | .aon => { s.pins with driven := false, tap := { on := false } })

/-- POWER_ON takes a device that is OFF to PASTEURISE with every value at reset. In OFF, POWER_ON answers a next state in
PASTEURISE: every register reads its reset value, the lamp clock and the frame count are 0, no Deal is in force, the
rings are as after reset, the straps are taken, the fault drivers are on, the test access port keeps what it held
unless it had lost its supply, and the eFuse values shown are those programmed. In any other state it changes nothing
but what follows by itself. (R50, R387, R393) -/
def Obligations.PowerOnEntersPasteurise : Prop :=
  ∀ (s : State) (straps : BitVec 2),
    (s.dev.state = .off → ∃ t, exec (.powerOn straps) s = .next t ∧ t.dev.state = .pasteurise ∧ t.lamp = 0 ∧
      t.timing = State.reset.timing ∧ (∀ off, off ≠ Reg.DEV_AUDIT_STAT → t.reg off = resetWord off) ∧
      t.rings = State.reset.rings ∧ t.deal = State.reset.deal ∧ t.pins = ⟨true, true, straps, true, if s.pins.tap.on then s.pins.tap else {}⟩ ∧
      t.power.efuse = s.power.efuse ∧ t.power.efuseShown = s.power.efuse) ∧
    (s.on → exec (.powerOn straps) s = .next s.settle)

/-- DEVICE_RESET, AUTO_RESET and the end of a LIFECYCLE_ADVANCE are device resets. A served write to PWR_RESET with DEVICE
1 and KEY 0x5EA5 is a reset of kind 1; AUTO_RESET in FATAL, with AUTO_RESET not 0 and the dump over, is one of kind 2,
at the lamp time it is due at the latest; EFUSE_PROGRAMMING_DONE, while the operations of the oldest LIFECYCLE_ADVANCE
are under way, is one of kind 3, with the operations and the new life-cycle state in eFuse. Each enters PASTEURISE and
resets every block but the lamp clock, the frame count, the TICK, FLT and kept PWR registers, the fault bits, the
first-error latch and the memory controller's training. (R387, R393, R401, R405) -/
def Obligations.ResetsEnterPasteurise : Prop :=
  (∀ (s : State) (m : Master) (value : Word), s.serves m Reg.PWR_RESET → value.toNat % 2 = 1 → bitsOf value.toNat 31 16 = 0x5EA5 →
    ∃ t, exec (.deviceReset m value) s = .next t ∧ s.wasReset 1 0x01 t ∧ t.lamp = s.lamp ∧ t.power.efuse = s.power.efuse) ∧
  (∀ s : State, s.dev.state = .fatal → s.fld Reg.PWR_DUMP_CFG 7 0 ≠ 0 → s.dumping = false →
    ∃ t, exec .autoReset s = .next t ∧ s.wasReset 2 0x01 t ∧ t.power.efuse = s.power.efuse ∧
      t.lamp = max s.lamp (s.power.dumpSince + 100000 * (1000 * s.fld Reg.PWR_DUMP_CFG 7 0))) ∧
  (∀ (s : State) (j : FuseJob) (js : List FuseJob), s.on → s.power.fuseJobs = j :: js → j.begun = true →
    ∃ t, exec .efuseProgrammingDone s = .next t ∧ s.wasReset 3 0x0D t ∧ t.lamp = s.lamp ∧
      t.power.efuse = { s.power.efuse.applyAll j.ops with lifecycle := j.target } ∧ t.power.efuseShown = t.power.efuse)

/-- PASTEURISE_COMPLETE takes PASTEURISE to BOOT with the chip-private ranges wiped. In PASTEURISE, PASTEURISE_COMPLETE
answers a next state in BOOT (CAUSE 2), no later than the limit of R388 after PASTEURISE began unless the lamp clock
is past that already; a byte of DRAM reads 0 inside the chip-private ranges and as before outside them; only the
domains of BOOT stay ready. (R50, R386, R388) -/
def Obligations.PasteuriseEndsInBoot : Prop :=
  ∀ s : State, s.dev.state = .pasteurise → s.quiet →
    ∃ t, exec .pasteuriseComplete s = .next t ∧ t.dev.state = .boot ∧ t.dev.cause = 0x02 ∧ t.dev.prev = DevState.pasteurise.code ∧
      t.lamp ≤ max s.lamp (s.power.pasteStart + min 70000000 (200000 + s.privateBytes / 256)) ∧ s.lamp ≤ t.lamp ∧
      (∀ a, Sparse.get dramFill t.dram a =
        if s.deal.privateRanges.any (fun r => decide (r.1 ≤ a) && decide (a < r.1 + r.2)) then 0#8 else Sparse.get dramFill s.dram a) ∧
      t.power.ready = s.power.ready &&& 0x7F#15

/-- BOOT_DEAL_SELECT with no valid slot ends BOOT in UNDEALT. In BOOT, with the firmware started, when neither flash slot
holds a Deal that verifies, BOOT_DEAL_SELECT answers a next state in UNDEALT (CAUSE 4) with the Deal store unchanged
but for the result of slot B, and only the domains of UNDEALT ready. (R44, R50) -/
def Obligations.BootWithoutDealIsUndealt : Prop :=
  ∀ (s : State) (slotA slotB : Bytes), s.dev.state = .boot → s.power.started.isSome = true → s.quiet →
    s.judgeSlot slotA ≠ .ok → s.judgeSlot slotB ≠ .ok →
    ∃ t, exec (.bootDealSelect slotA slotB) s = .next t ∧ t.dev.state = .undealt ∧ t.dev.cause = 0x04 ∧
      t.dev.prev = DevState.boot.code ∧ t.deal = { s.deal with lastResult := (s.judgeSlot slotB).code } ∧
      t.power.ready = s.power.ready &&& 0x7F#15

/-- BOOT_DEAL_SELECT puts the valid Deal with the higher DEAL_SEQ in force and enters DEALT. In BOOT, with the firmware
started, a valid slot A whose DEAL_SEQ is not below that of a valid slot B, or a valid slot A alone, comes into force
as source 1; otherwise a valid slot B as source 2; the device then enters DEALT (CAUSE 3). With neither valid it
enters UNDEALT (CAUSE 4). (R44, R50) -/
def Obligations.BootDealChosen : Prop :=
  ∀ (s : State) (slotA slotB : Bytes), s.dev.state = .boot → s.power.started.isSome = true →
    let a := parseDeal (slotA.take (rd slotA 8 4))
    let b := parseDeal (slotB.take (rd slotB 8 4))
    let judged := s.onDeal fun d => { d with lastResult := (s.judgeSlot slotB).code }
    exec (.bootDealSelect slotA slotB) s = .next (State.settle
      (if s.judgeSlot slotA = .ok ∧ (s.judgeSlot slotB = .ok → b.seq ≤ a.seq) then (judged.dealInForce a 1).enterDealt 0x03
       else if s.judgeSlot slotB = .ok then (judged.dealInForce b 2).enterDealt 0x03
       else (judged.setDevState .undealt 0x04).applyDomains))

/-- The watchdog, a lockstep disagreement and a late FW_SWITCH restart the cores and nothing else. Outside OFF and
PASTEURISE, WATCHDOG_EXPIRY with EN 1 (at its due time at the latest) and LOCKSTEP_DISAGREE make a core restart;
FW_SWITCH_TIMEOUT, for a held FW_SWITCH that has not failed yet, marks it failed with TIMEOUT and makes one from the
previous ACTIVE. The firmware is absent, a start is due, PWR_WDOG_CFG reads its reset value, the images the firmware
held are dropped; the device state, the rings, the timing, the pixel path, the control loops and DRAM carry on. (R387,
R397, R398, R399, R433) -/
def Obligations.CoreRestartRows : Prop :=
  (∀ s : State, s.coresRun = true → s.quiet → s.bit Reg.PWR_WDOG_CFG 16 = true →
    ∃ t, exec .watchdogExpiry s = .next t ∧
      t.lamp = max s.lamp (s.power.wdogSince + 100000 * s.fld Reg.PWR_WDOG_CFG 13 0) ∧ s.restarted t s.power.switch none) ∧
  (∀ s : State, s.coresRun = true → s.quiet →
    ∃ t, exec .lockstepDisagree s = .next t ∧ t.lamp = s.lamp ∧ s.restarted t s.power.switch none) ∧
  (∀ (s : State) (w : SwitchJob), s.on → s.quiet → s.power.switch = some w → w.failed = none →
    ∃ t, exec .fwSwitchTimeout s = .next t ∧ t.lamp = max s.lamp (w.since + 1000000000) ∧
      s.restarted t (some { w with failed := some .timeout }) (some w.prevActive))

/-- FIRMWARE_SLOT_START starts the slot that R395 chooses. While a core start is due, with both slots judged by R394 and
no FW_SWITCH to that start: after power-on the valid slot with the higher VERSION starts, slot A where the two are
equal; at a later start the slot that the restart names if it is valid, else ACTIVE, else the other slot. The slot
that starts becomes ACTIVE, and its VERSION is shown. With no valid slot BOOT ends in FATAL. (R50, R394, R395, R397) -/
def Obligations.FirmwareSlotChosen : Prop :=
  ∀ (s : State) (imageA imageB : Bytes), s.coresRun = true → s.power.startDue = true → s.power.switch = none →
    let judged := { s.power with slots := (s.power.slots.set 0 (s.judgeFwSlot 0 imageA)).set 1 (s.judgeFwSlot 1 imageB) }
    let kept := { judged with firstStart := false, startDue := false, nextSlot := none }
    exec (.firmwareSlotStart imageA imageB) s = .next (State.settle
      (match (if s.power.firstStart then judged.firstSlot
          else if s.power.nextSlot.any judged.valid then s.power.nextSlot else judged.laterSlot) with
       | some n => s.onPower fun _ => { kept with started := some n, version := (judged.slots.get (slotIx n)).version, active := n }
       | none => if s.dev.state = .boot then (s.onPower fun _ => kept).enterFatal 0x0E else s.onPower fun _ => kept))

/-- The cores' keyed writes kick the watchdog and end an absence. A core's served write of KEY 0xC0DE to PWR_WDOG_KICK
begins the watchdog's period anew. A core's served write of 0xA11E to PWR_FW_ALIVE, while the firmware is absent and a
slot has started, ends the absence: its length is kept, fuse operations begin, the FIRMWARE record is posted, commands
that a restart took away complete ABORTED, and a held FW_SWITCH completes. Any other value of either changes nothing,
and the host's writes are discarded. (R397, R398, R399, R405) -/
def Obligations.FirmwareKeys : Prop :=
  ∀ (s : State) (value : Word),
    (s.serves .core Reg.PWR_WDOG_KICK → bitsOf value.toNat 15 0 = 0xC0DE →
      exec (.watchdogKick .core value) s = .next (State.settle { s with power := { s.power with wdogSince := s.lamp } })) ∧
    (s.serves .core Reg.PWR_FW_ALIVE → bitsOf value.toNat 15 0 = 0xA11E → s.power.absent = true → s.power.started.isSome = true →
      let ms := (s.lamp - s.power.absentSince) / 100000
      let ended := { s with power := { s.power with
        absent := false, lastAbsentMs := min 0xFFFF ms, fuseJobs := s.power.fuseJobs.map fun (j : FuseJob) => { j with begun := true } } }
      exec (.fwAlive .core value) s = .next (State.settle
        (ended.post 0xB2 339 (le 1 1 ++ zeros 3 ++ le 4 s.power.version ++ le 4 ms)).abortHeld.endSwitch)) ∧
    (bitsOf value.toNat 15 0 ≠ 0xC0DE → exec (.watchdogKick .core value) s = .next s.settle) ∧
    (bitsOf value.toNat 15 0 ≠ 0xA11E → exec (.fwAlive .core value) s = .next s.settle) ∧
    (s.host.d3hot = false → exec (.watchdogKick .host value) s = .next s.settle ∧ exec (.fwAlive .host value) s = .next s.settle)

/-- FW_ABSENCE_LIMIT raises FW_ABSENT, makes SAFE_LIGHT due and restarts from the other slot. While the firmware is absent
outside OFF and PASTEURISE, FW_ABSENCE_LIMIT (at 60 s of absence at the latest) raises input 26, makes the entry to
SAFE_LIGHT with CAUSE 0x0B due, posts the FIRMWARE record, completes the commands that a restart took away ABORTED,
and where the slot not started last is valid makes a core restart from it; a new absence begins. (R50, R55, R398) -/
def Obligations.AbsenceReachesItsLimit : Prop :=
  ∀ s : State, s.coresRun = true → s.power.absent = true →
    let due := s.advanceTo (s.power.absentSince + 6000000000)
    let told := (((due.raise 26 0).safeLightDue 0x0B).post 0xB2 339 (le 1 2 ++ zeros 3 ++ le 4 s.power.version ++
      le 4 ((due.lamp - s.power.absentSince) / 100000))).abortHeld
    let other := 1 - told.power.started.getD told.power.active
    exec .fwAbsenceLimit s = .next (State.settle
      ((if told.power.valid other then told.coreRestart 4 (some other) else told).onPower fun p => { p with absentSince := due.lamp }))

/-- The ends of FW_STAGE, the fatal dump, DUMP_FETCH and CRC_SCAN. FW_STAGE_DONE with firmware present makes the staged
slot valid and completes OK with RESULT VERSION. DUMP_DONE in FATAL, with firmware present, writes the dump to the
partition of KIND 5 and sets DONE; DUMP_TIMEOUT sets NONE instead, 2 s after the entry at the latest. DUMP_FETCH_DONE
writes the bytes of the oldest fetch to the host and completes OK with their number. CRC_SCAN_DONE of a readable range
completes OK with the check value, which its registers and the CRC record show. (R396, R400, R401, R402) -/
def Obligations.ServiceJobsEnd : Prop :=
  (∀ (s : State) (j : StageJob), s.on → s.power.stage = some j → s.power.absent = false →
    exec .fwStageDone s = .next (State.settle (({ s with power := { s.power with
      stage := none, slots := s.power.slots.set (slotIx j.slot) ⟨true, j.version, j.secVer⟩
      marked := s.power.marked &&& ~~~(1#2 <<< j.slot) } }).completeOk j.ref j.version))) ∧
  (∀ (s : State) (log : Bytes) (p : PartEntry), s.dumpPart = some p → s.dumping = true → s.power.absent = false →
    exec (.dumpDone log) s = .next (State.settle (({ s.dramWrite p.base (s.dumpBytes log) with
      freeSeq := s.freeSeq + 0xDF000 }).onPower fun x => { x with
        dumpDone := true, dumpSince := s.lamp, dumpSize := (s.dumpBytes log).length }))) ∧
  (∀ s : State, s.dumping = true →
    exec .dumpTimeout s = .next (State.settle ({ s with
      lamp := max s.lamp (s.power.dumpSince + 200000000)
      power := { s.power with dumpNone := true, dumpSince := max s.lamp (s.power.dumpSince + 200000000) } }))) ∧
  (∀ (s : State) (j : FetchJob) (js : List FetchJob) (p : PartEntry), s.on → s.dealer.fetches = j :: js → s.dumpPart = some p →
    s.hostReady = true → s.dramGood (p.base + j.off) j.len = true →
    exec .dumpFetchDone s = .next (State.settle (({ s with
      dealer := { s.dealer with fetches := js }
      outbox := s.outbox ++ [Emission.hostWrite j.dst (s.dramRead (p.base + j.off) j.len)] }).completeOk j.ref j.len))) ∧
  (∀ (s : State) (u : Fin 2) (j : ScanJob), s.on → s.dealer.scans.get u = some j → s.dramGood j.start j.len = true →
    let v := match j.alg with
      | 0 => crc32 (s.dramRead j.start j.len)
      | 1 => crc32c (s.dramRead j.start j.len)
      | _ => crc16 (s.dramRead j.start j.len)
    exec (.crcScanDone u) s = .next (State.settle ((((((({ s with
      dealer := { s.dealer with scans := s.dealer.scans.set u none } }).setFld (Reg.CRC_STAT u) 0 0 0).setFld (Reg.CRC_STAT u) 15 8
        Status.ok.code).setReg (Reg.CRC_RESULT u) (BitVec.ofNat 32 v)).setReg (Reg.CRC_DONE u)
          (BitVec.ofNat 32 (s.goodLength j.start j.len))).post 0xB0 (336 + u.val)
            (le 1 j.alg ++ le 1 Status.ok.code ++ zeros 2 ++ le 4 v ++ le 2 j.ref.tag)).completeOk j.ref v)))

/-- CLK_FAIL raises input 13 by its source, and DOMAIN_READY sets READY of a domain that is on. Outside OFF, loss of the
reference, the churn PLL or the fabric PLL clears its status and raises input 13 with DETAIL 0, 1 or 2. DOMAIN_READY
of a domain that is on sets its READY bit, and no other. (R386, R405) -/
def Obligations.ClockLossAndReadyDomains : Prop :=
  (∀ s : State, s.on →
    exec (.clkFail .reference) s = .next (State.settle (({ s with power := { s.power with refOk := false } }).raise 13 0)) ∧
    exec (.clkFail .churnPll) s = .next (State.settle (({ s with power := { s.power with churnLock := false } }).raise 13 1)) ∧
    exec (.clkFail .fabricPll) s = .next (State.settle (({ s with power := { s.power with fabricLock := false } }).raise 13 2))) ∧
  (∀ (s : State) (d : Fin 15), s.on → bitAt s.domainsOn d.val = true →
    exec (.domainReady d) s = .next (State.settle { s with power := { s.power with ready := s.power.ready ||| (1#15 <<< d.val) } }))

/-- A pointer write moves SQ_TAIL or CQ_HEAD only forward, and sets TAIL_ERR otherwise. A served write to
DEV_RINGn_SQ_TAIL takes its low 16 bits as the new pointer where they are below the ring's entries and the unread
count does not fall; one to DEV_RINGn_CQ_HEAD where it consumes no completion that is not posted. Every other value
leaves the pointer and sets TAIL_ERR, with a RING_ERROR record where TAIL_ERR was clear. (R60, R62) -/
def Obligations.RingPointersMoveForward : Prop :=
  ∀ (s : State) (m : Master) (r : RingId) (value : Word),
    let x := s.ring r
    let v := bitsOf value.toNat 15 0
    let n := 2 ^ x.sizeLog2
    let refused := { s with rings := s.rings.set r { x with tailErr := true } }
    let answer := if x.tailErr then refused else refused.post 0x03 6 (le 1 r.val ++ le 1 4)
    (s.serves m (Reg.DEV_RING_SQ_TAIL r) →
      exec (.sqTailWrite m r value) s = .next (State.settle
        (if v < n ∧ (x.sqTail + n - x.sqHead) % n ≤ (v + n - x.sqHead) % n then { s with rings := s.rings.set r { x with sqTail := v } }
         else answer))) ∧
    (s.serves m (Reg.DEV_RING_CQ_HEAD r) →
      exec (.cqHeadWrite m r value) s = .next (State.settle
        (if v < n ∧ (v + n - x.cqHead) % n ≤ (x.cqTail + n - x.cqHead) % n then { s with rings := s.rings.set r { x with cqHead := v } }
         else answer)))

/-- ENABLE, its clearing, FLUSH_REPLAY and the clearing of ring errors. For a ring that is stopped, a served write of
ENABLE 1 to DEV_RINGn_CFG takes SIZE_LOG2 (4 to 12) and LOCAL, and sets every pointer to 0 and the phase to 1, clears
STOPPED and posts the held completions, unless entries - 1 is below HELD or a local ring has no Deal or lies wrongly,
where the write is discarded and CFG_ERR is set instead; FLUSH_REPLAY 1 clears its replay window. For a ring that
runs, ENABLE 0 stops it and leaves its window. A served write to DEV_RINGn_STAT clears the error bits written as 1,
and completions that a cleared POST_ERR held back are posted. (R61, R62) -/
def Obligations.RingConfigured : Prop :=
  ∀ (s : State) (m : Master) (r : RingId) (value : Word),
    let x := s.ring r
    let v := value.toNat
    let set := { x with
      sizeLog2 := if 4 ≤ bitsOf v 3 0 ∧ bitsOf v 3 0 ≤ 12 then bitsOf v 3 0 else x.sizeLog2
      isLocal := bitAt v 9, window := if bitAt v 16 then [] else x.window }
    (s.serves m (Reg.DEV_RING_CFG r) → x.enable = false → bitAt v 8 = true →
      ¬(2 ^ set.sizeLog2 - 1 < x.held.length ∨ (set.isLocal = true ∧ (s.theDeal.isNone ∨ s.localRingOk set = false))) →
      exec (.ringEnable m r value) s = .next (State.settle
        (({ s with rings := s.rings.set r { set with
          enable := true, stopped := false, sqHead := 0, sqTail := 0, cqHead := 0, cqTail := 0, phase := true, heldOld := x.held.length } }).flushHeld
            r x.held.length))) ∧
    (s.serves m (Reg.DEV_RING_CFG r) → x.enable = false → bitAt v 8 = true →
      (2 ^ set.sizeLog2 - 1 < x.held.length ∨ (set.isLocal = true ∧ (s.theDeal.isNone ∨ s.localRingOk set = false))) →
      exec (.ringEnable m r value) s = .next (State.settle (s.ringError r false false false true))) ∧
    (s.serves m (Reg.DEV_RING_CFG r) → x.enable = true → bitAt v 8 = false →
      exec (.ringDisable m r value) s = .next (State.settle { s with rings := s.rings.set r { x with enable := false } })) ∧
    (s.serves m (Reg.DEV_RING_CFG r) → x.enable = false → bitAt v 8 = false → bitAt v 16 = true →
      exec (.flushReplay m r value) s = .next (State.settle { s with rings := s.rings.set r { set with window := [] } })) ∧
    (s.serves m (Reg.DEV_RING_STAT r) →
      exec (.ringErrorClear m r value) s = .next (State.settle
        (({ s with rings := s.rings.set r { x with
          fetchErr := x.fetchErr && !bitAt v 0, postErr := x.postErr && !bitAt v 1
          tailErr := x.tailErr && !bitAt v 2, cfgErr := x.cfgErr && !bitAt v 3 } }).flushHeld r x.held.length)))

/-- A link-down, hot reset or PERST stops the host's rings and queues; Bus Master Enable, D3hot and D0. With the link up,
PCIE_LINK_DOWN and PCIE_PERST take the link, Bus Master Enable, D3hot, L1 and PME_En down, zero the link's speed and
width, mask every MSI-X vector, count the loss, clear ENABLE and set STOPPED of every ring that is not local and leave
every local ring, clear ENABLE of event queues 0 to 5, and raise input 12. With the host's domain on,
BUS_MASTER_ENABLE brings the link and Bus Master Enable up. D3HOT_ENTRY enters D3hot, taking PME_En and clearing
PME_Status where told to, and stops each ring that is not local and has commands to read; D0_RETURN leaves it,
likewise, and then staged records are written, timers resume, queues send their messages, and rings post what they
hold. (R61, R357, R364, R365, R424) -/
def Obligations.HostLinkLostAndRegained : Prop :=
  (∀ s : State, s.on → s.host.linkUp = true →
    ∃ x : State, (∀ hot : Bool, exec (.pcieLinkDown hot) s = .next (State.settle (x.raise 12 0))) ∧
      exec .pciePerst s = .next (State.settle (x.raise 12 0)) ∧
      x.host.linkUp = false ∧ x.host.bme = false ∧ x.host.d3hot = false ∧ x.host.pmeEn = false ∧ x.host.inL1 = false ∧
      x.host.speed = 0 ∧ x.host.width = 0 ∧ (∀ v : Fin 16, (x.host.msix.get v).control = (s.host.msix.get v).control ||| 1#32) ∧
      x.host.linkDownCnt = min 0xFFFF (s.host.linkDownCnt + 1) ∧
      (∀ r : RingId, x.ring r = if (s.ring r).isLocal = false then { s.ring r with enable := false, stopped := true } else s.ring r) ∧
      (∀ q : QueueId, q.val < 6 → x.evqEnabled q = false) ∧
      x.dram = s.dram ∧ x.dev = s.dev ∧ x.timing = s.timing ∧ x.churns = s.churns ∧ x.ports = s.ports ∧ x.lamp = s.lamp ∧
      x.reg Reg.MEMC_BAR2_BASE = s.reg Reg.MEMC_BAR2_BASE) ∧
  (∀ s : State, s.on → s.quiet → s.hostOn = true →
    ∃ t, exec .busMasterEnable s = .next t ∧ t.host.linkUp = true ∧ t.host.bme = true ∧ t.host.d3hot = s.host.d3hot ∧
      { t.dev with reported := s.dev.reported } = s.dev ∧ t.timing = s.timing) ∧
  (∀ (s : State) (en clear : Bool), s.on → s.host.linkUp = true → s.host.d3hot = false →
    ∃ x : State, exec (.d3hotEntry en clear) s = .next x.settle ∧
      x.host = { s.host with d3hot := true, pmeEn := en, pmeStatus := s.host.pmeStatus && !clear } ∧
      (∀ r : RingId, x.ring r = if (s.ring r).isLocal = false ∧ (s.ring r).sqHead ≠ (s.ring r).sqTail
        then { s.ring r with enable := false, stopped := true } else s.ring r)) ∧
  (∀ (s : State) (en clear : Bool), s.on → s.host.linkUp = true → s.host.d3hot = true →
    let awake := { s with host := { s.host with d3hot := false, pmeEn := en, pmeStatus := s.host.pmeStatus && !clear } }
    exec (.d0Return en clear) s = .next (State.settle awake.drainAll.resumeTimers.wakeMessages.flushRings) ∧
    awake.drainAll.resumeTimers.wakeMessages.flushRings.host.d3hot = false)

/-- BAR2 reaches DRAM through the firewall, and a write changes its own bytes alone. With the link up in D0, a BAR2_READ
that the firewall permits and that meets no uncorrectable word returns the bytes of DRAM; a denied one returns 0xFF in
every byte and counts a denial. A permitted BAR2_WRITE after which none of its words reads uncorrectable leaves DRAM
reading the bytes written there, and every other byte as before; a denied one leaves DRAM as it is and counts a
denial. (R361, R362, R377, R379) -/
def Obligations.Bar2ReadsAndWritesDram : Prop :=
  (∀ (s : State) (off : BitVec 28) (len : Nat), s.on → s.host.linkUp = true → s.host.d3hot = false →
    let a := s.fld Reg.MEMC_BAR2_BASE 13 0 * 1048576 + off.toNat
    (s.permitted a len 0 = true → s.dramGood a len = true →
      exec (.bar2Read off len) s = .next (State.settle { s with outbox := s.outbox ++ [.bar2Read (s.dramRead a len) false] })) ∧
    (s.permitted a len 0 = false →
      exec (.bar2Read off len) s = .next (State.settle ((s.deny 0 a).emit (.bar2Read (List.replicate len 0xFF#8) false))))) ∧
  (∀ (s : State) (off : BitVec 28) (data : Bytes), s.on → s.quiet → s.host.linkUp = true → s.host.d3hot = false →
    let a := s.fld Reg.MEMC_BAR2_BASE 13 0 * 1048576 + off.toNat
    (s.permitted a data.length 1 = true → (s.dramWrite a data).dramGood a data.length = true →
      ∃ t, exec (.bar2Write off data) s = .next t ∧ t.dramRead a data.length = data ∧
        (∀ j, ¬(a ≤ j ∧ j < a + data.length) → Sparse.get dramFill t.dram j = Sparse.get dramFill s.dram j) ∧
        (Memory.wf s.dram = true → Memory.wf t.dram = true) ∧ t.memc = s.memc ∧ t.rings = s.rings) ∧
    (s.permitted a data.length 1 = false →
      ∃ t, exec (.bar2Write off data) s = .next t ∧ t.dram = s.dram ∧ t.memc.denials = min 0xFFFF (s.memc.denials + 1) ∧ t.rings = s.rings))

/-- Reads of registers, latching pairs and CLAIM, and reads over I2C. A register read that is served returns the
register's bytes, the bytes beyond it as 0; a read of the low word of a latching pair latches its high word, and one
of an even word of a photometric ledger the word after it. A core's read of INTC_HANDh_CLAIM returns 0 where nothing
is selected; the ID selected where it is still valid, which clears its pending bit and pushes its priority; and 1023
otherwise. I2C_READ returns the values of the target's table outside OFF and PASTEURISE, and changes no state of the
device. (R4, R86, R191, R192, R340, R349, R381) -/
def Obligations.MasterReadsRegisters : Prop :=
  (∀ (s : State) (m : Master) (offset : BitVec 24) (size : Nat), s.reaches m = true → s.asleep m = false →
    let a := offset.toNat / 4 * 4
    a ≠ Reg.INTC_HAND_CLAIM 0 → a ≠ Reg.INTC_HAND_CLAIM 1 →
    exec (.latchingPairRead m offset size) s = .next (State.settle (State.emit
      (.regRead m offset.toNat (padTo size ((le (4 - offset.toNat % 4) ((s.readWord a) / 2 ^ (8 * (offset.toNat % 4)))).take size)))
      (if a = Reg.TICK_LAMP_LO then { s with timing := { s.timing with lampHi := s.lamp / 2 ^ 32 % 2 ^ 32 } }
       else if a = Reg.TICK_LAST_LO then { s with timing := { s.timing with lastHi := s.timing.lastTick / 2 ^ 32 % 2 ^ 32 } }
       else if a = Reg.FLT_FIRST_TIME_LO then { s with faults := { s.faults with timeHi := s.faults.firstTime / 2 ^ 32 % 2 ^ 32 } }
       else s.latchLedger a)))) ∧
  (∀ (s : State) (h : Fin 2), s.on →
    let c := s.intc.cores.get h
    let valid := s.claimable h c.selected && !s.srcMasked c.selected && bitAt (s.srcRoute c.selected) h.val
    let answer (id : Nat) (t : State) : Host.Outcome State Fault Refusal :=
      .next (State.settle (t.emit (.regRead .core (Reg.INTC_HAND_CLAIM h) (le 4 id))))
    (c.selected = 0 → exec (.claimRead .core h) s = answer 0 s) ∧
    (c.selected ≠ 0 → valid = true → exec (.claimRead .core h) s = answer c.selected (s.onCore h fun c => { c with
      pend := c.pend &&& ~~~(1#384 <<< c.selected), stack := (c.selected, s.srcPrio c.selected) :: c.stack, selected := 0 })) ∧
    (c.selected ≠ 0 → valid = false → exec (.claimRead .core h) s = answer 1023 (s.onCore h fun c => { c with selected := 0 }))) ∧
  (∀ (s : State) (index : Byte) (count : Nat), s.dev.state ≠ .off → s.dev.state ≠ .pasteurise →
    exec (.i2cRead index count) s = .next (State.settle { s with
      outbox := s.outbox ++ [.i2cRead (some ((List.range count).map fun k => s.i2cValue (index.toNat + k)))] }))

/-- Windows close in time, hold-offs end, claims complete and pending bits are withdrawn. WINDOW_TIMEOUT of an open window
that is not frozen closes it with a notification, at its closing time at the latest. HOLDOFF_EXPIRY ends a hold-off
that no record waited for; where records waited it starts again and notifies the hand once, for a core hand with every
waiting source. A core's served write of the ID on top of the claim stack pops it, and any other ID sets COMPLETE_ERR.
A served write to INTC_HANDh_PENDw withdraws the pending bits written as 1. (R346, R347, R350, R355) -/
def Obligations.InterruptHandsAndWindows : Prop :=
  (∀ (s : State) (src : Nat) (w : Window), s.on → s.intc.windows.find? (fun w => w.src = src) = some w → w.left = none →
    exec (.windowTimeout src) s = .next (State.settle (State.closeWindow src true { s with lamp := max s.lamp w.closesAt }))) ∧
  (∀ (s : State) (g : Fin 3) (h : Fin 8) (o : Holdoff), s.on →
    s.intc.holdoffs.find? (fun o => o.group = g.val + 1 ∧ o.hand = h.val) = some o → o.left = none →
    let now := max s.lamp o.endsAt
    let rest := s.intc.holdoffs.filter fun x => !(decide (x.group = g.val + 1) && decide (x.hand = h.val))
    let again := { s with
      lamp := now, intc := { s.intc with holdoffs := rest ++ [{ o with endsAt := now + s.holdoffCounts (g.val + 1), waiting := [] }] } }
    (o.waiting = [] → exec (.holdoffExpiry g h) s = .next (State.settle { s with lamp := now, intc := { s.intc with holdoffs := rest } })) ∧
    (o.waiting ≠ [] → h.val < 2 → exec (.holdoffExpiry g h) s = .next (State.settle
      (forEach o.waiting (fun src s => s.notify h.val src) again))) ∧
    (o.waiting ≠ [] → ¬h.val < 2 → exec (.holdoffExpiry g h) s = .next (State.settle (again.notify h.val 0)))) ∧
  (∀ (s : State) (h : Fin 2) (value : Word), s.serves .core (Reg.INTC_HAND_CLAIM h) →
    (∀ (top : Nat × Nat) (rest : List (Nat × Nat)), (s.intc.cores.get h).stack = top :: rest → top.1 = bitsOf value.toNat 9 0 →
      exec (.claimWrite .core h value) s = .next (State.settle (s.onCore h fun c => { c with stack := rest }))) ∧
    ((∀ top ∈ (s.intc.cores.get h).stack.head?, top.1 ≠ bitsOf value.toNat 9 0) →
      exec (.claimWrite .core h value) s = .next (State.settle (s.onCore h fun c => { c with completeErr := true })))) ∧
  (∀ (s : State) (m : Master) (h : Fin 2) (w : Fin 12) (value : Word), s.serves m (Reg.INTC_HAND_PEND h w) →
    exec (.pendingWithdraw m h w value) s = .next (State.settle (s.onCore h fun c => { c with
      pend := c.pend &&& ~~~(BitVec.ofNat 384 value.toNat <<< (32 * w.val)) })))

/-- A write to INTC_SRCs_CFG sets the priority, the mask and a route inside the source's HAND_MASK. For every source that
is not reserved, a served write to INTC_SRCs_CFG by SOURCE_ROUTING_WRITE answers a next state in which the priority
and the mask are those written, the route is that written where it lies within the hands the source may reach and as
before otherwise, and every other register but the audit status reads as before. (R354, R355, R358) -/
def Obligations.SourceRoutingFields : Prop :=
  ∀ (s : State) (m : Master) (src : Nat) (value : Word), s.quiet → 1 ≤ src → src < 384 → reservedSource src = false →
    s.serves m (Reg.INTC_SRC_CFG src) →
    ∃ t, exec (.sourceRoutingWrite m (BitVec.ofNat 24 (Reg.INTC_SRC_CFG src)) value) s = .next t ∧
      t.srcPrio src = bitsOf value.toNat 3 0 ∧ t.srcMasked src = bitAt value.toNat 8 ∧
      t.srcRoute src = (if bitsOf value.toNat 23 16 &&& s.handMask src = bitsOf value.toNat 23 16 then bitsOf value.toNat 23 16 else s.srcRoute src) ∧
      (∀ off, off ≠ Reg.INTC_SRC_CFG src → off ≠ Reg.DEV_AUDIT_STAT → t.reg off = s.reg off)

/-- Enabling, disabling, consuming, arming and clearing an event queue. A served write of ENABLE 1 to EVQq_CFG of a
disabled queue takes SIZE_LOG2 (6 to 16), VECTOR and WAKE, and sets PROD and CONS to 0, FREE to the size and ARMED;
one of ENABLE 0 to an enabled queue routes its staged records again. A CONS write within the records written frees as
many slots as it consumes and clears NOTIFY_PEND where it reaches PROD; any other sets CONS_ERR, with a QUEUE record
where it was clear. A write of 1 to ARM of a host queue arms it, and a message goes out where a notification is
pending. Error bits written as 1 to EVQq_STAT clear. (R351, R352, R353, R359, R433) -/
def Obligations.EventQueuesRun : Prop :=
  ∀ (s : State) (m : Master) (q : QueueId) (value : Word),
    let v := value.toNat
    let e := s.evq q
    (s.serves m (Reg.EVQ_CFG q) → s.evqEnabled q = false → bitAt v 8 = true →
      let sized := if 6 ≤ bitsOf v 4 0 ∧ bitsOf v 4 0 ≤ 16 then s.setFld (Reg.EVQ_CFG q) 4 0 (bitsOf v 4 0) else s
      let set := (sized.setFld (Reg.EVQ_CFG q) 15 12 (bitsOf v 15 12)).setFld (Reg.EVQ_CFG q) 9 8 (bitsOf v 9 8)
      exec (.evqEnable m q value) s = .next (State.settle (set.onEvq q fun e => { e with
        prod := 0, cons := 0, free := set.evqSize q, armed := true, notifyPend := false, stalled := false }))) ∧
    (s.serves m (Reg.EVQ_CFG q) → s.evqEnabled q = true → bitAt v 8 = false →
      exec (.evqDisable m q value) s = .next (State.settle
        (((s.setFld (Reg.EVQ_CFG q) 15 12 (bitsOf v 15 12)).setFld (Reg.EVQ_CFG q) 9 8 (bitsOf v 9 8)).rerouteQueue q))) ∧
    (s.serves m (Reg.EVQ_CONS q) → (v + 2 ^ 32 - e.cons) % 2 ^ 32 ≤ (e.prod + 2 ^ 32 - e.cons) % 2 ^ 32 →
      exec (.cons m q value) s = .next (State.settle ((s.onEvq q fun e => { e with
        cons := v, free := e.free + (v + 2 ^ 32 - e.cons) % 2 ^ 32, notifyPend := e.notifyPend && decide (v ≠ e.prod) }).onIntc
          fun i => { i with auditDue := i.auditDue ++ [q.val] }))) ∧
    (s.serves m (Reg.EVQ_CONS q) → ¬(v + 2 ^ 32 - e.cons) % 2 ^ 32 ≤ (e.prod + 2 ^ 32 - e.cons) % 2 ^ 32 →
      let told := s.onEvq q fun e => { e with consErr := true }
      exec (.cons m q value) s = .next (State.settle (if e.consErr then told else
        told.post 0x0A (352 + q.val) (le 1 q.val ++ le 1 3 ++ zeros 2 ++ le 4 (told.evq q).prod ++ le 4 (told.evq q).cons)))) ∧
    (s.serves m (Reg.EVQ_CTL q) → bitAt v 0 = true → q.val < 6 →
      exec (.arm m q value) s = .next (State.settle ((s.onEvq q fun e => { e with armed := true }).tryMessage q))) ∧
    (s.serves m (Reg.EVQ_STAT q) →
      exec (.writeErrClear m q value) s = .next (State.settle (s.onEvq q fun e => { e with
        consErr := e.consErr && !bitAt v 3, writeErr := e.writeErr && !bitAt v 4, lost := e.lost && !bitAt v 5 })))

/-- Self-refresh, training, refresh rates and the patrol scrubber. With SR_EN 1, DRAM trained and not in self-refresh,
SELF_REFRESH_ENTRY where the smallest tolerance reported is at least ENTER_TOL enters self-refresh; SELF_REFRESH_EXIT
leaves it and adds the time spent. At BOOT, DRAM_TRAINING_DONE with a size that R375 permits reports rate, ranks and
size. DRAM_REFRESH_RATE_READ takes the multipliers. PATROL_SCRUB raises 6 or 7 for SRAM; for DRAM, with the scrubber
enabled, a corrected word is counted and raises 8, an uncorrectable word is marked, counted and raises 9, and a pass
is counted. (R21, R375, R376, R377, R378) -/
def Obligations.MemoryControllerRows : Prop :=
  (∀ (s : State) (tol : Nat), s.on → s.memc.srSince = none → s.memc.trained = true → s.bit Reg.MEMC_SR_CFG 0 = true →
    max 2 (s.fld Reg.MEMC_SR_CFG 15 8) ≤ s.minTolerance tol →
    exec (.selfRefreshEntry tol) s = .next (State.settle { s with memc := { s.memc with
      srSince := some s.lamp, minTol := tol, srEntries := (s.memc.srEntries + 1) % 65536 } })) ∧
  (∀ (s : State) (tol t0 : Nat), s.on → s.memc.srSince = some t0 →
    exec (.selfRefreshExit tol) s = .next (State.settle { s with memc := { s.memc with
      srSince := none, minTol := tol, srCounts := s.memc.srCounts + (s.lamp - t0) } })) ∧
  (∀ (s : State) (x : TrainResult), s.dev.state = .boot → s.memc.trained = false →
    (x.sizeGib = 2 ∨ x.sizeGib = 4 ∨ x.sizeGib = 8 ∨ x.sizeGib = 16) →
    exec (.dramTrainingDone (some x)) s = .next (State.settle { s with memc := { s.memc with
      trained := true, rate := x.rate.val, ranks := b2n x.twoRanks, sizeGib := x.sizeGib } })) ∧
  (∀ (s : State) (l : List Nat), s.on → s.memc.trained = true →
    exec (.dramRefreshRateRead l) s = .next (State.settle { s with memc := { s.memc with refresh := l } })) ∧
  (∀ s : State, s.on →
    (∀ r, exec (.patrolScrub (.sramCorrected r)) s = .next (State.settle (s.raise 6 r.val))) ∧
    (∀ r, exec (.patrolScrub (.sramUncorrectable r)) s = .next (State.settle (s.raise 7 r.val)))) ∧
  (∀ (s : State) (a : Nat), s.on → s.bit Reg.MEMC_SCRUB 0 = true → a < s.dataSpace →
    exec (.patrolScrub (.corrected a)) s = .next (State.settle
      (({ s with memc := { s.memc with eccCorr := min 0xFFFF (s.memc.eccCorr + 1) } }).raise 8 0xF2)) ∧
    exec (.patrolScrub (.uncorrectable a)) s = .next (State.settle
      (({ s with
        dramBad := if s.dramBad.contains (a / 8) then s.dramBad else s.dramBad ++ [a / 8]
        memc := { s.memc with eccUncorr := min 0xFFFF (s.memc.eccUncorr + 1), eccLast := a, eccReq := 242 } }).raise 9 242)) ∧
    exec (.patrolScrub .passDone) s = .next (State.settle { s with memc := { s.memc with
      scrubPasses := min 0xFFFF (s.memc.scrubPasses + 1) } }))

/-- LIGHT, DARKEN, HOLD and RESUME pass their checks and wait for the cut. A submission that passes steps 1 to 4 and has
no stray byte is accepted and becomes the state command that waits for its cut: LIGHT with a TILE_MASK that is not 0
and names tiles in ADMITTED alone; DARKEN with one that is not 0 and names tiles in the lit set alone; HOLD; RESUME,
from SAFE_LIGHT only without a latched fault of class U or F and below 110 °C. The primary of a locked pair tells its
partner. (R53, R54, R63, R66, R70, R334) -/
def Obligations.StateCommandsWaitForTheirCut : Prop :=
  ∀ (s : State) (q : Submission),
    let m := par q.cmd 8 2
    let waits (op mask : Nat) : Host.Outcome State Fault Refusal := .next (State.settle (s.told op q
      ((s.accepted op q).onDev fun d => { d with stateCmd := some ⟨s.refOf op q, mask⟩ })))
    (s.passes 0x05 q → tidy q [(8, 2)] → m ≠ 0 → (∀ n : TileId, m.testBit n.val = true → (s.port n).state = 2) →
      exec (.light q) s = waits 0x05 m) ∧
    (s.passes 0x06 q → tidy q [(8, 2)] → m ≠ 0 → (∀ n : TileId, m.testBit n.val = true → s.inLit n = true) →
      exec (.darken q) s = waits 0x06 m) ∧
    (s.passes 0x07 q → tidy q [] → exec (.hold q) s = waits 0x07 0) ∧
    (s.passes 0x08 q → tidy q [] → (s.dev.state = .safeLight →
        countClass s.faults.pend 3 = 0 ∧ countClass s.faults.pend 4 = 0 ∧ s.house.therm.hottest < 1100) →
      exec (.resume q) s = waits 0x08 0)

/-- NOP completes; SYNC, SURFACE_COPY_IN, DUMP_FETCH and CRC_SCAN are accepted with their checks met. A submission that
passes steps 1 to 4, has no stray byte and meets the checks of its command is accepted. NOP completes OK at once. SYNC
takes its snapshot and the low lamp clock then. SURFACE_COPY_IN, whose DST lies in a partition of KIND 1 or 2 with
PART's number, joins the copies. DUMP_FETCH, with a dump that holds the range, joins the fetches. CRC_SCAN of a free
unit within DRAM marks its unit busy, with the algorithm and the tag, and CRCu_DONE at 0. (R63, R66, R67, R75, R135,
R401, R402) -/
def Obligations.TransferCommandsAccepted : Prop :=
  ∀ (s : State) (q : Submission),
    let ref (op : Nat) : CmdRef := s.refOf op q
    (s.passes 0x01 q → tidy q [] → exec (.nop q) s = .next (State.settle ((s.accepted 0x01 q).completeOk (ref 0x01) 0))) ∧
    (s.passes 0x02 q → tidy q [(8, 8), (16, 1)] → par q.cmd 8 8 % 64 = 0 → par q.cmd 16 1 ≤ 1 →
      exec (.sync q) s = .next (State.settle ((s.accepted 0x02 q).onDealer fun d => { d with
        syncs := d.syncs ++ [⟨ref 0x02, par q.cmd 8 8, (s.taken 0x02 q).syncSummary, decide (par q.cmd 16 1 = 1), s.lamp % 2 ^ 32⟩] }))) ∧
    (∀ p : PartEntry, s.passes 0x12 q → tidy q [(8, 8), (16, 8), (24, 4), (28, 1)] → par q.cmd 8 8 % 64 = 0 → par q.cmd 16 8 % 64 = 0 →
      64 ≤ par q.cmd 24 4 → par q.cmd 24 4 ≤ 67108864 → par q.cmd 24 4 % 64 = 0 → s.partEntry (par q.cmd 28 1) = some p →
      (p.kind = 1 ∨ p.kind = 2) → p.base ≤ par q.cmd 16 8 → par q.cmd 16 8 + par q.cmd 24 4 ≤ p.base + p.size →
      s.dealer.copies.length < 16 →
      exec (.surfaceCopyIn q) s = .next (State.settle ((s.accepted 0x12 q).onDealer fun d => { d with
        copies := d.copies ++ [⟨ref 0x12, par q.cmd 8 8, par q.cmd 16 8, par q.cmd 24 4, s.lamp⟩] }))) ∧
    (s.passes 0x48 q → tidy q [(8, 8), (16, 4), (20, 4)] → par q.cmd 8 8 % 64 = 0 → par q.cmd 16 4 % 64 = 0 →
      par q.cmd 20 4 % 64 = 0 → par q.cmd 20 4 ≠ 0 → s.power.dumpDone = true → s.power.dumpNone = false →
      par q.cmd 16 4 + par q.cmd 20 4 ≤ s.power.dumpSize →
      exec (.dumpFetch q) s = .next (State.settle ((s.accepted 0x48 q).onDealer fun d => { d with
        fetches := d.fetches ++ [⟨ref 0x48, par q.cmd 8 8, par q.cmd 16 4, par q.cmd 20 4⟩] }))) ∧
    (∀ u : Fin 2, s.passes 0x40 q → tidy q [(8, 1), (9, 1), (16, 8), (24, 4)] → par q.cmd 8 1 = u.val → par q.cmd 9 1 ≤ 2 →
      par q.cmd 24 4 ≠ 0 → par q.cmd 16 8 + par q.cmd 24 4 ≤ s.dataSpace → s.dealer.scans.get u = none →
      exec (.crcScan q) s = .next (State.settle
        ((((((s.accepted 0x40 q).onDealer fun d => { d with
            scans := d.scans.set u (some ⟨ref 0x40, par q.cmd 9 1, par q.cmd 16 8, par q.cmd 24 4⟩) }).setFld (Reg.CRC_STAT u) 0 0 1).setFld
          (Reg.CRC_STAT u) 2 1 (par q.cmd 9 1)).setFld (Reg.CRC_STAT u) 31 16 q.cmd.tag.toNat).setReg (Reg.CRC_DONE u) 0#32)))

/-- DEAL_LOAD, REDEAL_GROUP and TIMING_SET are accepted where their checks hold. A DEAL_LOAD that passes steps 1 to 4 with
no stray byte is accepted and its image waits for verification. So is a REDEAL_GROUP of a group 0 to 3 while no
re-deal is in progress. A TIMING_SET with a RATE 0 to 4 that the Deal permits, SOURCE 0 or 1, and no TIMING_SET in
progress, is accepted and its retime begins, told to a locked partner. (R45, R46, R63, R66, R70, R89, R137) -/
def Obligations.DealAndTimingCommandsAccepted : Prop :=
  ∀ (s : State) (q : Submission),
    (s.passes 0x03 q → tidy q [(8, 8), (16, 4)] →
      exec (.dealLoad q) s = .next (State.settle ((s.accepted 0x03 q).onDeal fun d => { d with
        jobs := d.jobs ++ [⟨s.refOf 0x03 q, none, par q.cmd 8 8, par q.cmd 16 4⟩] }))) ∧
    (s.passes 0x04 q → tidy q [(8, 8), (16, 4), (20, 1)] → par q.cmd 20 1 ≤ 3 → s.deal.redeal = none →
      (∀ j ∈ s.deal.jobs, j.group = none) →
      exec (.redealGroup q) s = .next (State.settle ((s.accepted 0x04 q).onDeal fun d => { d with
        jobs := d.jobs ++ [⟨s.refOf 0x04 q, some (par q.cmd 20 1), par q.cmd 8 8, par q.cmd 16 4⟩] }))) ∧
    (∀ d : Deal, s.passes 0x09 q → tidy q [(8, 1), (9, 1)] → par q.cmd 8 1 ≤ 4 → par q.cmd 9 1 ≤ 1 → s.theDeal = some d →
      d.rateMask.testBit (par q.cmd 8 1) = true → s.timing.retime = none →
      exec (.timingSet q) s = .next (State.settle (s.told 0x09 q ((s.accepted 0x09 q).onTiming fun t => { t with
        retime := some ⟨some (s.refOf 0x09 q), par q.cmd 8 1, par q.cmd 9 1, none, 0, 0, none⟩ }))))

/-- LAYER_COMMIT, LAYER_DISABLE and TRUMP_SELECT become their slots' pending operations. A LAYER_COMMIT that passes steps
1 to 4 with no stray byte and the checks of R102 for its slot's role takes a token and becomes the slot's pending
operation; on slot 0 its trump set is staged and the surface returned at once; one that fails a check completes with
that check's status. A LAYER_DISABLE of a slot 1 to 7 of a declared tile that the ring may use becomes its pending
operation. A TRUMP_SELECT of a page 0 to 15 that every tile's set in force holds aborts older ones on its tiles and
waits for the cut, told to a locked partner. (R63, R66, R102, R103, R108, R121, R122) -/
def Obligations.SlotCommandsAccepted : Prop :=
  ∀ (s : State) (q : Submission) (n : TileId) (sl : Fin 8),
    let c := q.cmd
    let ref (op : Nat) : CmdRef := s.refOf op q
    let s0 := s.taken 0x10 q
    let L := commitLayer c (ref 0x10) s0
    let t := ((s.accepted 0x10 q).onRing q.ring fun x => { x with tokensTaken := (x.tokensTaken + 1) % 2 ^ 32 }).putSlotOp n sl
      ⟨ref 0x10, some L, par c 10 1, par c 32 8, par c 40 4, 0, none⟩
    (∀ e : SlotEntry, s.passes 0x10 q →
      tidy q [(8, 1), (9, 1), (10, 1), (11, 1), (12, 2), (14, 2), (16, 8), (24, 4), (28, 2), (32, 8), (40, 4), (44, 2), (46, 2)] →
      par c 8 1 = n.val → par c 9 1 = sl.val → s.slotEntry n sl = some e →
      s.dramGood (par c 16 8) 64 = true →
      (e.role ≠ 1 → sl ≠ 0 → exec (.layerCommit q) s = .next (State.settle
        (match firstFail (commitHead q.ring c s0 ++ surfaceChecks c e s0 ++ [fenceCheck c s0] ++
            (if e.role = 2 then videoChecks c e s0 else graphicChecks c s0) ++ [reserveCheck s0]) with
         | none => t
         | some (st, d) => s0.complete (ref 0x10) st d 0))) ∧
      (e.role = 1 → sl = 0 → s.dramGood (par c 16 8) (rd (s.dramRead (par c 16 8) 64) 8 4) = true →
        let img := s0.dramRead L.surface (rd (s0.dramRead L.surface 64) 8 4)
        let staged := t.onChurn n fun c => { c with staged := some ⟨rd img 16 4, rd img 21 1, img⟩ }
        let returned := staged.retire n 0 L 7
        exec (.layerCommit q) s = .next (State.settle
          (match firstFail (commitHead q.ring c s0 ++ trumpChecks c s0 ++ [fenceCheck c s0, reserveCheck s0]) with
           | none => returned.trumpRecord n 1 (returned.churn n).page (rd img 16 4)
           | some (st, d) => s0.complete (ref 0x10) st d 0)))) ∧
    (∀ e : SlotEntry, s.passes 0x11 q → tidy q [(8, 1), (9, 1)] → par c 8 1 = n.val → par c 9 1 = sl.val → sl ≠ 0 →
      s.declared n = true → s.slotEntry n sl = some e → e.ringMask.testBit q.ring.val = true →
      exec (.layerDisable q) s = .next (State.settle ((s.accepted 0x11 q).putSlotOp n sl ⟨ref 0x11, none, 0, 0, 0, 0, none⟩))) ∧
    (s.passes 0x13 q → tidy q [(8, 2), (10, 1)] → par c 10 1 ≤ 15 →
      (∀ k : TileId, (par c 8 2).testBit k.val = true → s.declared k = true ∧
        par c 10 1 ≤ ((s.churn k).trump.map (·.pageCount)).getD 0) →
      let cleared := forEach (s.trumpSels.filter fun x => decide (x.mask &&& par c 8 2 ≠ 0)) State.abortTrumpSel (s.accepted 0x13 q)
      exec (.trumpSelect q) s = .next (State.settle (s.told 0x13 q
        { cleared with trumpSels := cleared.trumpSels ++ [⟨ref 0x13, par c 8 2, par c 10 1⟩] })))

/-- SKIM_ZONES_SET stages its zones and SKIM_MAINT_WINDOW waits for the cut. A SKIM_ZONES_SET with COUNT at most 32 and an
address aligned to 16, whose table lies readable in a partition of KIND 1 or 4, is encoded as R163 gives and names
declared tiles alone, is accepted; a set staged before completes ABORTED, and this one is staged; the latency
tolerance is 10 µs until the read of the table is over (R170: a free time, log 74). COUNT 0 with address 0 stages no
zone. A SKIM_MAINT_WINDOW of declared tiles for at most 3,600 s is accepted and waits for the cut. (R63, R66, R164,
R169, R170) -/
def Obligations.SkimCommandsAccepted : Prop :=
  ∀ (s : State) (q : Submission),
    let c := q.cmd
    let a := par c 8 8
    let n := par c 16 1
    let entries := entriesOf (s.dramRead a (80 * n)) 80
    let told (z : List SkimZone) (readEnd : Nat) (t : State) : State := t.onSkim fun k => { k with
      staged := some (s.refOf 0x18 q, z), readUntil := readEnd }
    let cleared : State := match s.skim.staged with
      | some (old, _) => (s.accepted 0x18 q).completeWith old .aborted
      | none => s.accepted 0x18 q
    (s.passes 0x18 q → tidy q [(8, 8), (16, 1)] → 1 ≤ n → n ≤ 32 → a % 16 = 0 → s.openPart a (80 * n) = true → s.dramGood a (80 * n) = true →
      (∀ i < n, zoneOk (entryOf (s.dramRead a (80 * n)) 80 i) i = true) →
      (∀ e ∈ entries, ∀ k : TileId, (rd e 2 2).testBit k.val = true → s.declared k = true) →
      exec (.skimZonesSet q) s = .next (State.settle (told (entries.map parseZone) (cleared.lamp + cleared.free) cleared).useFree)) ∧
    (s.passes 0x18 q → tidy q [(8, 8), (16, 1)] → n = 0 → a = 0 →
      exec (.skimZonesSet q) s = .next (State.settle (told [] cleared.lamp cleared))) ∧
    (s.passes 0x19 q → tidy q [(8, 2), (10, 2)] → par c 10 2 ≤ 3600 →
      (∀ k : TileId, (par c 8 2).testBit k.val = true → s.declared k = true) →
      exec (.skimMaintWindow q) s = .next (State.settle ((s.accepted 0x19 q).onSkim fun k => { k with
        maint := k.maint ++ [⟨s.refOf 0x19 q, par c 8 2, par c 10 2⟩] })))

/-- TILE_ADMIT, TILE_RETIRE, TILE_CAL_LOAD, TILE_CAL_READ and LINK_TEST begin where their checks hold. On a tile that no
admission or retirement occupies: TILE_ADMIT, in TRAINING with its lanes locked, the declared identity (on a partnered
chip one with a second return output), and in LIT a hot-swap tile, sends ADMIT with SEQ 0 and drops the parcels of an
earlier attempt; TILE_RETIRE of an admitted tile, and in the lit set a hot-swap one, begins the retirement.
TILE_CAL_LOAD for the chip, or for the flash of a tile that has it while NV writes are permitted, becomes the tile's
job. TILE_CAL_READ asks for the first 48 KiB, or waits for a read of the tile under way. LINK_TEST on permitted lanes
sends LANE test start. (R63, R66, R70, R183, R223, R224, R228, R230, R328) -/
def Obligations.TileCommandsAccepted : Prop :=
  ∀ (s : State) (q : Submission) (n : TileId),
    let c := q.cmd
    let p := s.port n
    let ref (op : Nat) : CmdRef := s.refOf op q
    let len := par c 24 4
    let free := p.admission = none ∧ p.retirement = none
    (s.passes 0x20 q → tidy q [(8, 1)] → par c 8 1 = n.val → s.portOn n = true → p.state = 1 → p.retLock = true →
      s.chipLanes.any p.lock = true → (s.dev.state = .lit → (s.tileEntry n).hotSwap = true) → s.identWrong n = false →
      s.capsWrong n = false → free →
      let begun := (s.accepted 0x20 q).onPort n fun p => { p with
        nextSeq := 0, admission := some ⟨some (ref 0x20), s.lamp, false⟩, readmit := false, tracks := p.tracks.filter (!·.admits) }
      exec (.tileAdmit q) s = .next (State.settle (s.told 0x20 q (begun.control n 5 0 (s.admitPayload n))))) ∧
    (s.passes 0x21 q → tidy q [(8, 1)] → par c 8 1 = n.val → p.admitted = true → (s.inLit n = true → (s.tileEntry n).hotSwap = true) → free →
      exec (.tileRetire q) s = .next (State.settle (s.told 0x21 q
        ((s.accepted 0x21 q).onPort n fun p => { p with retirement := some ⟨some (ref 0x21), 0, 0, false⟩ })))) ∧
    (∀ part : PartEntry, s.passes 0x22 q → tidy q [(8, 1), (9, 1), (16, 8), (24, 4)] → par c 8 1 = n.val → (s.tileEntry n).present = true →
      s.partEntry (s.tileEntry n).calPart = some part → part.holds (par c 16 8) len = true → (s.phot n).calJob = none → p.flash = none →
      (par c 9 1 = 0 → par c 16 8 % 64 = 0 → len = calLength (s.tileEntry n) →
        exec (.tileCalLoad q) s = .next (State.settle ((s.accepted 0x22 q).onPhot n fun p => { p with
          calJob := some ⟨ref 0x22, par c 16 8, len, none, 0, false, false, false⟩ }))) ∧
      (par c 9 1 = 1 → (∃ i, p.ident = some i ∧ i.caps.toNat.testBit 1 = true) → len ≠ 0 → s.flashThermal n = true →
        exec (.tileCalLoad q) s = .next (State.settle (s.told 0x22 q ((s.accepted 0x22 q).onPort n fun p => { p with
          flash := some ⟨ref 0x22, par c 16 8, len, 0, none⟩ }))))) ∧
    (s.passes 0x23 q → tidy q [(8, 1), (16, 8), (24, 4)] → par c 8 1 = n.val → s.declared n = true → len ≠ 0 →
      let job : ReadJob := ⟨ref 0x23, par c 16 8, len, 0, 0, 0, [], true⟩
      exec (.tileCalRead q) s = .next (State.settle (s.told 0x23 q (if p.read = none
        then (s.accepted 0x23 q).askFlash n job 0 (min len 49152)
        else (s.accepted 0x23 q).onPort n fun p => { p with readWait := p.readWait ++ [job] })))) ∧
    (s.passes 0x28 q → tidy q [(8, 1), (9, 1), (10, 2)] → par c 8 1 = n.val → 1 ≤ par c 9 1 → par c 9 1 ≤ 7 → par c 10 2 ≠ 0 →
      s.testMaskOk n (par c 9 1) = true → p.test = none →
      let begun := (s.accepted 0x28 q).onPort n fun p => { p with
        test := some ⟨some (ref 0x28), par c 9 1, par c 10 2, false, par c 10 2, 0, par c 9 1⟩ }
      exec (.linkTest q) s = .next (State.settle (s.told 0x28 q
        (begun.control n 9 2 (le 1 (par c 9 1) ++ le 1 0 ++ le 2 (par c 10 2))))))

/-- LOOP_LOAD, LOOP_SWAP, LOOP_MODE and CAL_RUN are accepted, and a load writes the bank not in force. With its loop in
the Deal and free of a load and a swap, LOOP_LOAD captures an image that lies in a partition the loop may use: a valid
one is held for the load, an invalid one completes INVALID with STAT_INFO 16; LOOP_SWAP of loops whose other bank is
loaded waits for the sample tick; LOOP_MODE 0 to 3 (cascade with two inputs; a loaded bank for any but 0) waits for it
too. LOOP_LOAD_DONE writes the bank that is not in force and completes OK; LOOP_MODE_TIMEOUT completes TIMEOUT, 1,000
ms after acceptance at the latest. CAL_RUN of items 0 to 7, of sink groups the Deal gives, begins at the next round.
(R63, R66, R257, R265, R270, R271, R284) -/
def Obligations.LoopCommandsAccepted : Prop :=
  ∀ (s : State) (q : Submission) (l : LoopId),
    let c := q.cmd
    let ref (op : Nat) : CmdRef := s.refOf op q
    let a := par c 16 8
    let n := par c 24 4
    let x := s.loop l
    (∀ e : LoopEntry, s.passes 0x30 q → tidy q [(8, 1), (16, 8), (24, 4)] → par c 8 1 = l.val → s.loopEntry l = some e → a % 64 = 0 →
      s.loopPart e a n = true → n = bankLength e.order → x.load = none → x.swap = none → s.dramGood a n = true →
      exec (.loopLoad q) s = .next (State.settle (if bankOk (s.dramRead a n) e = true
        then (s.accepted 0x30 q).onLoop l fun lp => { lp with load := some (ref 0x30, s.dramRead a n) }
        else (s.taken 0x30 q).complete (ref 0x30) .invalid 16 0))) ∧
    (∀ (r : CmdRef) (img : Bytes), s.on → x.load = some (r, img) →
      exec (.loopLoadDone l) s = .next (State.settle (State.completeOk r 0 (s.onLoop l fun lp => { lp with
        load := none, imgA := if x.bankB then some img else x.imgA, imgB := if x.bankB then x.imgB else some img })))) ∧
    (s.passes 0x31 q → tidy q [(8, 8)] → par c 8 8 ≠ 0 →
      (∀ k : LoopId, (par c 8 8).testBit k.val = true → (s.loopEntry k).isSome = true ∧ (s.loop k).otherBank.isSome = true ∧
        (s.loop k).load = none ∧ (s.loop k).swap = none) →
      exec (.loopSwap q) s = .next (State.settle (forEach (maskLoops (par c 8 8))
        (fun k s => s.onLoop k fun lp => { lp with swap := some (ref 0x31) }) (s.accepted 0x31 q)))) ∧
    (∀ e : LoopEntry, s.passes 0x32 q → tidy q [(8, 1), (9, 1)] → par c 8 1 = l.val → par c 9 1 ≤ 3 → s.loopEntry l = some e →
      (par c 9 1 = 3 → 2 ≤ e.ins.length) → (par c 9 1 ≠ 0 → x.bank.isSome = true) → x.modeCmd = none →
      exec (.loopMode q) s = .next (State.settle ((s.accepted 0x32 q).onLoop l fun lp => { lp with
        modeCmd := some (ref 0x32, par c 9 1, s.lamp) }))) ∧
    (∀ (r : CmdRef) (m since : Nat), s.on → x.modeCmd = some (r, m, since) →
      exec (.loopModeTimeout l) s = .next (State.settle (State.completeWith r .timeout
        { s with lamp := max s.lamp (since + 100000000), ctl := { s.ctl with loops := s.ctl.loops.set l { x with modeCmd := none } } }))) ∧
    (s.passes 0x38 q → tidy q [(8, 4)] → par c 8 4 ≠ 0 → par c 8 4 < 256 →
      (∀ g < 4, (par c 8 4).testBit (2 + g) = true →
        ∃ d r, s.theDeal = some d ∧ d.accent = some r ∧ (r.1.getD g 0 = 1 ∨ r.1.getD g 0 = 2)) →
      s.house.cal = none → s.house.entry = none → s.house.save = none → s.house.restore = none →
      exec (.calRun q) s = .next (State.settle ((s.accepted 0x38 q).onHouse fun h => { h with
        cal := some ⟨ref 0x38, par c 8 4, (s.reg Reg.HK_CAL_TOL).toNat, h.round + 1, none, none⟩ })))

/-- FW_STAGE, FW_SWITCH, LIFECYCLE_ADVANCE, PARTNER_JOIN and PARTNER_LEAVE begin where their checks hold. With the host
ready, FW_STAGE of a valid image for the slot that is not ACTIVE marks the slot not valid and stages it, and one of
any other image completes with its status; FW_STAGE_DONE makes it valid and completes with its VERSION. FW_SWITCH to a
valid slot, with neither running, makes a core restart from it. LIFECYCLE_ADVANCE, its host ready, with an
authorisation that passes every check of R393 queues its fuse operations, and else completes with the first failed
check's status. With a ROLE that is not 0, PARTNER_JOIN begins to join, or completes OK where the pair is locked;
PARTNER_LEAVE waits for the tick, and a locked partner is told. (R63, R66, R328, R329, R337, R393, R396, R397) -/
def Obligations.FirmwareAndPartnerCommandsAccepted : Prop :=
  ∀ (s : State) (q : Submission),
    let c := q.cmd
    let ref (op : Nat) : CmdRef := s.refOf op q
    let n := par c 8 1
    (∀ b : Bytes, s.passes 0x50 q → tidy q [(8, 1), (16, 8), (24, 4)] → n ≤ 1 → n ≠ s.power.active → s.power.stage = none → s.power.switch = none →
      s.host.linkUp = true → s.hostReady = true →
      exec (.fwStage q (some b)) s = .next (State.settle (if s.judgeStage (par c 24 4) b = .ok
        then (s.accepted 0x50 q).onPower fun p => { p with
          stage := some ⟨ref 0x50, n, rd b 16 4, rd b 20 1⟩
          slots := p.slots.set (slotIx n) { p.slots.get (slotIx n) with valid := false }
          marked := p.marked ||| (1#2 <<< n) }
        else (s.taken 0x50 q).complete (ref 0x50) (s.judgeStage (par c 24 4) b) 16 0))) ∧
    (∀ j : StageJob, s.on → s.power.stage = some j → s.power.absent = false →
      exec .fwStageDone s = .next (State.settle (State.completeOk j.ref j.version (s.onPower fun p => { p with
        stage := none, slots := p.slots.set (slotIx j.slot) ⟨true, j.version, j.secVer⟩
        marked := p.marked &&& ~~~(1#2 <<< j.slot) })))) ∧
    (s.passes 0x51 q → tidy q [(8, 1)] → n ≤ 1 → s.power.valid n = true → s.power.stage = none → s.power.switch = none →
      exec (.fwSwitch q) s = .next (State.settle (((s.accepted 0x51 q).onPower fun p => { p with
        switch := some ⟨ref 0x51, n, p.active, s.lamp, none⟩ }).coreRestart 3 (some n)))) ∧
    (∀ b : Bytes, s.passes 0x58 q → tidy q [(8, 1), (16, 8), (24, 4)] → n ≤ 3 → par c 16 8 % 64 = 0 → 192 ≤ par c 24 4 →
      par c 24 4 ≤ 512 →
      s.host.linkUp = true → s.hostReady = true →
      exec (.lifecycleAdvance q (some b)) s = .next (State.settle (match firstFail (s.authChecks n (par c 24 4) b) with
        | none => (s.accepted 0x58 q).onPower fun p => { p with fuseJobs := p.fuseJobs ++ [⟨ref 0x58, n, authOps b, !s.power.absent⟩] }
        | some (st, d) => (s.taken 0x58 q).complete (ref 0x58) st d 0))) ∧
    (s.passes 0x60 q → tidy q [] → s.role ≠ 0 → s.partner.state ≠ 1 →
      exec (.partnerJoin q) s = .next (State.settle (if s.partner.state = 2 then (s.accepted 0x60 q).completeOk (ref 0x60) 0
        else (s.accepted 0x60 q).onPartner fun p => { p with
          state := 1, join := some (ref 0x60, s.lamp), joinStep := 0, peer := none, peerAdmitted := 0 }))) ∧
    (s.passes 0x61 q → tidy q [] → s.role ≠ 0 → s.partner.leave = none →
      let t := (s.accepted 0x61 q).onPartner fun p => { p with leave := some (ref 0x61) }
      exec (.partnerLeave q) s = .next (State.settle (if s.partner.state = 2 then t.emit (.partner .leave) else t)))

/-- A malformed header completes INVALID, and a command that waits is released or times out. A readable submission whose
header step 1 turns away completes INVALID with the first bad byte in DETAIL, an unknown opcode with 0. A command that
waits at step 3 and whose wait is met goes on from step 4 with its own checks and a place of its own in the order of
acceptance (here the NOP, accepted and completed); one whose wait is not met completes TIMEOUT, 1,000 ms after it was
read at the latest. (R63, R66, R73) -/
def Obligations.StepOneAndTheWaits : Prop :=
  (∀ (s : State) (op : Byte) (q : Submission) (d : Nat), s.readable op.toNat q → headerFault op.toNat q.cmd = some d →
    exec (.unknownOpcode op q) s = .next (State.settle ((s.fetched q).complete (s.refOf op.toNat q) .invalid d 0)) ∧
    (¬ knownOpcodes.contains op.toNat → d = 0)) ∧
  (∀ (s : State) (r : RingId) (w : WaitingCmd) (data : HostRead), s.on → (s.ring r).waiting = some w → w.ref.ring = r → w.ref.opcode = 0x01 → w.reading = false →
    s.waitsMet r w.cmd = true → legalIn 0x01 s.dev.state = true → unusedByte [] w.cmd = none →
    let ref := { w.ref with id := s.dealer.nextId }
    let taken := ((s.onRing r fun x => { x with waiting := none }).onDealer fun d => { d with
      nextId := d.nextId + 1 }).enterWindow 0x01 w.cmd ref
    exec (.commandWaitRelease r data) s = .next (State.settle (((taken.onRing r fun x => { x with
      accepted := x.accepted ++ [ref], acceptedCount := (x.acceptedCount + 1) % 2 ^ 32 })).completeOk ref 0))) ∧
  (∀ (s : State) (r : RingId) (w : WaitingCmd), s.on → (s.ring r).waiting = some w → w.reading = false → s.waitsMet r w.cmd = false →
    exec (.commandWaitTimeout r) s = .next (State.settle (State.completeWith w.ref .timeout
      (({ s with lamp := max s.lamp (w.since + 100000000) }).onRing r fun x => { x with waiting := none }))))

/-- A copy, a summary, a fetch, a scan and a verification end and complete their commands. With the host ready,
SURFACE_COPY_DONE with all bytes writes them and completes OK; SURFACE_COPY_TIMEOUT writes what arrived and completes
TIMEOUT. SUMMARY_WRITTEN writes the summary to the host and completes with the low lamp clock; DUMP_FETCH_DONE writes
the fetched bytes and completes with LENGTH. CRC_SCAN_DONE of a good range reports the check value, posts the CRC
record and completes with it. DEAL_VERIFY_DONE of an image that verifies puts a DEAL_LOAD's Deal in force and
completes with DEAL_SEQ; one that fails completes with its status. (R43, R75, R135, R364, R401, R402, R406, R435) -/
def Obligations.JobsReachTheirEnd : Prop :=
  (∀ (s : State) (j : CopyJob) (js : List CopyJob) (data : Bytes), s.on → s.dealer.copies = j :: js →
    let written : State := ({ s with dealer := { s.dealer with copies := js } }).dramWrite j.dst (data.take j.len)
    (s.hostReady = true → data.length = j.len → exec (.surfaceCopyDone data) s = .next (State.settle (written.completeWith j.ref .ok))) ∧
    exec (.surfaceCopyTimeout data) s = .next (State.settle (written.completeWith j.ref .timeout))) ∧
  (∀ (s : State) (j : SyncJob) (js : List SyncJob), s.on → s.dealer.syncs = j :: js → s.host.linkUp = true → s.hostReady = true → j.rearm = false →
    exec .summaryWritten s = .next (State.settle
      (State.completeOk j.ref j.lampLow { s with dealer := { s.dealer with syncs := js }, outbox := s.outbox ++ [Emission.hostWrite j.addr j.summary] }))) ∧
  (∀ (s : State) (j : FetchJob) (js : List FetchJob) (p : PartEntry), s.on → s.dealer.fetches = j :: js → s.dumpPart = some p →
    s.host.linkUp = true → s.hostReady = true → s.dramGood (p.base + j.off) j.len = true →
    exec .dumpFetchDone s = .next (State.settle (State.completeOk j.ref j.len { s with
      dealer := { s.dealer with fetches := js }, outbox := s.outbox ++ [Emission.hostWrite j.dst (s.dramRead (p.base + j.off) j.len)] }))) ∧
  (∀ (s : State) (u : Fin 2) (j : ScanJob), s.on → s.dealer.scans.get u = some j → s.dramGood j.start j.len = true →
    let v := checkValue j.alg (s.dramRead j.start j.len)
    let shown := (((((s.onDealer fun d => { d with scans := d.scans.set u none }).setFld (Reg.CRC_STAT u) 0 0 0).setFld
      (Reg.CRC_STAT u) 15 8 0).setReg (Reg.CRC_RESULT u) (BitVec.ofNat 32 v)).setReg (Reg.CRC_DONE u) (BitVec.ofNat 32 (s.goodLength j.start j.len)))
    exec (.crcScanDone u) s = .next (State.settle ((shown.post 0xB0 (336 + u.val)
      (le 1 j.alg ++ le 1 0 ++ zeros 2 ++ le 4 v ++ le 2 j.ref.tag)).completeOk j.ref v))) ∧
  (∀ (s : State) (j : DealJob) (js : List DealJob) (b : Bytes), s.on → s.deal.jobs = j :: js → s.power.absent = false → s.host.linkUp = true →
    s.hostReady = true → j.group = none →
    let left (st : Status) : State := s.onDeal fun d => { d with jobs := js, lastResult := st.code }
    exec (.dealVerifyDone (some b)) s = .next (State.settle (if s.judgeImage j b = .ok
      then (((left .ok).dealInForce (parseDeal b) 3).enterDealt 0x05).completeOk j.ref (parseDeal b).seq
      else (left (s.judgeImage j b)).complete j.ref (s.judgeImage j b)
        (if s.judgeImage j b = .invalid ∧ rd b 8 4 ≠ j.len then 16 else 0xFF) 0)))

/-- The sample tick, the cut fence, the cut, the retry horizon and the frame tick, each with its time and what it closes
and opens. With the generator started: SAMPLE_TICK j comes at S(m, j), runs the loops and sends their outputs.
CUT_FENCE comes 50 µs before the cut and reads the fence words, but not in HOLD. CUT comes 250 µs before the next
tick, after the frame's sample ticks and fence, sets the cut count, closes the frame and opens the next. RETRY_HORIZON
comes after its cut, for every port. FRAME_TICK comes after the horizon, at the next tick: it ends a decided retime
and a re-deal, places the tick, does what the ended frame leaves, makes groups local, and starts the churns, the TICK
blocks and the matrix. (R14, R15, R16, R52, R81, R96, R105, R212, R256) -/
def Obligations.TicksAndCutsInOrder : Prop :=
  (∀ (s : State) (missed : List LoopId), s.on → s.timing.started = true → s.timing.nextSample ≤ 7 →
    let j := s.timing.nextSample
    let due := { s with lamp := max s.lamp (s.timing.lastTick + j * s.timing.period / 8), timing := { s.timing with
      sample := j, nextSample := j + 1, sampleCnt := (s.timing.sampleCnt + 1) % 65536 } }
    exec (.sampleTick missed) s = .next (State.settle (due.trackOutputs.ctlTick missed).sendOutputs)) ∧
  (∀ s : State, s.on → s.timing.started = true → s.timing.fenced = false → s.timing.pastCut = false →
    let due := { s with lamp := max s.lamp (s.timing.lastTick + s.timing.period - 25000 - 5000), timing := { s.timing with fenced := true } }
    exec .cutFence s = .next (State.settle (if s.dev.state = .hold then due else due.readFences))) ∧
  (∀ s : State, s.on → s.timing.started = true → s.timing.pastCut = false →
    let x := (s.samplesLeft (8 - s.timing.nextSample)).cutFence
    exec .cut s = .next (State.settle (State.cutOpen (State.cutClose { x with
      lamp := max x.lamp (x.timing.lastTick + x.timing.period - 25000)
      timing := { x.timing with pastCut := true, cutCnt := (x.timing.cutCnt + 1) % 65536 } }))) ∧
    exec .retryHorizon s = .next (State.settle s.cutNow.retryHorizon)) ∧
  (∀ s : State, s.on → s.timing.started = true → s.timing.pastCut = true → s.timing.pastHorizon = false →
    exec .retryHorizon s = .next (State.settle (forEach tileIds (fun n s => s.horizonPort n)
      { s with lamp := max s.lamp s.horizonAt, timing := { s.timing with pastHorizon := true } }))) ∧
  (∀ s : State, s.on →
    let x : State := if s.timing.started then
        (let h := s.horizonNow
         if h.timing.started then h.advanceTo h.nextTick else h)
      else s
    let r := x.retimeTick
    let y := (r.1.redealTick.setupTick.placeTick.tickClose).localTick.noticeTick.partnerTick
    let frames := forEach tileIds (State.composeTick y.faults.localGroups) y
    exec .frameTick s = .next (State.settle (forEach tileIds (fun n t => t.sendTick r.2 n) frames).scanTick))

/-- A free-running generator places tick m at E + floor(m × 100,000,000 / f), however many ticks it has placed. Let the
generator be started, not follow SYNC_IN nor take its timing from a partner, and stand where R78 places tick m of its
epoch, before the next tick. Then placing the tick moves the lamp clock to the next tick, counts the frame up modulo
2^32, and leaves the generator where R78 places tick m + 1 of the same epoch, with the period that R78 gives. (R78,
R79) -/
def Obligations.FreeRunningTicksDoNotDrift : Prop :=
  ∀ s : State, s.timing.started = true → s.follows = false → s.partner.timing = none →
    s.timing.lastTick = tickAt s.timing.epoch (rateHz s.timing.rate) s.timing.m → s.timing.period = s.timing.freePeriod →
    s.lamp ≤ s.timing.lastTick + s.timing.period → s.timing.epoch ≤ s.timing.lastTick →
    let t := s.placeTick
    t.timing.lastTick = tickAt s.timing.epoch (rateHz s.timing.rate) (s.timing.m + 1) ∧ t.lamp = t.timing.lastTick ∧
    t.timing.lastTick = tickAt t.timing.epoch (rateHz t.timing.rate) t.timing.m ∧ t.timing.period = t.timing.freePeriod ∧
    t.timing.epoch = s.timing.epoch ∧ t.timing.frame = (s.timing.frame + 1) % 2 ^ 32 ∧
    t.timing.m = s.timing.m + 1 ∧ t.timing.pastCut = false ∧ t.timing.nextSample = 0

/-- A row that names one effect of the cut performs the present cut when the cut has that effect. RETIME_DECISION of an
undecided TIMING_SET, REDEAL_TAKE_EFFECT of a verified re-deal, LAYER_COMMIT_TIMEOUT of a fenced commit, POT_PERSIST,
CAL_ENTRY_COMPLETE of a verified table, SKIM_BLIND_ENTRY and MAINT_WINDOW_CLOSE of an open window, sent when the
coming cut decides, re-deals, times out, persists, enters, blinds or closes, answer the state after that cut;
otherwise they change nothing but what follows by itself. (R47, R90, R104, R154, R169, R179, R184) -/
def Obligations.EffectsOfTheComingCut : Prop :=
  ∀ s : State, s.on →
    let c := s.cutNow
    let cutsIf (p : Prop) [Decidable p] : Host.Outcome State Fault Refusal := .next (State.settle (if p then c else s))
    (∀ r : Retime, s.timing.retime = some r → r.decided = none →
      exec .retimeDecision s = cutsIf ((c.timing.retime.any fun r => r.decided.isSome) = true)) ∧
    (∀ r : Redeal, s.deal.redeal = some r → r.taken = false →
      exec .redealTakeEffect s = cutsIf ((c.deal.redeal.any (·.taken)) = true)) ∧
    (∀ (n : TileId) (sl : Fin 8) (o : SlotOp), (s.churn n).op sl = some o → o.layer.isSome = true → o.fenceAddr ≠ 0 →
      exec (.layerCommitTimeout n sl) s = cutsIf (((c.ring o.ref.ring).window.any fun w =>
        decide (w.id = o.ref.id) && w.done.any fun d => decide (d.status = .timeout)) = true)) ∧
    (∀ n : TileId, (s.phot n).persisted = false → exec (.potPersist n) s = cutsIf ((c.phot n).persisted = true)) ∧
    (∀ (n : TileId) (j : CalJob), (s.phot n).calJob = some j → j.table.isSome = true →
      exec (.calEntryComplete n) s = cutsIf ((c.phot n).calJob.isNone = true)) ∧
    (s.skim.blind = false → exec .skimBlindEntry s = cutsIf (c.skim.blind = true)) ∧
    (∀ n : TileId, (s.skim.maintEnd.get n).isSome = true → exec (.maintWindowClose n) s = cutsIf ((c.skim.maintEnd.get n).isNone = true))

/-- Edges of SYNC_IN, the loss of lock, the SYNC_OUT pulse and the end of a re-phase window. An edge of the polarity not
selected does nothing. A first edge of one that is followed is noted; a valid one within LOCKED measures its interval
over DIV, counts, and leaves its phase error to be corrected; the matrix sees either. SYNC_LOCK_LOST while CAPTURED or
LOCKED sets LOSS, counts it and free-runs from the last tick, the next one placed by R78's T(1). SYNC_OUT_PULSE raises
the pin LEAD before a due tick, with a Deal in force, and lowers it after OUT_WIDTH. RETIME_WINDOW_END closes the
window at its end. (R83, R84, R85, R92, R306) -/
def Obligations.SyncInAndOut : Prop :=
  ∀ s : State, s.on →
    (∀ falling : Bool, falling ≠ s.bit Reg.TICK_SYNC_CFG 2 → exec (.syncInEdge falling) s = .next s.settle) ∧
    (∀ falling : Bool, falling = s.bit Reg.TICK_SYNC_CFG 2 → s.timing.started = true →
      (s.follows = false → exec (.syncInEdge falling) s = .next (State.settle s.matrixEdge)) ∧
      (s.follows = true → s.timing.lock.state = 0 → s.timing.lock.lastEdge = none →
        exec (.syncInEdge falling) s = .next (State.settle (State.matrixEdge { s with
          timing := { s.timing with lock := { s.timing.lock with lastEdge := some s.lamp, validRun := 0 } } }))) ∧
      (∀ l : Nat, s.follows = true → s.timing.lock.state = 2 → s.timing.lock.lastEdge = some l → s.lamp ≤ s.lockLimit →
        999 * (s.syncDiv * s.timing.period) ≤ 1000 * (s.lamp - l) → 1000 * (s.lamp - l) ≤ 1001 * (s.syncDiv * s.timing.period) →
        exec (.syncInEdge falling) s = .next (State.settle (State.matrixEdge { s with
          timing := { s.timing with lock := { s.timing.lock with
            lastEdge := some s.lamp, validRun := min 8 (s.timing.lock.validRun + 1), measured := (s.lamp - l) / s.syncDiv
            inWindow := if s.phaseError.natAbs ≤ 100 then min 8 (s.timing.lock.inWindow + 1) else 0
            err := s.phaseError, remaining := s.phaseError } } })))) ∧
    (s.follows = true → 1 ≤ s.timing.lock.state →
      exec .syncLockLost s = .next (State.settle (({ s with lamp := max s.lamp s.lockLimit }.setFld Reg.TICK_SYNC_STAT 2 2 1).onTiming fun t =>
        let u := { t with lock := { err := s.timing.lock.err }, epoch := t.lastTick, m := 0, lossCount := t.lossCount + 1 }
        { u with period := u.freePeriod }))) ∧
    (s.dev.state.dealtOrLater = true → s.timing.started = true → s.bit Reg.TICK_SYNC_CFG 8 = true → s.timing.syncOut = false →
      s.nextFrame % 2 ^ s.fld Reg.TICK_SYNC_CFG 10 9 = 0 →
      let now := max s.lamp (s.nextTick - min 100000 (s.fld Reg.TICK_SYNC_OUT_LEAD 16 0))
      exec (.syncOutPulse true) s = .next (State.settle { s with
        lamp := now, timing := { s.timing with syncOut := true, syncOutAt := now }, outbox := s.outbox ++ [Emission.syncOut true] })) ∧
    (s.timing.syncOut = true →
      exec (.syncOutPulse false) s = .next (State.settle { s with
        lamp := max s.lamp (s.timing.syncOutAt + 100 * max 1 (s.fld Reg.TICK_SYNC_CFG 23 16))
        timing := { s.timing with syncOut := false }, outbox := s.outbox ++ [Emission.syncOut false] })) ∧
    (∀ e : Nat, s.timing.rephaseEnd = some e →
      exec .retimeWindowEnd s = .next (State.settle { s with lamp := max s.lamp e, timing := { s.timing with rephaseEnd := none } }))

/-- A churn line, a skim setup's end, a calibration's checks and an object list. CHURN_LINE of a composing churn's next
line comes at its start and is composed, or sent as REPEAT where the churn is drained or a cause holds.
SKIM_SETUP_DONE ends the setup, its time shown; after an uncorrectable read it is abandoned and raises 7 and 36.
CAL_CHECKS_COMPLETE of a good image makes the load's table ready to enter; of a bad one completes INVALID. OBJECT_LIST
of a wrong length is a format error; a whole valid list of one packet is done, an invalid one counted bad. (R96, R115,
R126, R149, R152, R167, R183) -/
def Obligations.LinesSetupsAndTables : Prop :=
  ∀ s : State, s.on →
    (∀ (n : TileId) (y : Nat) (env : LineEnv), (s.churn n).composing = true → s.timing.pastCut = false →
      y = (match (s.churn n).line with | some l => l + 1 | none => 0) → y < (s.tileEntry n).height →
      let due := { s with lamp := max s.lamp (s.timing.lastTick + 1200 + y * ((s.tileEntry n).width + 16) / 8) }
      let causes := due.repeatCauses n y env
      let seen := (due.lineFaults n y env).trumpLineCheck n y env
      exec (.churnLine n y env) s = .next (State.settle
        (if (s.churn n).drained then (due.repeatLine n y 0 0).lineDone n y
         else if causes.1 ≠ 0 then (seen.repeatLine n y causes.1 causes.2).lineDone n y
         else (seen.composeLine n y env).lineDone n y))) ∧
    (∀ (u : SkimSetup) (counts : Nat), s.skim.setup = some u → u.done = false →
      let shown := ({ s with lamp := max s.lamp (u.begun + counts) }).setFld Reg.SKM_SETUP 15 0 (min 65535 counts)
      exec (.skimSetupDone counts true) s = .next (State.settle
        ((((shown.onSkim fun k => { k with setup := some { u with done := true, abandoned := true } }).setFld Reg.SKM_EVT 8 8 1).raise 7 3).raise 36 0)) ∧
      ((∀ n : TileId, (u.tiles.get n).outOfField = false ∧ (u.tiles.get n).merged = false) →
        exec (.skimSetupDone counts false) s = .next (State.settle (shown.onSkim fun k => { k with setup := some { u with done := true } })))) ∧
    (∀ (n : TileId) (j : CalJob), (s.phot n).calJob = some j → j.table = none →
      let h := s.dramRead j.addr 64
      s.dramGood j.addr j.len = true → exec (.calChecksComplete n) s = .next (State.settle
        (if s.calContentOk (s.tileEntry n) j.addr j.len = true then s.onPhot n fun p => { p with
          calJob := some { j with table := some ⟨j.addr, j.len, rd h 10 1, rd h 12 4⟩ } }
         else (s.onPhot n fun p => { p with calJob := none }).complete j.ref .invalid 16 0))) ∧
    (∀ p : Bytes, s.feed.state = 2 →
      let counted := s.setFld Reg.FEED_CNT 31 0 (s.fld Reg.FEED_CNT 31 0 + 1)
      (p.length < 16 ∨ p.length ≠ 16 + 64 * rd p 6 1 → exec (.objectListPacket p) s = .next (State.settle (counted.feedBad false))) ∧
      (16 ≤ p.length → p.length = 16 + 64 * rd p 6 1 → s.skim.asm = none → rd p 3 1 = 1 → rd p 2 1 = 0 →
        let a : SkimAsm := ⟨rd p 0 2, 1, rd p 4 2, false, [(0, p)]⟩
        (a.valid s.nextCut = true → exec (.objectListPacket p) s = .next (State.settle (counted.onSkim fun k => { k with
          done := k.done ++ [⟨rd p 0 2, a.records⟩] }))) ∧
        (a.valid s.nextCut = false → exec (.objectListPacket p) s = .next (State.settle counted.badList))))

/-- A good VIDEO_LINE writes its pixels and its fence word, and nothing else; a rejected one writes nothing. With the feed
port UP and room in the buffers, a VIDEO_LINE whose header, destination and fence R370 and R371 accept leaves DRAM
reading its pixels, or those under its fence word, its fence word where it has one, and every other byte as before.
One without room, one that is rejected, and in HOLD one that overlaps a surface in force leave DRAM as it is. The
rings, the churns and the timing are unchanged throughout. (R52, R371, R377) -/
def Obligations.VideoLineWritesItsPixels : Prop :=
  ∀ (s : State) (p : Bytes), s.on → s.quiet → s.feed.state = 2 →
    let a := rd p 0 8
    let f := rd p 16 8
    let data := p.drop 32
    let apart := s.dev.state = .hold → s.videoOverlaps a (p.length - 32) = false
    (videoHeaderOk p = true → s.videoDataOk p = true → s.videoFenceOk p = true → apart →
      ∃ t, exec (.videoLine p true) s = .next t ∧
        (∀ j, Sparse.get dramFill t.dram j =
          if rd p 9 1 = 1 ∧ f ≤ j ∧ j < f + 4 then p.getD (12 + (j - f)) 0#8
          else if a ≤ j ∧ j < a + data.length then data.getD (j - a) 0#8 else Sparse.get dramFill s.dram j) ∧
        (Memory.wf s.dram = true → Memory.wf t.dram = true) ∧ t.rings = s.rings ∧ t.churns = s.churns ∧ t.timing = s.timing) ∧
    (¬(videoHeaderOk p = true ∧ s.videoDataOk p = true ∧ s.videoFenceOk p = true ∧ apart) →
      ∃ t, exec (.videoLine p true) s = .next t ∧ t.dram = s.dram ∧ t.rings = s.rings ∧ t.churns = s.churns ∧ t.timing = s.timing) ∧
    (∃ t, exec (.videoLine p false) s = .next t ∧ t.dram = s.dram ∧ t.rings = s.rings ∧ t.churns = s.churns ∧ t.timing = s.timing)

/-- Lanes, packet errors, time stamps and LANE_EN of the feed port, and the scalers' checked registers. FEED_LANE_LOCK of
an enabled lane takes its lock, and the port is UP once every enabled lane holds both locks within the skew, and else
not; FEED_LANE_LOCK_LOST takes a port that is UP to ALIGNING. While UP, a packet error and an unknown type are
counted, and a TS_REQUEST with BC_EN 1 is answered with T1, REQ_ID, T2 and a T3 that is free within 50 µs. LANE_EN 0,
1, 3 or 15 that differs restarts alignment. A checked SCLn_CFG value is written, any other sets CFG_REJ; so does
TABLE_WR 1 while the scaler is claimed. (R87, R143, R367, R368, R369, R372, R383) -/
def Obligations.FeedPortRows : Prop :=
  ∀ s : State, s.on →
    (∀ (lane : Fin 4) (marker : Bool) (skew : Nat), (s.fld Reg.FEED_CFG 3 0).testBit lane.val = true →
      let m : BitVec 4 := 1#4 <<< lane.val
      let locked := { s with feed := if marker then { s.feed with markerLock := s.feed.markerLock ||| (m &&& s.feed.blockLock), skew := skew % 128 }
        else { s.feed with blockLock := s.feed.blockLock ||| m } }
      (exec (.feedLaneLock lane marker skew) s = .next (State.settle
        (if locked.feed.skew ≤ 64 ∧ (∀ i : Fin 4, (s.fld Reg.FEED_CFG 3 0).testBit i.val = true →
            locked.feed.blockLock.getLsbD i.val = true ∧ locked.feed.markerLock.getLsbD i.val = true)
         then { locked with feed := { locked.feed with state := 2 } } else locked.feedLeaves lane.val))) ∧
      exec (.feedLaneLockLost lane marker) s = .next (State.settle ((s.feedLeaves lane.val).onFeed fun f => { f with
        markerLock := f.markerLock &&& ~~~m, blockLock := if marker then f.blockLock else f.blockLock &&& ~~~m }))) ∧
    (s.feed.state = 2 →
      let bad (t : State) : State := t.onFeed fun f => { f with errors := min 0xFFFF (f.errors + 1), badPacket := true }
      let counted := s.setFld Reg.FEED_CNT 31 0 (s.fld Reg.FEED_CNT 31 0 + 1)
      exec (.feedPacketError .crc) s = .next (State.settle (bad ((s.setFld Reg.FEED_EVT 1 1 1).addSat Reg.FEED_ERR 15 0 1))) ∧
      exec (.feedPacketError .format) s = .next (State.settle (bad ((s.setFld Reg.FEED_EVT 2 2 1).addSat Reg.FEED_ERR 31 16 1))) ∧
      (∀ type : Byte, type ≠ 1 → type ≠ 2 → type ≠ 4 →
        exec (.feedUnknownPacket type) s = .next (State.settle ((counted.setFld Reg.FEED_EVT 6 6 1).addSat Reg.FEED_DROP2 31 16 1))) ∧
      (∀ p : Bytes, p.length = 16 → s.timing.tsBusyUntil ≤ s.lamp → s.bit Reg.FEED_CFG 8 = true →
        let t2 := s.lamp + 2 ^ 64 - s.fld Reg.TICK_TS_LAT 7 0
        let t3 := s.lamp + Config.freeValue s.freeSeq % 4900 + s.fld Reg.TICK_TS_LAT 15 8
        exec (.tsRequest p) s = .next (State.settle { counted with
          freeSeq := s.freeSeq + 1, timing := { s.timing with tsBusyUntil := t3 }
          outbox := s.outbox ++ [Emission.feedPacket 5 (slice p 0 12 ++ zeros 4 ++ le 8 (t2 % 2 ^ 64) ++ le 8 (t3 % 2 ^ 64))] }))) ∧
    (∀ (m : Master) (value : Word), s.serves m Reg.FEED_CFG →
      let n := bitsOf value.toNat 3 0
      (n = 0 ∨ n = 1 ∨ n = 3 ∨ n = 15) → n ≠ s.fld Reg.FEED_CFG 3 0 →
      exec (.laneEn m value) s = .next (State.settle
        ((((s.setFld Reg.FEED_CFG 9 8 (bitsOf value.toNat 9 8)).feedLeaves 0).setFld Reg.FEED_CFG 3 0 n).onFeed fun f => { f with
          state := if n = 0 then 0 else 1, markerLock := 0, blockLock := f.blockLock &&& BitVec.ofNat 4 n }))) ∧
    (∀ (m : Master) (k : Fin 8) (value : Word), s.serves m (Reg.SCL_CFG k) →
      (s.scalerCfgOk k value.toNat = true → exec (.scalerCfgWrite m k value) s = .next (State.settle
        (s.writeFields (Reg.SCL_CFG k) [⟨1, 0, .rws, 1⟩, ⟨3, 2, .rws, 1⟩, ⟨11, 8, .rws, 2⟩, ⟨15, 12, .rws, 2⟩] value.toNat))) ∧
      (s.scalerCfgOk k value.toNat = false → exec (.scalerCfgWrite m k value) s = .next (State.settle (s.setFld (Reg.SCL_STAT k) 24 24 1)))) ∧
    (∀ (m : Master) (k : Fin 8) (value : Word), s.serves m (Reg.SCL_TABLE_CTL k) → (s.scalerEntry k).isSome = true →
      (bitAt value.toNat 0 = true → s.claims k 1 ≠ [] → exec (.tableWr m k value) s = .next (State.settle (s.setFld (Reg.SCL_STAT k) 24 24 1))) ∧
      (bitAt value.toNat 0 = false ∨ s.claims k 1 = [] →
        exec (.tableWr m k value) s = .next (State.settle (s.setFld (Reg.SCL_TABLE_CTL k) 0 0 value.toNat))))

/-- No credit of a port is lost or made: releases, sends, lanes down and up, blind operation and resynchronisation keep
the balance. The sum of R24 over a port (lane, kitty and parked credits, copies in flight, credits the tile holds) is
the same after the release counters of a record, after a copy is sent on any lane, when a lane goes down, comes up or
gets its parked credits back, when blind operation begins and when RESYNC ends it; a ledger reset leaves the port's
total, with every credit held by the tile. No other port's sum changes. (R24, R207, R209, R219, R220, R221, R225) -/
def Obligations.CreditsBalance : Prop :=
  ∀ (s : State) (n : TileId),
    let keeps (t : State) : Prop := (t.port n).creditSum = (s.port n).creditSum ∧
      ∀ k : TileId, k ≠ n → (t.port k).creditSum = (s.port k).creditSum
    (∀ a b k : BitVec 16, keeps (s.releases n a b k)) ∧
    (∀ (l : TxLane) (x : Track), keeps (s.sendCopy n l x)) ∧
    (∀ l : TxLane, keeps (s.laneDownAt n l) ∧ keeps (s.laneUpAt n l) ∧ keeps (s.unparkAt n l)) ∧
    keeps (s.enterBlindPort n) ∧
    (∀ a b k : Nat, keeps (s.resyncPort n a b k)) ∧
    (((s.resetLedger n).port n).creditSum = s.portTotal ∧ ((s.resetLedger n).port n).tileHeld = s.portTotal ∧
      ∀ k : TileId, k ≠ n → ((s.resetLedger n).port k).creditSum = (s.port k).creditSum)

/-- PARCEL_SEND, CLOSE_SEND, RESEND_TIMEOUT, ACK and NAK. PARCEL_SEND on an open lane sends the track that R208 puts
first, or queues flash work where none waits; a resend whose retry buffer is bad fails and raises 7 and the tile's
input. CLOSE_SEND queues CLOSE once every line is decided, or the horizon is past. RESEND_TIMEOUT, at its due time,
counts the latest send as lost. A received ACK counts releases, acknowledges the tracks its map covers, whose copies
are due no more but the first copies of a CLOSE, and drops the finished ones. A received NAK counts, and its copy is
lost, unless it is stale after TRY 3. (R194, R195, R207, R208, R210, R211, R212, R226, R229) -/
def Obligations.ParcelsAndAcknowledgements : Prop :=
  ∀ (s : State) (n : TileId), s.on →
    (∀ (lane : TxLane) (ecc : Bool), s.portOn n = true → (s.openLanes n).contains lane = true →
      let ready := match s.nextTrack n lane with
        | some t => s.readSpill n t
        | none => s.queueFlash n
      exec (.parcelSend n lane ecc) s = .next (State.settle (match ready.nextTrack n lane with
        | none => ready
        | some t => if ecc = true ∧ t.copies ≠ [] ∧ (ready.port n).blind = false then
            ((ready.failTrack n t.seq).raise 7 9).raiseGroup n 13 3 else ready.sendCopy n lane t))) ∧
    (∀ k : Bool × Bool, s.closeKind n = some k → (s.port n).closeSent = false → s.lockedSecondary = false →
      (k.1 = true ∨ k.2 = true ∨ s.linesDecided n = true ∨ s.timing.pastHorizon = true) →
      exec (.closeSend n) s = .next (State.settle (s.queueClose n k))) ∧
    (∀ (seq : BitVec 16) (x : Track), (s.port n).tracks.find? (fun t => t.seq = seq.toNat) = some x → x.acked = false → x.failed = false →
      x.copies ≠ [] → x.due = [] → (s.port n).blind = false → s.mayGo n x = true →
      (x.isClose = true → x.sentAt + s.ackTimeout n + 1000 < s.nextTick) →
      (x.isPixels = true ∨ x.isProbes = true → x.sentAt + s.ackTimeout n < s.horizonAt) →
      exec (.resendTimeout n seq) s = .next (State.settle
        ((State.laneError n (laneNum x.lane) { s with lamp := max s.lamp (x.sentAt + s.ackTimeout n) }).sendLost n x))) ∧
    (∀ (h : RecHdr) (b : AckBody), (s.port n).retLock = true → s.served n = true →
      let x := (s.received n h).releases n b.relA b.relB b.relK
      let hit (t : Track) : Bool := !t.copies.isEmpty && !t.failed && ackCovers b t.seq
      let y := x.onPort n fun p => { p with
        tracks := (p.tracks.map fun t => if hit t then { t with
          acked := true, due := t.due.filter fun l => t.isClose && !(t.copies.any fun c => c.1 = l) } else t).filter fun t => !t.finished
        closeAcked := p.closeAcked || p.tracks.any fun t => t.isClose && decide (t.frame = s.frame) && hit t }
      let z := { y with partner := { y.partner with held := y.partner.held.map fun (g : HeldLine) => if g.tile ≠ n then g else { g with
        acked := g.acked ++ (g.plan.filter fun (a : Nat × Nat) => ackCovers b a.2).map Prod.fst, plan := g.plan.filter fun (a : Nat × Nat) => !ackCovers b a.2 } } }
      exec (.ack n h b) s = .next (State.settle (((z.admissionDone n).retireCheck n).enterLs1 n))) ∧
    (∀ (h : RecHdr) (b : NakBody), (s.port n).retLock = true → s.served n = true →
      let l := laneNum b.lane
      let x := (((s.received n h).laneError n l).addWrap (Reg.TL_CRC n) (15 + 16 * l) (16 * l) 1).onPort n fun p =>
        p.setCrcSeen b.lane ((p.crcSeen b.lane).map fun v => (v + 1) % 65536)
      exec (.nak n h b) s = .next (State.settle (match (x.port n).tracks.find? fun t => t.copies.contains (b.lane, b.laneCount.toNat) with
        | none => x
        | some t => if t.parcel.tryN = 3 ∧ t.copies.getLast? ≠ some (b.lane, b.laneCount.toNat) then x else x.sendLost n t)))

/-- STATUS, SENSOR, VF, IDENT and a bad return record. A received STATUS is kept, reports its lanes, and counts in TL_CRC
the errors no NAK has reported (log 93), moves the tile state only as R225 permits; a tile it reports ADMITTED is no
longer dark; blind operation sends LANE resync. SENSOR and VF are handed to the pixel diagnostics. IDENT is kept;
outside TRAINING, or in blind operation, it takes the port there, its events and flash work ended, and its identity is
checked; its kitty and lanes are taken, and a tile that a re-deal readmits is admitted. A record that fails its CRC
under return-lane lock is counted. (R221, R222, R225, R226, R227, R237, R434) -/
def Obligations.ReportsOfTheTile : Prop :=
  ∀ (s : State) (n : TileId) (h : RecHdr), s.on → (s.port n).retLock = true → s.served n = true →
    (∀ b : StatusBody,
      let x := ((((s.received n h).onPort n fun p => { p with status := some b }).crcReport n .a b.crcA.toNat).crcReport n .b
        b.crcB.toNat).lanesReport n b.lanes.toNat
      let st := b.state.toNat
      let y := if statusMove (x.port n).state st ((x.port n).dark || (x.port n).retirement.isSome) = true then x.setTileState n st 2
        else x
      exec (.status n h b) s = .next (State.settle
        ((if st = 2 then y.onPort n fun p => { p with dark := false } else y).sendResync n))) ∧
    (∀ b : SensorBody, exec (.sensor n h b) s = .next (State.settle (((s.received n h).sensorIn n b).sensorSeen n))) ∧
    (∀ b : VfBody, exec (.vf n h b) s = .next (State.settle ((s.received n h).vfIn n h b))) ∧
    (∀ b : IdentBody,
      let x := (s.received n h).onPort n fun p => { p with ident := some b }
      let y := if (s.port n).state = 1 ∧ (s.port n).blind = false then x
        else (((x.setTileState n 1 4).strandFlash n).onPort n fun p => { p with
          events := [], dark := false, crcSeenA := none, crcSeenB := none }).identCheck n
      let z := (y.onPort n fun p => { p.releaseKitty ((b.relK.toNat + 65536 - p.relK) % 65536) with relK := b.relK.toNat }).lanesReport n
        b.lanes.toNat
      exec (.ident n h b) s = .next (State.settle
        (if (z.port n).readmit = true ∧ z.admissible n = true then z.startAdmission n none else z))) ∧
    exec (.badReturnRecord n) s = .next (State.settle ((s.onPort n fun p => { p with retAt := s.lamp }).addWrap (Reg.TL_RET_ERR n) 15 0 1))

/-- ADMIT_ACK, RETIRE_ACK, RETIME_ACK and the timeouts of an admission and a retirement. The first copy of ADMIT_ACK of an
admission counts its releases, marks it acknowledged and sends the fallback set. RETIRE_ACK of a retirement that sent
RETIRE ends it OK with cause 1 once every other parcel is acknowledged or has failed (log 91), and waits for that
where one is not. RETIME_ACK marks a noticed tile acknowledged while the retime is undecided. An admission without
completion ends TIMEOUT, 100 ms after it began at the latest, the tile still in TRAINING; a retirement without
RETIRE_ACK in 16 frames ends TIMEOUT with cause 3. (R90, R223, R224, R226) -/
def Obligations.AdmissionsAndRetirementsEnd : Prop :=
  ∀ (s : State) (n : TileId),
    (∀ (h : RecHdr) (e : EventBody) (a : Admission), s.hears n e → (s.port n).admission = some a → a.acked = false →
      exec (.admitAck n h e) s = .next (State.settle ((((s.heard n h e).releases n e.relA e.relB e.relK).onPort n fun p => { p with
        admission := some { a with acked := true } }).sendFallbackSet n))) ∧
    (∀ (h : RecHdr) (e : EventBody) (r : Retirement), s.hears n e → (s.port n).retirement = some r → 2 ≤ r.stage →
      let x := (s.heard n h e).onPort n fun p => { p with
        retirement := some { r with stage := 4 }, tracks := p.tracks.filter fun t => t.tn ≠ 6 }
      exec (.retireAck n h e) s = .next (State.settle
        (if ∀ t ∈ (s.port n).tracks, t.tn = 6 ∨ t.acked = true ∨ t.failed = true then x.retireDone n 1 .ok else x))) ∧
    (∀ (h : RecHdr) (e : EventBody) (r : Retime), s.hears n e → s.timing.retime = some r → r.noticed.getLsbD n.val = true → r.decided = none →
      exec (.retimeAck n h e) s = .next (State.settle ((s.heard n h e).onTiming fun t => { t with
        retime := some { r with acked := r.acked ||| (1#16 <<< n.val) } }))) ∧
    (∀ a : Admission, s.on → (s.port n).admission = some a →
      let ended := State.onPort n (fun p => { p with
        admission := none, tracks := p.tracks.filter (!·.admits) }) { s with lamp := max s.lamp (a.since + 10000000) }
      exec (.tileAdmitTimeout n) s = .next (State.settle (match a.ref with
        | some ref => ended.completeWith ref .timeout
        | none => ended))) ∧
    (∀ r : Retirement, s.on → (s.port n).retirement = some r → 16 ≤ r.frames →
      exec (.tileRetireTimeout n) s = .next (State.settle (s.retireDone n 3 .timeout)))

/-- Lane events of a tile, resynchronisation, the return lane and LS1. LANE_DOWN takes the lane down, counts the other
lane's and the kitty's releases and takes new baselines; LANE_UP counts them first and brings the lane up. RESYNC in
blind operation resynchronises the ledger, and an ABSENT tile takes the state of its STATUS. RETURN_LANE_LOCK of a
declared tile whose LINK domain is ready locks, records and checks the identity; RETURN_LANE_LOST unlocks, and makes a
RETIRED tile ABSENT, any other that is not ABSENT blind. A lane leaves LS1 2 µs before the tick. (R197, R219, R220,
R221, R225, R229) -/
def Obligations.LanesGoDownAndComeBack : Prop :=
  ∀ (s : State) (n : TileId),
    (∀ (h : RecHdr) (l : TxLane) (e : EventBody), s.hears n e →
      let others := s.chipLanes.filter (· ≠ l)
      let counted (t : State) : State := t.onPort n fun p => { p.takeReleases others e.relA.toNat e.relB.toNat e.relK.toNat with
        relA := e.relA.toNat, relB := e.relB.toNat, relK := e.relK.toNat }
      exec (.laneDown n h l e) s = .next (State.settle (counted ((s.heard n h e).laneDownAt n l))) ∧
      exec (.laneUp n h l e) s = .next (State.settle ((counted (s.heard n h e)).laneUpAt n l))) ∧
    (∀ (h : RecHdr) (e : EventBody), s.hears n e → (s.port n).blind = true →
      let x := (s.heard n h e).resyncPort n e.relA.toNat e.relB.toNat e.relK.toNat
      exec (.resync n h e) s = .next (State.settle (match (s.port n).status with
        | some b => if (s.port n).state = 0 then x.setTileState n b.state.toNat 2 else x
        | none => x))) ∧
    (s.on → (s.port n).retLock = false → s.declared n = true → s.ready (11 + groupOf n) = true →
      exec (.returnLaneLock n) s = .next (State.settle (((s.onPort n fun p => { p with
        retLock := true, lastRseq := none, retAt := s.lamp, unlockedFrames := 0, missingFrames := 0 }).laneRecord n 2 2).identCheck n))) ∧
    (s.on → (s.port n).retLock = true →
      ((s.port n).pwrRet = 2 ∨ (s.port n).testMask.testBit 2 = true →
        exec (.returnLaneLost n) s = .next (State.settle (s.onPort n fun p => { p with retLock := false }))) ∧
      ((s.port n).pwrRet ≠ 2 → (s.port n).testMask.testBit 2 = false →
        let x := ((s.onPort n fun p => { p with retLock := false, unlockedFrames := 0, lostLanes := p.lostLanes ||| 4#3 }).setFlag
          (Reg.TL_LANE_STAT n) 18).laneRecord n 2 1
        exec (.returnLaneLost n) s = .next (State.settle
          (if (s.port n).state = 6 then x.setTileState n 0 5
           else if (s.port n).state = 0 then x else x.enterBlindPort n)))) ∧
    (∀ l : TxLane, s.on → (s.port n).pwr l = 1 →
      exec (.ls1Exit n l) s = .next (State.settle ((State.onPort n (Port.setPwr l 0)
        { s with lamp := max s.lamp (s.nextTick - 200) }).emit (.laneIdle n l false))))

/-- Absence, a missing tile, the repeated identity check, and LS2. 64 frames without return-lane lock make a tile ABSENT;
64 frames without any lock while a declared tile is ABSENT set its DEAL_MISMATCH bit and raise input 5 once; after 256
frames in TRAINING the identity is checked again. A served LS2 request for an ADMITTED or RETIRED tile outside the lit
set sends LANE LS2 entry; any other while no LS2 is held sets LS_REJ and clears the request bit. A release ends the
request, and turns the lanes of a port in LS2 on. LS2_ACK turns both ends off and parks the credits. (R48, R220, R222,
R225, R229) -/
def Obligations.PortWatchesAndLaneSleep : Prop :=
  ∀ (s : State) (n : TileId),
    (s.on → (s.port n).retLock = false → (s.port n).state ≠ 0 → 64 ≤ (s.port n).unlockedFrames →
      exec (.tileAbsentTimeout n) s = .next (State.settle (((s.setTileState n 0 5).blindDropped n).strandFlash n))) ∧
    (s.on → s.declared n = true → (s.port n).state = 0 → (s.port n).missed = false → 64 ≤ (s.port n).missingFrames →
      exec (.dealMismatchMissing n) s = .next (State.settle
        (((s.onPort n fun p => { p with missed := true }).setFlag Reg.DEV_DEAL_MISMATCH n.val).raise 5 n.val))) ∧
    (s.on → (s.port n).state = 1 → 256 ≤ (s.port n).identFrames →
      let x := s.onPort n fun p => { p with identFrames := 0 }
      exec (.identRecheck n) s = .next (State.settle (if s.identWrong n = true then
        ((x.setFlag Reg.DEV_DEAL_MISMATCH (16 + n.val)).setFlag (Reg.TL_EVT n) 5).raise 5 n.val else x))) ∧
    (∀ (m : Master) (value : Word), s.serves m (Reg.TL_LANE_PWR n) →
      let x := s.writeFields (Reg.TL_LANE_PWR n) [⟨0, 0, .rw, 0⟩, ⟨8, 8, .w1c, 0⟩] value.toNat
      (bitAt value.toNat 0 = true → (s.port n).ls2 = 0 →
        exec (.ls2Request m n value) s = .next (State.settle
          (if ((s.port n).state = 2 ∨ (s.port n).state = 6) ∧ s.inLit n = false then
            (x.onPort n fun p => { p with ls2 := 1 }).control n 9 1 (le 1 7)
           else (x.setFlag (Reg.TL_LANE_PWR n) 8).setFld (Reg.TL_LANE_PWR n) 0 0 0))) ∧
      (bitAt value.toNat 0 = true → (s.port n).ls2 ≠ 0 → exec (.ls2Request m n value) s = .next (State.settle x)) ∧
      (bitAt value.toNat 0 = false → (s.port n).ls2 = 0 → exec (.ls2Release m n value) s = .next (State.settle x)) ∧
      (bitAt value.toNat 0 = false → (s.port n).ls2 = 1 → exec (.ls2Release m n value) s = .next (State.settle
        (x.onPort n fun p => { p with ls2 := 0, pwrA := 0, pwrB := 0, pwrRet := 0 }))) ∧
      (bitAt value.toNat 0 = false → 2 ≤ (s.port n).ls2 →
        let y := x.onPort n fun p => { p with ls2 := 0, pwrA := 0, pwrB := 0, pwrRet := 0 }
        let on := (y.emit (.laneIdle n .a false)).emit (.laneIdle n .b false)
        exec (.ls2Release m n value) s = .next (State.settle (((on.laneRecord n 0 4).laneRecord n 1 4).laneRecord n 2 4)))) ∧
    (∀ (h : RecHdr) (e : EventBody), s.hears n e → (s.port n).ls2 = 1 →
      let x := (s.heard n h e).onPort n fun p => { p with
        parkA := p.parkA + p.credA + p.inA, credA := 0, inA := 0, pwrA := 2, lockA := false
        parkB := p.parkB + p.credB + p.inB, credB := 0, inB := 0, pwrB := 2, lockB := false, ls2 := 2, pwrRet := 2, retLock := false }
      let off := (x.emit (.laneIdle n .a true)).emit (.laneIdle n .b true)
      exec (.ls2Ack n h e) s = .next (State.settle (((off.laneRecord n 0 3).laneRecord n 1 3).laneRecord n 2 3)))

/-- TEST_RESULT, LINK_TEST_END, FLASH_DONE, its timeout and FLASH_DATA. A TEST_RESULT of a lane that is awaited adds its
errors, saturating, and the test completes with the sum once none is awaited. LINK_TEST_END after the last frame of a
running test takes the chip's count on the return lane and gives tested lanes that are locked their parked credits.
FLASH_DONE of a committed load completes it OK, or INVALID where it failed; 30 s after the commit it completes
TIMEOUT. FLASH_DATA of the request outstanding goes to host memory and is noted; with the link down the read completes
TIMEOUT, and the tile's next read begins. (R228, R230, R364, R435) -/
def Obligations.LinkTestsAndTileFlash : Prop :=
  ∀ (s : State) (n : TileId),
    (∀ (h : RecHdr) (l : TxLane) (e : EventBody) (t : LinkTest), s.hears n e → (s.port n).test = some t → t.wait.testBit (laneNum l) = true →
      exec (.testResult n h l e) s = .next (State.settle (((s.heard n h e).onPort n fun p => { p with
        test := some { t with wait := t.wait - 2 ^ laneNum l, errors := min (2 ^ 32 - 1) (t.errors + e.value.toNat) } }).testDone n))) ∧
    (∀ (t : LinkTest) (errors : Nat), s.on → (s.port n).test = some t → t.running = true → t.left = 0 →
      exec (.linkTestEnd n errors) s = .next (State.settle (State.testDone n (s.onPort n fun p =>
        let back (l : TxLane) (p : Port) : Port := if t.mask.testBit (laneNum l) = true ∧ p.lock l = true
          then (p.setCred l (p.cred l + p.park l)).setPark l 0 else p
        { back .b (back .a p) with test := some { t with
            running := false
            errors := if t.mask.testBit 2 then min (2 ^ 32 - 1) (t.errors + min (2 ^ 32 - 1) errors) else t.errors
            wait := if t.mask.testBit 2 then t.wait % 4 else t.wait } })))) ∧
    (∀ (h : RecHdr) (failed : Bool) (e : EventBody) (j : FlashJob), s.hears n e → (s.port n).flash = some j → j.committed.isSome = true →
      exec (.flashDone n h failed e) s = .next (State.settle
        (((s.heard n h e).onPort n fun p => { p with flash := none }).completeWith j.ref (if failed then .invalid else .ok)))) ∧
    (∀ (j : FlashJob) (t0 : Nat), s.on → (s.port n).flash = some j → j.committed = some t0 →
      exec (.flashDoneTimeout n) s = .next (State.settle (State.completeWith j.ref .timeout
        (State.onPort n (fun p => { p with flash := none }) { s with lamp := max s.lamp (t0 + 3000000000) })))) ∧
    (∀ (h : RecHdr) (off : Word) (data : Bytes) (j : ReadJob), s.on → (s.port n).retLock = true → s.served n = true →
      (s.port n).read = some j →
      j.at0 ≤ off.toNat → off.toNat < j.upTo → (off.toNat - j.at0) % 48 = 0 →
      let x := s.received n h
      (s.host.linkUp = false → exec (.flashData n h off data) s = .next (State.settle
        (x.readEnd n fun t => t.completeWith j.ref .timeout))) ∧
      (s.host.linkUp = true → s.hostReady = true →
        let k : ReadJob := { j with got := if j.got.contains off.toNat then j.got else j.got ++ [off.toNat], fresh := true }
        let y := (x.emit (.hostWrite (j.addr + off.toNat) (padTo (min 48 (j.len - off.toNat)) data))).onPort n fun p => { p with read := some k }
        exec (.flashData n h off data) s = .next (State.settle (if j.upTo ≤ off.toNat + 48 then y.judgeRead n k else y))))

/-- A good copy is counted and released; the first of its SEQ acts, and a bad copy is answered by NAK. At a tile that is
on, on a locked lane, PIXELS, PROBES, CLOSE and every other parcel complete: every good copy counts on its lane and
releases a credit of the pool it took. A SEQ in the window only counts as a duplicate. Else it enters the window of
512; one of an unknown type is then ignored, and PIXELS, PROBES and CLOSE of another frame count as stale, of the
tile's frame are taken where it is admitted; RETIME, ADMIT, RETIRE, FALLBACK, FLASH data and LANE have the effects of
R206; a pair has an admission on each lane. A bad copy counts, releases and is answered by NAK. Nothing else of any
tile changes, and the chip's ports do not. (R201, R202, R203, R204, R205, R206, R209, R210, R213, R217, R218, R330) -/
def Obligations.CopiesOfParcels : Prop :=
  ∀ (s : State) (n : TileId) (l : TxLane) (p : Parcel), s.quiet → (s.tile n).state ≠ 0 → (s.tile n).lock l = true →
    let x := s.tile n
    let q := p.seq.toNat
    let lanes := x.lanesOf l
    let counted := if p.kitty then (x.setRx l ((x.rx l + 1) % 65536)).releaseKitty l else (x.setRx l ((x.rx l + 1) % 65536)).releaseLane l 1
    let fresh := { counted with window := (q :: x.window).take 512 }
    let stale := { fresh with stale := (x.stale + 1) % 65536 }
    let after (i : Instr) (y : Tile) : Prop :=
      ∃ t, exec i s = .next t ∧ t.tiles = s.tiles.set n y ∧ t.ports = s.ports ∧ t.lamp = s.lamp
    (x.window.contains q = true →
      ∀ i ∈ [Instr.pixels n l p, .probes n l p, .close n l p, .retime n l p, .admitParcel n l p, .retire n l p, .fallback n l p,
          .flash n l p, .lane n l p],
        after i { counted with dup := (x.dup + 1) % 65536, window := q :: x.window.erase q }) ∧
    (x.window.contains q = false → knownType p = false → after (.lane n l p) fresh) ∧
    (x.window.contains q = false → knownType p = true →
      (p.frame.toNat ≠ x.frame % 256 → after (.pixels n l p) stale ∧ after (.probes n l p) stale ∧ after (.close n l p) stale) ∧
      (p.frame.toNat = x.frame % 256 → x.admitted = false → after (.pixels n l p) fresh ∧ after (.probes n l p) fresh ∧ after (.close n l p) fresh) ∧
      (p.frame.toNat = x.frame % 256 → x.admitted = true →
        after (.pixels n l p) { fresh with segs := x.segs ++ [(bitsOf p.addr.toNat 9 0, bitsOf p.addr.toNat 13 10, p.payload)] } ∧
        after (.probes n l p) { fresh with probes := x.probes ++ (List.range (bitsOf p.arg.toNat 15 10 + 1)).map fun i =>
          (bitsOf (rd p.payload (4 * i) 4) 10 0, bitsOf (rd p.payload (4 * i) 4) 20 11) } ∧
        after (.close n l p) { fresh with close := some (parseClose p.payload) }) ∧
      (x.admitted = true → p.arg.toNat % 4 = 2 →
        after (.retime n l p) { fresh with retime := x.retime.map fun r => { r with confirmed := true } }) ∧
      (x.admitted = true → (p.arg.toNat % 4 = 0 ∨ p.arg.toNat % 4 = 3) → after (.retime n l p) { fresh with retime := none }) ∧
      (let told := { fresh with retime := some ⟨rd p.payload 0 1, rd p.payload 4 4, false⟩ }
       x.admitted = true → p.arg.toNat % 4 = 1 →
        exec (.retime n l p) s = .next (State.settle ({ s with tiles := s.tiles.set n told }.tileEvent n (x.outputOf l) 3 0 0))) ∧
      (let b := p.payload
       let granted := if fresh.paired then fresh.releaseLane l 64 else (fresh.releaseLane .a 64).releaseLane .b 64
       let joined := { granted with adm := x.adm ||| lanes }
       let taken := { joined with
        cfg := some ⟨rd b 2 2, rd b 4 2, bitAt (rd b 6 1) 0, bitAt (rd b 6 1) 1, rd b 7 1, rd b 8 1, rd b 9 1, rd b 10 1, rd b 12 4⟩
        holdRuns := false, segs := [], probes := [], close := none }
       (x.adm &&& lanes = lanes → after (.admitParcel n l p) { fresh with cfg := x.cfg.map fun c => c.retake (parseAdmit b) }) ∧
       (x.adm &&& lanes ≠ lanes → x.state = 1 → exec (.admitParcel n l p) s = .next (State.settle
        (({ s with tiles := s.tiles.set n taken }.tileEvent n (x.outputOf l) 1 0 0).setTile n 2))) ∧
       (x.adm &&& lanes ≠ lanes → 2 ≤ x.state → x.state ≤ 5 → exec (.admitParcel n l p) s = .next (State.settle
        ({ s with tiles := s.tiles.set n joined }.tileEvent n (x.outputOf l) 1 0 0)))) ∧
      (let cleared := { fresh with
        latches := [], window := [], segs := [], probes := [], close := none, dueSegs := [], dueProbes := [], dueClose := none
        swapDue := false, probed := [], holdRuns := false }
       x.admitted = true →
        (x.adm &&& ~~~lanes = 0 → exec (.retire n l p) s = .next (State.settle
          (((({ s with tiles := s.tiles.set n cleared }.tileEvent n (x.outputOf l) 2 0 0).onTile n fun t => { t with
            relA := 0, relB := 0, relK := 0, relK2 := 0, adm := 0 })).setTile n 6))) ∧
        (x.adm &&& ~~~lanes ≠ 0 → exec (.retire n l p) s = .next (State.settle
          (({ s with tiles := s.tiles.set n fresh }.tileEvent n (x.outputOf l) 2 0 0).onTile n (Tile.leaveLane l))))) ∧
      (let set := bitsOf p.arg.toNat 15 8
       let parts := Sparse.put (p.arg.toNat % 8) p.payload (if x.patternSet = set then x.patternParts else [])
       after (.fallback n l p) (if parts.length = 8
        then { fresh with patternSet := set, patternParts := [], pattern := some (parts.flatMap (·.2)) }
        else { fresh with patternSet := set, patternParts := parts })) ∧
      (p.arg.toNat % 4 = 0 → after (.flash n l p) { fresh with flashIn := Sparse.put p.addr.toNat p.payload x.flashIn }) ∧
      (p.arg.toNat % 4 = 1 →
        let chunks := (List.range (ceilDiv (rd p.payload 0 4) 256)).map fun i => Sparse.find? x.flashIn i
        let image := (chunks.flatMap fun c => c.getD []).take (rd p.payload 0 4)
        let ok := chunks.all Option.isSome && decide (crc32c image = rd p.payload 4 4)
        exec (.flash n l p) s = .next (State.settle ({ s with
          tiles := s.tiles.set n { fresh with flashIn := [], flash := if ok then image else x.flash } }.tileEvent n (x.outputOf l) 8 (b2n (!ok)) 0))) ∧
      (p.arg.toNat % 4 = 2 →
        let at0 := { s with tiles := s.tiles.set n fresh }
        let sent := forEach (List.range (ceilDiv (min (rd p.payload 4 4) 49152) 48)) (fun i t =>
          t.tileSend n (x.outputOf l) fun h => .flashData h (BitVec.ofNat 32 (rd p.payload 0 4 + 48 * i))
            ((List.range 48).map fun j => t.flashByte n (rd p.payload 0 4 + 48 * i + j))) at0
        exec (.flash n l p) s = .next (State.settle { sent with freeSeq := sent.freeSeq + 2 ^ 32 })) ∧
      (p.arg.toNat % 4 = 3 → after (.flash n l p) fresh) ∧
      (p.arg.toNat % 16 = 1 → exec (.lane n l p) s = .next (State.settle
        (({ s with tiles := s.tiles.set n fresh }.tileEvent n (x.outputOf l) 9 0 0).onTile n fun t => { t with
          ls2 := true, lockA := false, lockB := false, retOn := false }))) ∧
      (p.arg.toNat % 16 = 0 ∨ 4 ≤ p.arg.toNat % 16 → after (.lane n l p) fresh) ∧
      (p.arg.toNat % 16 = 2 → after (.lane n l p) { fresh with test := some (rd p.payload 0 1, rd p.payload 2 2) }) ∧
      (p.arg.toNat % 16 = 3 → exec (.lane n l p) s = .next (State.settle ({ s with tiles := s.tiles.set n fresh }.tileEvent n (x.outputOf l) 6 0 0)))) ∧
    (∀ (runt : Bool) (seq : BitVec 16),
      exec (.tileBadCopy n l runt seq) s = .next (State.settle (State.tileSend n (x.outputOf l)
        (fun h => .nak h ⟨l, runt, BitVec.ofNat 16 (x.rx l), seq⟩)
        { s with tiles := s.tiles.set n (((x.setRx l ((x.rx l + 1) % 65536)).countCrc l).releaseLane l 1) })))

/-- TICK blocks, the flywheel, the frame swap, the hold and the measurements of a tile. The first TICK block of a frame on
a locked lane is that tick, but where the flywheel placed it already; it re-aligns the tile and takes a rate change.
The flywheel places a tick itself, 2 µs late at the latest. At subframe 0 a tile not in a re-phase with a frame due
loads it: its latches dark, the pattern or the lines delivered, LIT, or ADMITTED where dark, and reports STATUS;
without one, the hold may expire into the pattern and FALLBACK; inside a re-phase what is due is discarded. An
admitted tile sends VF records of its scan lines and fired probes, a pair on both outputs. (R80, R91, R198, R203,
R215, R216, R218, R227, R233, R234, R235, R236) -/
def Obligations.TileTicksAndFrames : Prop :=
  ∀ (s : State) (n : TileId),
    let x := s.tile n
    (∀ (l : TxLane) (frame : Word) (rate : Nat) (newRate : Bool), x.state ≠ 0 → x.lock l = true →
      (∀ b, x.block = some b → b.2 ≠ frame.toNat) →
      let y := if x.flew = true ∧ x.frame = frame.toNat then s else s.tileTick n frame.toNat s.lamp
      let z := y.onTile n fun t => { t with
        tickGap := x.gapAt y.lamp frame.toNat rate, lastTick := y.lamp, block := some (y.lamp, frame.toNat), flew := false }
      exec (.tileTickBlock n l frame rate newRate) s = .next (State.settle (z.tileRate n frame.toNat rate newRate))) ∧
    (x.state ≠ 0 → x.tickGap ≠ 0 →
      exec (.tileFlywheel n) s = .next (State.settle ((State.tileTick n ((x.frame + 1) % 2 ^ 32) (x.lastTick + x.tickGap)
        { s with lamp := max s.lamp (x.lastTick + x.tickGap + 200) }).onTile n fun t => { t with
          lastTick := x.lastTick + x.tickGap, flew := true }))) ∧
    (∀ g : TileCfg, x.cfg = some g → x.state ≠ 0 →
      let now := max s.lamp (x.lastTick + g.phaseSlot * s.tilePeriod n / 64)
      let idle := { x with sensorIndex := 0, probed := [], rephaseEnd := none }
      let rephasing := ∃ e, x.rephaseEnd = some e ∧ now < e
      (rephasing → exec (.tileFrameSwap n) s = .next (State.settle (State.tileStatus n { s with
        lamp := now, tiles := s.tiles.set n { x with
          sensorIndex := 0, dueSegs := [], dueProbes := [], dueClose := none, swapDue := false } }))) ∧
      (¬ rephasing → x.dueClose = none ∨ x.swapDue = false ∨ x.admitted = false →
        exec (.tileFrameSwap n) s = .next (State.settle
          ((State.tileHoldExpiry n { s with lamp := now, tiles := s.tiles.set n idle }).tileStatus n))) ∧
      (∀ (c : CloseBody) (m : TileMaker), x.dueClose = some c → x.made = some m → x.swapDue = true → x.admitted = true → ¬ rephasing →
        let base := { idle with
          swapDue := false, shown := c.frame, iRef := min c.iRef (Config.tileIRefLimit m.serial.toNat)
          vHr := min c.vHr (Config.tileVHrLimit m.serial.toNat) }
        let shown : Tile := if c.dark then { base with latches := [], loaded := 0, kept := 0, fired := 0, state := 2 }
          else { (if c.showFallback then base.loadPattern else base.loadLines c) with holdCount := 0, state := 3 }
        exec (.tileFrameSwap n) s = .next (State.settle (State.tileStatus n
          { s with lamp := now, tiles := s.tiles.set n { shown with dueSegs := [], dueProbes := [], dueClose := none } })))) ∧
    (∀ g : TileCfg, x.cfg = some g → g.holdFrames < x.holdCount →
      (x.state = 3 ∨ x.state = 4 →
        exec (.tileHoldExpiry n) s = .next (State.settle (State.setTile n 5 { s with tiles := s.tiles.set n x.loadPattern }))) ∧
      (x.state = 1 → x.holdRuns = true →
        exec (.tileHoldExpiry n) s = .next (State.settle { s with tiles := s.tiles.set n x.loadPattern }))) ∧
    (∀ (m : TileMaker) (meas : List PixelMeas), x.made = some m → x.admitted = true → x.probed = [] →
      let scan := (List.range x.height).filter fun y => y % 64 = x.frame % 64
      let sent := forEach scan (fun y t => forEach (List.range (ceilDiv x.width 48)) (fun i t =>
        forEach x.outputs (fun o t => t.tileSend n o fun h => .vf h ⟨BitVec.ofNat 16 y, BitVec.ofNat 16 (48 * i), false,
          (List.range (min 48 (x.width - 48 * i))).map fun j => BitVec.ofNat 8 (s.scanCode n m meas (48 * i + j) y)⟩) t) t) s
      exec (.tileSubframeStart n meas) s = .next (State.settle { sent with freeSeq := s.freeSeq + 2 ^ 21 }))

/-- A tile powers up, identifies itself, loses and regains lanes, acknowledges and reports its sensors. TILE_POWER_UP
starts a tile in TRAINING; the flash of the same serial keeps its content. In TRAINING a tile sends IDENT, the first
one granting 16 kitty credits; a pair sends it on each output not admitted on, granting 8 there. A locked lane that is
lost, with the copy it cut counted and released, and one that locks, are told by an event and STATUS. Without any
transmit lane that it is admitted on and not in LS2 an admitted or RETIRED tile goes to TRAINING; a pair that keeps
one lane leaves the other's admission alone (log 94). ACK covers the 256 newest SEQ. An admitted tile sends SENSOR 0
to 7 of its frame. (R201, R207, R209, R210, R219, R221, R222, R226, R227, R330, R390) -/
def Obligations.TileRecordsAndLanes : Prop :=
  ∀ (s : State) (n : TileId),
    let x := s.tile n
    (∀ m : TileMaker,
      let flash := if x.made.map (·.serial) = some m.serial then x.flash else []
      exec (.tilePowerUp n m) s = .next (State.settle { s with
        tiles := s.tiles.set n { made := some m, state := 1, retOn := true, flash := flash } })) ∧
    (∀ (m : TileMaker) (outs : List Nat), x.made = some m →
      ((outs = [0] ∧ m.paired = false ∧ x.state = 1) ∨
        (outs ≠ [] ∧ m.paired = true ∧ x.state ≠ 0 ∧ x.state ≠ 6 ∧ outs = [0, 1].filter fun o => !x.adm.getLsbD o)) →
      let first (sent : Bool) (o : Nat) : Bool := !sent && outs.contains o
      let grant := if m.paired then 8 else 16
      let y := { x with
        identSent := x.identSent || outs.contains 0, relK := if first x.identSent 0 then grant else x.relK
        identSent2 := x.identSent2 || outs.contains 1, relK2 := if first x.identSent2 1 then grant else x.relK2 }
      exec (.tileIdentSend n) s = .next (State.settle (forEach outs (fun o t => t.tileSend n o fun h => .ident h
        ⟨m.tileType, m.serial, m.arrayW.setWidth 16, m.arrayH.setWidth 16, BitVec.ofNat 8 (b2n x.lockA + 2 * b2n x.lockB),
          m.caps, m.vfBase, m.vfStep, BitVec.ofNat 16 (y.relKOf o)⟩) { s with tiles := s.tiles.set n y }))) ∧
    (∀ (l : TxLane) (part : Bool), x.state ≠ 0 → x.lock l = true →
      let y := x.setLock l false
      let cut := if part then ((y.setRx l ((y.rx l + 1) % 65536)).countCrc l).releaseLane l 1 else y
      exec (.tileLaneLost n l part) s = .next (State.settle
        ((State.tileEvent n (x.outputOf l) 4 (laneNum l) 0 { s with tiles := s.tiles.set n cut }).tileStatus n))) ∧
    (∀ l : TxLane, x.state ≠ 0 → x.lock l = false →
      exec (.tileLaneLock n l) s = .next (State.settle ((State.tileEvent n (x.outputOf l) 5 (laneNum l) 0
        { s with tiles := s.tiles.set n { (x.setLock l true).setRx l 0 with ls2 := false, retOn := true } }).tileStatus n))) ∧
    (2 ≤ x.state → x.ls2 = false → (∀ l : TxLane, x.lock l = true → x.adm.getLsbD (laneNum l) = false) →
      exec (.tileTransmitLoss n) s = .next (State.settle (State.setTile n 1 { s with tiles := s.tiles.set n { x with
        window := [], relA := 0, relB := 0, relK := 0, relK2 := 0, identSent := false, identSent2 := false, adm := 0
        holdRuns := decide (3 ≤ x.state ∧ x.state ≤ 5), retime := none, test := none } }))) ∧
    (∀ l k : TxLane, 2 ≤ x.state → x.ls2 = false → x.paired = true → x.lock k = true → x.adm.getLsbD (laneNum k) = true →
      x.lock l = false → x.adm.getLsbD (laneNum l) = true →
      exec (.tileTransmitLoss n) s = .next (State.settle { s with tiles := s.tiles.set n (x.leaveLane l) })) ∧
    (let base := (newestSeq x.window + 65536 - 255) % 65536
     let map := (List.range 256).foldl (fun m i => if x.window.contains ((base + i) % 65536) then m ||| (1#256 <<< i) else m) 0#256
     exec (.tileAckSend n) s = .next (State.settle (forEach x.outputs (fun o t => t.tileSend n o fun h => .ack h
      ⟨BitVec.ofNat 16 base, map, BitVec.ofNat 16 x.relA, BitVec.ofNat 16 x.relB, BitVec.ofNat 16 (x.relKOf o)⟩) s))) ∧
    (∀ r : SensorReading, x.admitted = true →
      exec (.tileSensorSend n r) s = .next (State.settle ((forEach x.outputs (fun o t => t.tileSend n o fun h => .sensor h
        ⟨r.vfMean, r.tSink, r.light, r.vSupply, r.iSupply, BitVec.ofNat 8 x.sensorIndex⟩) s).onTile n
          fun t => { t with sensorIndex := (x.sensorIndex + 1) % 8 })))

/-- Passes, initialisations and flushes of a tile's map; hand-overs, residual trips and traces of the control engine.
DIAG_PASS_END in the last frame of a pass, and FMAP_INIT_END in the last of an initialisation, make the visit of the
coming cut at its time for a tile that is visited. Served writes of FMAP_INIT and PEND_FLUSH ask for them.
HANDOVER_WINDOW_END ends a window that has run out. RESIDUAL_TRIP of an input that is due marks it, with RES_ACTION 1
makes a hand-over due, sets the flag, reports and raises 27. ARM empties and arms a channel, STOP asks it to stop, and
a one-shot channel that has written its entries stops. (R238, R242, R248, R252, R262, R266, R277) -/
def Obligations.DiagnosticsAndTraces : Prop :=
  ∀ s : State,
    (∀ n : TileId, s.on → s.timing.started = true → s.timing.pastCut = false → s.visiting n = true →
      let visit : Host.Outcome State Fault Refusal := .next (State.settle (State.visitCut n
        { s with lamp := max s.lamp (s.timing.lastTick + s.timing.period - 25000) }))
      (s.timing.frame % 64 = 63 → exec (.diagPassEnd n) s = visit) ∧ ((s.diag n).initLeft = 1 → exec (.fmapInitEnd n) s = visit)) ∧
    (∀ (m : Master) (n : TileId) (value : Word), s.serves m (Reg.TL_DIAG_CTL n) →
      let asked : State := { s with diags := s.diags.set n { s.diag n with
        fmapInit := (s.diag n).fmapInit || bitAt value.toNat 0, pendFlush := (s.diag n).pendFlush || bitAt value.toNat 1 } }
      exec (.fmapInit m n value) s = .next asked.settle ∧ exec (.pendFlush m n value) s = .next asked.settle) ∧
    (∀ l : LoopId, s.on → (s.loop l).left = 0 →
      exec (.handoverWindowEnd l) s = .next (State.settle (s.onLoop l fun lp => { lp with outMode := none }))) ∧
    (∀ (l : LoopId) (i : Fin 4) (b : Bytes), s.on → s.tripDue l i = true → (s.loop l).bank = some b →
      let tripped := s.onLoop l fun lp => { lp with tripped := lp.tripped.set i true, holdDue := lp.holdDue || decide (resAction b i = 1) }
      let told := ((tripped.loopFlag l 0 1).loopEvent l 3 i 0 (signedOf 32 s.free) (resLim b i) 0).raise 27 (l.val + 256 * i.val)
      exec (.residualTrip l i) s = .next (State.settle { told with freeSeq := told.freeSeq + 1 })) ∧
    (∀ (m : Master) (c : Fin 4) (value : Word), s.serves m (Reg.CTL_TRC_CTL c) →
      let armed := if bitAt value.toNat 0 = true then s.onTrace c fun t => { t with
          wr := 0, wrapped := false, triggered := false, stopped := false, armed := true, count := 0, postLeft := 0 } else s
      let asked := if bitAt value.toNat 1 = true then armed.onTrace c fun t => { t with stopReq := true } else armed
      exec (.traceArm m c value) s = .next asked.settle ∧ exec (.traceStop m c value) s = .next asked.settle) ∧
    (∀ c : Fin 4, s.on → (s.ctl.traces.get c).armed = true → (s.ctl.traces.get c).triggered = true → s.bit (Reg.CTL_TRC_CFG c) 28 = true →
      (s.ctl.traces.get c).postLeft = 0 →
      exec (.tracePostEnd c) s = .next (State.settle (s.onTrace c fun t => { t with armed := false, stopped := true })))

/-- The end of a milk round, the thermal evaluation and its level. A slot's raw code is the average of its 16 conversions,
rounded half up. MILK_ROUND_END makes what of the round is due, stores the codes of channels 8 to 95, measures a run,
checks rails, supply and power, and begins the next round with its trims. THERMAL_EVALUATION, once a round, evaluates
the sensors. A decided level comes into force 125 µs later. A hottest reading of 122.0 °C or more gives level 2, one
of 118.0 °C or more level 1 at least, and the level falls by one at most, and only at the eighth cool evaluation.
(R279, R280, R281, R282, R285, R292, R293, R295, R296) -/
def Obligations.MilkAndThermalRows : Prop :=
  ∀ s : State,
    let codes (conv : List Nat) : List Nat := (List.range 128).map fun k =>
      (((conv.drop (16 * k)).take 16).foldl (fun sum c => sum + c) 0 + 8) / 16
    (∀ conv : List Nat, s.on →
      let raw := codes conv
      let evaluated := ((s.thermalEvaluation raw).calDecision.entryDone).applyLevel
      let at0 := evaluated.advanceTo (evaluated.house.roundStart + 1600000)
      let stored := forEach ((List.finRange 96).drop 8) (fun c t => t.storeCode raw c) at0
      let checked := (((stored.measure raw).railCheck.supplyCheck).powerGuard).onAccent fun a => { a with raised := 0 }
      exec (.milkRoundEnd conv) s = .next (State.settle (checked.onHouse fun h => House.stepEntry (h.round + 1) { h with round := h.round + 1 }))) ∧
    (∀ conv : List Nat, s.on → s.house.therm.evals ≤ s.house.round →
      exec (.thermalEvaluation conv) s = .next (State.settle (s.evaluate (codes conv)))) ∧
    (∀ (l at0 : Nat), s.on → s.house.therm.next = some (l, at0) →
      exec .throttleLevelApply s = .next (State.settle { s with
        lamp := max s.lamp at0, house := { s.house with therm := { s.house.therm with level := l, next := none } } })) ∧
    (∀ (h : Int) (t : Therm), t.lT ≤ 2 →
      (1220 ≤ h → (t.judge h).lT = 2) ∧ (1180 ≤ h → 1 ≤ (t.judge h).lT) ∧ t.lT ≤ (t.judge h).lT + 1 ∧ (t.judge h).lT ≤ 2 ∧
      ((t.judge h).lT < t.lT → h < (if t.lT = 2 then 1190 else 1150) ∧ 7 ≤ t.cool) ∧
      (1100 ≤ h → (t.judge h).warn = true) ∧ (t.warn = true → (t.judge h).warn = false → h < 1070 ∧ 7 ≤ t.warnCool))

/-- A run's decision, the entry of its trims, and the save and restore of calibration. CAL_RUN_DECISION after both runs
marks every item agreed or disagreed, begins the entry of the agreed trims, its first step in the round that begins,
and completes OK, or DISAGREE with the agreed items. In 16 rounds an entry takes each trim from its old value to its
target and never beyond either. TRIM_ENTRY_COMPLETE counts and dates the items entered, by a run or a restore. SAVE
and RESTORE, with none in progress, begin where HK_CALSAVE lies in a partition that permits it and fail with 7
elsewhere; one in progress rejects them; a save writes the image, and a restore that passes enters its trims. (R283,
R286, R287, R288, R290, R291, R296) -/
def Obligations.CalibrationRows : Prop :=
  ∀ s : State,
    (∀ (c : CalRun) (r1 r2 : List Int), s.on → s.house.cal = some c → c.run1 = some r1 → c.run2 = some r2 →
      let good := agreedItems c r1 r2
      let bad := c.items - good
      let d := c.first + 1
      let marked (h : House) : House := { h with
        cal := none, agreed := good, disagreed := bad
        items := Vector.ofFn fun i => if bitAt good i.val then { h.items.get i with result := 1 }
          else if bitAt bad i.val then { h.items.get i with result := 2 } else h.items.get i }
      let entered := s.onHouse fun h => if good = 0 then marked h else ((marked h).beginEntry ⟨d, good, c.ref.tag⟩
        fun w => if bitAt good (itemOf w) then agreedValue c.tol w (r1.getD w 0) (r2.getD w 0) else none).stepEntry h.round
      let told := entered.calRecord 1 good bad c.ref.tag d
      exec .calRunDecision s = .next (State.settle
        (if bad = 0 then told.completeOk c.ref c.items else told.complete c.ref .disagree 0xFF good))) ∧
    (∀ (h : House) (e : TrimEntry) (r : Nat) (w : Fin 30), h.entry = some e →
      let old := (h.olds.get w).getD (h.trim w)
      let goal := (h.targets.get w).getD (h.trim w)
      let now := (h.stepEntry r).trim w
      (e.d + 16 ≤ r → now = goal) ∧ (r ≤ e.d → now = old) ∧ (old ≤ goal → old ≤ now ∧ now ≤ goal) ∧ (goal ≤ old → goal ≤ now ∧ now ≤ old)) ∧
    (∀ e : TrimEntry, s.on → s.house.entry = some e → e.d + 16 ≤ s.house.round →
      exec .trimEntryComplete s = .next (State.settle (State.calRecord 2 e.items 0 e.tag (e.d + 16) (s.onHouse fun h => { h with
        entry := none
        items := Vector.ofFn fun i => if bitAt e.items i.val
          then { h.items.get i with count := min 0xFFFF ((h.items.get i).count + 1), last := s.lamp / 100000000 % 2 ^ 32 }
          else h.items.get i })))) ∧
    (∀ (m : Master) (value : Word), s.serves m Reg.HK_CAL_CTL → s.calSaveBusy = true →
      (value.toNat % 4 = 1 → exec (.save m value) s = .next (State.settle (s.setFlag Reg.HK_CAL_RES 20))) ∧
      (value.toNat % 4 = 2 → exec (.restore m value) s = .next (State.settle (s.setFlag Reg.HK_CAL_RES 20)))) ∧
    (∀ (m : Master) (value : Word), s.serves m Reg.HK_CAL_CTL → s.house.cal = none → s.house.entry = none → s.house.save = none →
      s.house.restore = none →
      let a := s.calSaveAddr
      (value.toNat % 4 = 1 → exec (.save m value) s = .next (State.settle
        (if s.calSaveOk a = true then s.onHouse fun h => { h with save := some a } else s.calFailed 7))) ∧
      (value.toNat % 4 = 2 → exec (.restore m value) s = .next (State.settle
        (if s.calSaveOk a = true then s.onHouse fun h => { h with restore := some a } else s.calFailed 7)))) ∧
    (∀ a : Nat, s.on → s.house.save = some a →
      exec .saveDone s = .next (State.settle (State.calRecord 3 0 0 0 s.house.round ((s.dramWrite a s.house.image).onHouse fun h => { h with
        save := none, srResult := 1 })))) ∧
    (∀ a : Nat, s.on → s.house.restore = some a → s.dramGood a 160 = true →
      let b := s.dramRead a 160
      exec .restoreReadDone s = .next (State.settle (if restoreResult b = 2 then
          State.calRecord 4 (rd b 12 1) 0 0 s.house.round (s.onHouse fun h => House.beginEntry ⟨h.round, 0xFF, 0⟩
            (fun w => some (imageTrim b w)) { h with
              restore := none, srResult := 2
              items := Vector.ofFn fun i => { h.items.get i with
                count := rd b (88 + 2 * i.val) 2, last := 0xFFFFFFFF, restored := (h.items.get i).restored || bitAt (rd b 12 1) i.val } })
        else s.calFailed (restoreResult b))))

/-- PWM periods, fades, scan slots, lost edges, exchanges and clears of the accent driver. PWM_PERIOD_START comes on the
next multiple of 62.5 µs, and in direct mode every used channel latches its level and pulses. FADE_TICK comes every
millisecond, steps the fades, takes the bins and levels, and judges every unit. A served write of TARGET starts a fade
from the present index, and its ticks end at TARGET. A scan slot opens its line's gate, and its channels latch and
pulse. A lost MSYNC edge is told once and starts a scan. MSWAP asks for the exchange, and CLR for the clearing; a
channel whose group the Deal leaves unused discards the writes of TARGET and CLR. (R299, R301, R303, R304, R305, R306,
R307, R308, R309, R310, R314) -/
def Obligations.AccentRows : Prop :=
  ∀ s : State,
    (∀ samples : List PinSample, s.on →
      let next := (s.lamp + 6249) / 6250 * 6250
      let due := match s.accent.period with
        | some t => max (t + 6250) next
        | none => next
      let at0 := { s with lamp := max s.lamp due, accent := { s.accent with period := some due } }
      exec (.pwmPeriodStart samples) s = .next (State.settle (if s.accRuns = true ∧ s.matrixOn = false then
        forEach s.accChans (fun c t =>
          let u := t.latchLevel c
          u.accPulse c none 6250 (u.acc c).inForce (min 47 (u.fld (Reg.ACC_CH_CFG c) 13 8) * 6250 / 48) samples) at0 else at0))) ∧
    (∀ checks : List PinSample, s.on →
      let due := s.accent.fadeAt + 100000
      let at0 := { s with lamp := max s.lamp due, accent := { s.accent with fadeAt := due } }
      let stepped := if s.dev.state = .fatal then at0 else
        forEach s.accChans (fun c t => t.onAcc c fun x => { x with level := t.binLevel c })
          (forEach s.accChans (fun c t => t.onAcc c (·.fadeStep)) at0).takeBins
      exec (.fadeTick checks) s = .next (State.settle (if s.accRuns = true then
        forEach s.accChans (fun c t =>
          let u := (t.offCheck checks c).accClear c
          forEach u.accUnits (fun l t => (t.accJudge c l).probeArm c l) u) stepped else at0))) ∧
    (∀ (m : Master) (c : Fin 48) (value : Word), s.serves m (Reg.ACC_CH_FADE c) →
      exec (.target m c value) s = .next (State.settle (if s.accUnused c = true then s else
        (s.writeFields (Reg.ACC_CH_FADE c) [⟨9, 0, .rw, 0⟩, ⟨27, 16, .rw, 0⟩] value.toNat).fadeStart c))) ∧
    (∀ x : AccCh, 1 ≤ x.len → x.k = 0 → ((List.range x.len).foldl (fun y _ => y.fadeStep) x).index = x.target) ∧
    (∀ (samples : List PinSample) (t0 p j : Nat), s.on → s.accent.scan = some (t0, p, j) → j < 8 * (p / 50000) → s.matrixOn = true →
      s.accRuns = true →
      let line : Fin 8 := ⟨j % 8, Nat.mod_lt _ (by decide)⟩
      let len := slotAt p (j + 1) - slotAt p j
      let at0 := { s with
        lamp := max s.lamp (t0 + slotAt p j), accent := { s.accent with scan := some (t0, p, j + 1) }
        outbox := s.outbox ++ [Emission.gate line 50 (len - 100)] }
      exec (.scanSlotStart samples) s = .next (State.settle (forEach s.accChans (fun c t =>
        let u := t.latchLevel c
        u.accPulse c (some line) (len - 200) (mul16 (u.accent.cell (48 * line.val + c.val)) (u.acc c).inForce) 100 samples) at0))) ∧
    (∀ t0 p j : Nat, s.on → s.accent.scan = some (t0, p, j) → s.msync = true → s.matrixOn = true → s.accRuns = true →
      let lost := ((State.setFlag Reg.ACC_EVT 5 { s with lamp := max s.lamp (t0 + p * 3 / 2) }).onAccent fun a => { a with lost := true }).scanStart p
      exec .msyncLost s = .next (State.settle (if s.accent.lost = true then lost else lost.matrixRecord 1 p))) ∧
    (∀ (m : Master) (value : Word), s.serves m Reg.ACC_MCTL → bitAt value.toNat 0 = true →
      exec (.mswap m value) s = .next (State.settle { s with accent := { s.accent with mswap := true } })) ∧
    (∀ (m : Master) (c : Fin 48) (value : Word), s.serves m (Reg.ACC_CH_CTL c) → bitAt value.toNat 0 = true →
      exec (.clr m c value) s = .next (State.settle (if s.accUnused c = true then s else s.onAcc c fun x => { x with clr := true })))

/-- Raises, injections, broken pairs, clears and the reaction timer, and the entries to SAFE_LIGHT and FATAL that they
make due. FAULT_INPUT_RAISE, BROKEN_PAIR and a served write of FLT_INJECT raise the input in its class, a broken class
C input in class D; a pair that read invalid less than 1 ms before is not raised again; an input that no table lists
is never raised. Input 112 also sets PTN_EVT bit 4 and counts. A write of 1 to VALID clears the latch. A write to
FLT_PENDw clears the bits written as 1, but no class F bit in FATAL, and the timer stops with the last class U bit. At
expiry the timer stops, EXPIRED is set, and from LIT or HOLD, with no class F bit pending, an entry to SAFE_LIGHT is
due. A due entry to FATAL or SAFE_LIGHT is taken at the end of the command, and STATE, PREV and CAUSE say so. (R50,
R316, R317, R318, R319, R320, R321, R340) -/
def Obligations.RaisesAndTheirEntries : Prop :=
  ∀ s : State,
    (∀ (i : Fin 128) (d : BitVec 16), s.on →
      let shown := if i.val = 112 then (s.setFlag Reg.PTN_EVT 4).onPartner fun p => { p with laneErrFrames := min 0xFFFF (p.laneErrFrames + 1) } else s
      (faultClass i = 0 → exec (.faultInputRaise i d) s = .next s.settle ∧ exec (.brokenPair i) s = .next s.settle) ∧
      (faultClass i ≠ 0 →
        (∃ x : State, exec (.faultInputRaise i d) s = .next x.settle ∧ shown.raised i (faultClass i) d.toNat false false x ∧
          x.faults.broken = s.faults.broken) ∧
        let seen := (i.val, s.lamp) :: s.faults.brokenAt.filter fun b => b.1 ≠ i.val
        ((∃ b ∈ s.faults.brokenAt, b.1 = i.val ∧ s.lamp < b.2 + 100000) →
          exec (.brokenPair i) s = .next (State.settle (s.onFaults fun f => { f with brokenAt := seen }))) ∧
        ((∀ b ∈ s.faults.brokenAt, b.1 = i.val → b.2 + 100000 ≤ s.lamp) →
          ∃ x : State, exec (.brokenPair i) s = .next x.settle ∧ s.raised i (max 2 (faultClass i)) 0xFFFF false true x ∧
            x.faults.broken = s.faults.broken ||| (1#128 <<< i.val) ∧ x.faults.brokenAt = seen))) ∧
    (∀ (m : Master) (value : Word), s.serves m Reg.FLT_INJECT →
      let i := value.toNat % 128
      (faultClass i = 0 → exec (.fltInject m value) s = .next s.settle) ∧
      (faultClass i ≠ 0 → ∃ x : State, exec (.fltInject m value) s = .next x.settle ∧
        s.raised i (faultClass i) (value.toNat / 65536) true false x ∧ x.faults.broken = s.faults.broken)) ∧
    (∀ (m : Master) (value : Word), s.serves m Reg.FLT_FIRST →
      (bitAt value.toNat 12 = true → exec (.valid m value) s = .next (State.settle { s with faults := { s.faults with first := none } })) ∧
      (bitAt value.toNat 12 = false → exec (.valid m value) s = .next s.settle)) ∧
    (∀ (m : Master) (w : Fin 4) (value : Word), s.serves m (Reg.FLT_PEND w) → ∃ x : State, exec (.faultPendClear m w value) s = .next x.settle ∧
      x.beyond = s.beyond ∧ x.regs = s.regs ∧
      (∀ i : Fin 128, x.faults.pend.getLsbD i = (s.faults.pend.getLsbD i &&
        !(decide (i.val / 32 = w.val) && bitAt value.toNat (i.val % 32) && !(decide (s.dev.state = .fatal) && decide (faultClass i = 4))))) ∧
      x.faults.first = s.faults.first ∧ x.faults.cntC = s.faults.cntC ∧ x.faults.cntD = s.faults.cntD ∧ x.faults.broken = s.faults.broken ∧
      (x.faults.urgent = 0 → x.faults.timer = none ∧ x.faults.expired = false) ∧
      (x.faults.urgent ≠ 0 → x.faults.timer = s.faults.timer ∧ x.faults.expired = s.faults.expired)) ∧
    (∀ t : ReactTimer, s.on → s.faults.timer = some t → ∃ x : State, exec .reactionTimerExpiry s = .next x.settle ∧
      x.dev = s.dev ∧ x.lamp = max s.lamp (t.start + t.ms * 100000) ∧ x.faults.pend = s.faults.pend ∧
      x.faults.timer = none ∧ x.faults.expired = true ∧ x.faults.fatalDue = s.faults.fatalDue ∧
      ((s.dev.state = .lit ∨ s.dev.state = .hold) → s.faults.fatal = 0 → s.faults.safeDue = none → x.faults.safeDue = some 0x09) ∧
      (¬(s.dev.state = .lit ∨ s.dev.state = .hold) ∨ s.faults.fatal ≠ 0 → x.faults.safeDue = s.faults.safeDue)) ∧
    (∀ c : Nat, s.faults.fatalDue = some c → s.on → s.dev.state ≠ .pasteurise → s.dev.state ≠ .fatal →
      s.settle.dev.state = .fatal ∧ s.settle.dev.prev = s.dev.state.code ∧ s.settle.dev.cause = c) ∧
    (∀ c : Nat, s.faults.fatalDue = none → s.faults.safeDue = some c → (s.dev.state = .lit ∨ s.dev.state = .hold) →
      s.settle.dev.state = .safeLight ∧ s.settle.dev.prev = s.dev.state.code ∧ s.settle.dev.cause = c)

/-- The partner link's locks, losses and time limits, and the messages of a pair. A declared partner that is not found in
64 frames is told once. A lane's lock is noted, and both lanes end the search. Joins and paired re-deals time out
after 1,000 ms. A join that has come to step 5 locks when each chip has every declared tile admitted on its own lane.
PARTNER_LOSS and a fatal notice make a locked chip take over; outside LOCKED the link's lock is lost. A locked
secondary takes the primary's tick, outputs, commands and cut data; a locked chip's safe light is due with cause 16; a
leave waits for the tick. A message that the pair's state does not expect changes nothing. What a takeover does, a
leave of the partner included: state ALONE, counted, PTN_LINK_LOST and PTN_TAKEOVER raised. (R328, R329, R331, R333,
R334, R335, R336, R337, R339) -/
def Obligations.PartnerRows : Prop :=
  ∀ s : State, s.on →
    (∀ k : Nat, s.partner.waitFrames = some k → 64 ≤ k → exec .ptnNotFound s = .next (State.settle (State.partnerRecord 5 0 (State.raise 116 0
      (State.setFlag Reg.PTN_EVT 3 (s.onPartner fun p => { p with waitFrames := none, missing := true })))))) ∧
    ((∀ k ∈ s.partner.waitFrames, k < 64) → exec .ptnNotFound s = .next s.settle) ∧
    (∀ (lane : Fin 2) (delay : BitVec 16),
      (s.role = 0 → exec (.partnerLinkLock lane delay) s = .next s.settle) ∧
      (s.role ≠ 0 → s.partner.join = none →
        let locks := s.partner.laneLock ||| (1#2 <<< lane.val)
        exec (.partnerLinkLock lane delay) s = .next (State.settle (s.onPartner fun p => { p with
          laneLock := locks, delay := delay.toNat
          waitFrames := if locks = 3 then none else p.waitFrames, missing := if locks = 3 then false else p.missing })))) ∧
    (∀ (ref : CmdRef) (since : Nat), s.partner.join = some (ref, since) →
      exec .partnerJoinTimeout s = .next (State.settle (State.joinEnds .timeout (State.completeWith ref .timeout
        { s with lamp := max s.lamp (since + 100000000) }))) ∧
      (s.joinEnds .timeout).partner = { s.partner with
        state := 0, join := none, joinStep := 0, adopt := none, adopted := false, timing := none }) ∧
    (∀ r : Redeal, s.deal.redeal = some r → s.partner.state = 2 → r.paired = false → r.taken = false →
      exec .partnerRedealTimeout s = .next (State.settle (State.completeWith r.ref .timeout
        { s with lamp := max s.lamp (r.verified + 100000000), deal := { s.deal with redeal := none } }))) ∧
    (∀ c : LossCause,
      (s.partner.state = 2 → exec (.partnerLoss c) s = .next (State.settle (s.takeover
        (match c with | .lanesUnlocked => 1 | .silence => 2 | .fatalNotice => 3)))) ∧
      (s.partner.state ≠ 2 → c ≠ .lanesUnlocked ∨ s.partner.laneLock = 0 → exec (.partnerLoss c) s = .next s.settle) ∧
      (s.partner.state ≠ 2 → c = .lanesUnlocked → s.partner.laneLock ≠ 0 → exec (.partnerLoss c) s = .next (State.settle
        (State.partnerRecord 2 0 (State.raise 113 s.partner.laneLock.toNat
          (State.setFlag Reg.PTN_EVT 0 (s.onPartner fun p => { p with laneLock := 0 }))))))) ∧
    (s.partner.state = 2 → s.partner.held = [] → ∀ c ∈ [1, 2, 3, 4],
      (s.takeover c).partner.state = 3 ∧ (s.takeover c).partner.takeovers = min 0xFFFF (s.partner.takeovers + 1) ∧
      (s.takeover c).partner.laneLock = (if c = 1 then 0 else s.partner.laneLock) ∧
      (s.takeover c).dev.state = s.dev.state ∧ (s.takeover c).faults.pend.getLsbD 113 = true ∧
      (s.takeover c).faults.pend.getLsbD 114 = true) ∧
    (s.lockedSecondary = false → ∀ msg : PartnerMsg,
      (∃ n f l p, msg = .plan n f l p) ∨ (∃ n l c, msg = .digest n l c) ∨ (∃ n a b c d, msg = .cutData n a b c d) ∨
        (∃ v, msg = .outputs v) ∨ (∃ o c, msg = .command o c) ∨ (∃ f, msg = .redealCut f) →
      exec (.partnerMessage msg) s = .next s.settle) ∧
    (s.partner.state ≠ 2 → exec (.partnerMessage .safeLight) s = .next s.settle ∧ exec (.partnerMessage .fatal) s = .next s.settle ∧
      exec (.partnerMessage .leave) s = .next s.settle) ∧
    (s.lockedSecondary = true →
      (∀ t : PeerTick, exec (.partnerMessage (.tick t)) s = .next (State.settle { s with
        partner := { s.partner with timing := some t, offset := (s.free % 5 + 65534) % 65536 }, freeSeq := s.freeSeq + 1 })) ∧
      (∀ v : List (Nat × Int), exec (.partnerMessage (.outputs v)) s = .next (State.settle (s.onPartner fun p => { p with outs := v }))) ∧
      (∀ f : Nat, exec (.partnerMessage (.redealCut f)) s = .next (State.settle (s.onPartner fun p => { p with redealCut := some f }))) ∧
      (∀ (op : Nat) (c : Cmd), isStateCmd op = true ∨ op = 0x13 → exec (.partnerMessage (.command op c)) s = .next (State.settle
        (s.onPartner fun p => { p with cmds := p.cmds ++ [(op, c)] }))) ∧
      (∀ (n : TileId) (a : List (Nat × Nat)) (b : List ((Nat × Nat) × Nat)) (c d : Nat), s.timing.pastCut = false →
        exec (.partnerMessage (.cutData n a b c d)) s = .next (State.settle (s.onPartner fun p => { p with cuts := p.cuts ++ [⟨n, a, b, c, d⟩] })))) ∧
    (s.partner.state = 2 →
      exec (.partnerMessage .fatal) s = .next (State.settle (s.takeover 3)) ∧
      exec (.partnerMessage .leave) s = .next (State.settle (s.onPartner fun p => { p with leaveDue := true })) ∧
      ((s.dev.state = .lit ∨ s.dev.state = .hold) → s.faults.safeDue = none →
        exec (.partnerMessage .safeLight) s = .next (State.settle (s.onFaults fun f => { f with safeDue := some 0x10 })))) ∧
    (∀ mask : BitVec 16, s.partner.join ≠ none →
      let told := s.onPartner fun p => { p with peerAdmitted := mask }
      let both := s.partner.joinStep = 5 ∧ ∀ n : TileId, s.declared n = true → s.partner.ownAdmitted.getLsbD n.val = true ∧ mask.getLsbD n.val = true
      (¬both → exec (.partnerMessage (.admitted mask)) s = .next told.settle) ∧
      (both → exec (.partnerMessage (.admitted mask)) s = .next (State.settle told.joinLock) ∧ told.joinLock.partner.state = 2 ∧
        told.joinLock.partner.join = none)) ∧
    (∀ p : PeerInfo, s.role ≠ 0 → s.partner.join = none → exec (.partnerMessage (.hello p)) s = .next (State.settle
      (s.onPartner fun x => { x with peer := some p })))

/-- A register write acts on each field by its access code, and on nothing else; and it is the command row of its
register. A write that is not 32 bits wide and naturally aligned, in PASTEURISE, or of a register that the host may
not write changes nothing. A served write to a register whose fields say all that it does sets each RW field, holds
each RWS field pending and leaves it in force, clears the W1C bits written as 1, and leaves every other field,
register and part of the state alone. A write to a register that has a command row of its own is that command. (R4,
R7, R388, R398, R409, R411) -/
def Obligations.RegisterWrites : Prop :=
  (∀ (s : State) (m : Master) (off : BitVec 24) (size : Nat) (value : Word), s.on →
    (m = .host ∧ s.host.linkUp = false) ∨ ((m = .host → s.host.linkUp = true ∧ s.host.d3hot = false) ∧
      (size ≠ 4 ∨ off.toNat % 4 ≠ 0 ∨ s.dev.state = .pasteurise ∨ (m = .host ∧ hostDiscards off.toNat = true) ∨
        bitAt s.domainsOn (domainOf off.toNat) = false)) →
    exec (.registerWrite m off size value) s = .next s.settle) ∧
  (∀ (s : State) (off : BitVec 24) (size : Nat) (value : Word), s.on → s.host.linkUp = true → s.host.d3hot = true →
    exec (.registerWrite .host off size value) s = .next (State.settle { s with outbox := s.outbox ++ [.unsupported] })) ∧
  (∀ (s : State) (m : Master) (off : BitVec 24) (value : Word) (r : RegRow) (is : List Nat), s.quiet → s.serves m off.toNat →
    off.toNat % 4 = 0 → regAt off.toNat = some (r, is) → findHook r.base = none → r.base ≠ Reg.INTC_HAND_CLAIM 0 → r.base ≠ Reg.CHN_TC 0 0 0 →
    ¬(0x00F000 ≤ off.toNat ∧ off.toNat < 0x00F100) → ¬(0x440000 ≤ off.toNat ∧ off.toNat < 0x480000) →
    ∃ t, exec (.registerWrite m off 4 value) s = .next t ∧
      (∀ f ∈ r.flds,
        let old := bitsOf (s.reg off.toNat).toNat f.hi f.lo
        let new := bitsOf (t.reg off.toNat).toNat f.hi f.lo
        let put := bitsOf value.toNat f.hi f.lo
        (f.acc = .rw → new = put) ∧ (f.acc = .w1c → new = old - (old &&& put)) ∧
        (f.acc ≠ .rw → f.acc ≠ .w1c → new = old) ∧ (f.acc = .rws → bitsOf (t.regPend off.toNat).toNat f.hi f.lo = put)) ∧
      (∀ o, o ≠ off.toNat → o ≠ Reg.DEV_AUDIT_STAT → t.reg o = s.reg o ∧ t.regPend o = s.regPend o) ∧
      t.beyond = { s.beyond with rws := t.rws }) ∧
  (∀ (s : State) (m : Master) (value : Word),
    let writes (off : Nat) (i : Instr) : Prop := exec (.registerWrite m (BitVec.ofNat 24 off) 4 value) s = exec i s
    (∀ r : RingId, writes (Reg.DEV_RING_SQ_TAIL r) (.sqTailWrite m r value) ∧ writes (Reg.DEV_RING_CQ_HEAD r) (.cqHeadWrite m r value) ∧
      writes (Reg.DEV_RING_CFG r) (.ringEnable m r value) ∧ writes (Reg.DEV_RING_STAT r) (.ringErrorClear m r value)) ∧
    (∀ q : QueueId, writes (Reg.EVQ_CFG q) (.evqEnable m q value) ∧ writes (Reg.EVQ_CONS q) (.cons m q value) ∧
      writes (Reg.EVQ_CTL q) (.arm m q value) ∧ writes (Reg.EVQ_STAT q) (.writeErrClear m q value)) ∧
    (∀ h : Fin 2, writes (Reg.INTC_HAND_CLAIM h) (.claimWrite m h value)) ∧
    (∀ (h : Fin 2) (w : Fin 12), writes (Reg.INTC_HAND_PEND h w) (.pendingWithdraw m h w value)) ∧
    (∀ w : Fin 4, writes (Reg.FLT_PEND w) (.faultPendClear m w value)) ∧
    (∀ n : TileId, writes (Reg.TL_LANE_PWR n) (.ls2Request m n value) ∧ writes (Reg.TL_DIAG_CTL n) (.fmapInit m n value)) ∧
    (∀ c : Fin 4, writes (Reg.CTL_TRC_CTL c) (.traceArm m c value)) ∧
    (∀ c : Fin 48, writes (Reg.ACC_CH_FADE c) (.target m c value) ∧ writes (Reg.ACC_CH_CTL c) (.clr m c value)) ∧
    writes Reg.FLT_FIRST (.valid m value) ∧ writes Reg.FLT_INJECT (.fltInject m value) ∧ writes Reg.HK_CAL_CTL (.save m value) ∧
    writes Reg.ACC_MCTL (.mswap m value))

/-- Reserved offsets and the range 0x800000 to 0xFFFFFF read 0 and discard writes; DEV_IDENT reads 0x51543216. A read of a
reserved offset within a block, or of an offset of the BAR0 range 0x800000 to 0xFFFFFF, answers zeros of the size read
and changes nothing else. A write of any size to one changes nothing. DEV_IDENT, at offset 0, reads 0x51543216 in
every device state but OFF. (R1, R6) -/
def Obligations.ReservedOffsetsAndIdent : Prop :=
  ∀ (s : State) (m : Master), s.on → (m = .host → s.host.linkUp = true ∧ s.host.d3hot = false) →
    (∀ (off : BitVec 24) (size : Nat) (value : Word),
      (regAt (off.toNat / 4 * 4) = none ∧ ¬(0x00F000 ≤ off.toNat ∧ off.toNat < 0x00F100) ∧ ¬(0x00F800 ≤ off.toNat ∧ off.toNat < 0x00F804) ∧
        ¬(0x400000 ≤ off.toNat ∧ off.toNat < 0x480000)) ∨ 0x800000 ≤ off.toNat →
      exec (.latchingPairRead m off size) s = .next (State.settle { s with
        outbox := s.outbox ++ [.regRead m off.toNat (List.replicate size 0)] }) ∧
      exec (.registerWrite m off size value) s = .next s.settle) ∧
    exec (.latchingPairRead m (BitVec.ofNat 24 Reg.DEV_IDENT) 4) s = .next (State.settle { s with
      outbox := s.outbox ++ [.regRead m 0 [0x16, 0x32, 0x54, 0x51]] })

/-- Claims complete from the top, every claim raises RUN strictly, and a stack of claims is at most 15 deep. A core's
served write of the ID on top of a hand's stack pops it, and RUN falls to the value below. A write of any other ID
leaves the stack as it is and sets COMPLETE_ERR. A claim that returns a source raises RUN strictly, so a stack whose
priorities rise strictly and lie from 1 to 15 stays so and has at most 15 claims. A source wins arbitration only where
its priority exceeds RUN, and where some source may, one wins. (R350) -/
def Obligations.ClaimsNest : Prop :=
  let nested (l : List (Nat × Nat)) : Prop := (l.map (·.2)).Pairwise (· > ·) ∧ ∀ x ∈ l, 1 ≤ x.2 ∧ x.2 ≤ 15
  (∀ l : List (Nat × Nat), nested l → l.length ≤ 15) ∧
  ∀ (s : State) (h : Fin 2),
    let core (s : State) : CoreHand := s.intc.cores.get h
    (∀ value : Word, s.serves .core (Reg.INTC_HAND_CLAIM h) →
      (∀ (top : Nat × Nat) (rest : List (Nat × Nat)), (core s).stack = top :: rest → top.1 = value.toNat % 1024 →
        ∃ x : State, exec (.claimWrite .core h value) s = .next x.settle ∧ (core x).stack = rest ∧ (core x).run = (rest.map (·.2)).headD 0 ∧
          (core x).completeErr = (core s).completeErr ∧ (nested (core s).stack → nested (core x).stack ∧ (core x).run < (core s).run)) ∧
      ((∀ top ∈ (core s).stack.head?, top.1 ≠ value.toNat % 1024) →
        ∃ x : State, exec (.claimWrite .core h value) s = .next x.settle ∧ (core x).stack = (core s).stack ∧ (core x).completeErr = true)) ∧
    (s.on → ∃ x : State, exec (.claimRead .core h) s = .next x.settle ∧ ((core x).stack = (core s).stack ∨
      ((core x).stack = ((core s).selected, s.srcPrio (core s).selected) :: (core s).stack ∧ (core s).run < (core x).run ∧
        (nested (core s).stack → nested (core x).stack)))) ∧
    ((core s).selected = 0 → ∀ src : Nat, (core (s.arbitrate h)).selected = src → src ≠ 0 →
      (core s).pend.getLsbD src = true ∧ (core s).run < s.srcPrio src ∧
      ∀ other : Nat, 1 ≤ other → other < 384 → s.claimable h other = true → s.srcPrio other ≤ s.srcPrio src) ∧
    ((core s).selected = 0 → ∀ other : Nat, 1 ≤ other → other < 384 → s.claimable h other = true → (core (s.arbitrate h)).selected ≠ 0)

/-- A step carries out the command at the front of the queue; with an empty queue the block idles. At a state whose queue
has command c in front, step is exec of c on the state with the queue's rest. With an empty queue step answers the
state with the lamp clock one count on, and in OFF the state itself; that idling is the model's choice (log 17). (R57,
R86) -/
def Obligations.StepTakesTheFrontCommand : Prop :=
  (∀ (s : State) (c : Instr) (rest : List Instr), step { s with pending := c :: rest } = exec c { s with pending := rest }) ∧
  (∀ s : State, s.pending = [] → step s = .next (if s.dev.state = .off then s else { s with lamp := s.lamp + 1 }))

/-- After every step the fault pins signal the device's condition, and no entry to SAFE_LIGHT or FATAL is left due but one
to FATAL in PASTEURISE. If the FAULT pins signal what the device state, the class U and F pending bits and, with
PIN_D, the class D bits ask for, and no entry to SAFE_LIGHT or FATAL stands due (one to FATAL may in PASTEURISE, where
it waits for BOOT: log 95), then the same holds after every step, whatever the command. After a step with a command in
the queue both hold whatever held before. (R50, R318, R322, R323, R326) -/
def Obligations.EveryStepLeavesPinsAndEntriesInOrder : Prop :=
  (∀ s t : State, s.pinsFollow → s.entriesTaken → step s = .next t → t.pinsFollow ∧ t.entriesTaken) ∧
  (∀ s t : State, s.pending ≠ [] → step s = .next t → t.pinsFollow ∧ t.entriesTaken) ∧
  (∀ s : State, s.pending ≠ [] → ∃ t, step s = .next t)

/-- The state after reset: PASTEURISE, every register at its reset value, memories in canonical form, the pins signalling
FAULT. After reset the device is in PASTEURISE with an empty queue and nothing emitted, every register word has the
value of its table, no pending bit or latch is set, the pins signal FAULT and follow the condition, no entry is due,
the frame count and the lamp clock are 0, the rings are disabled, and the memories keep their canonical form. (R18,
R50, R56, R322, R340) -/
def Obligations.ResetState : Prop :=
  State.reset.pinsFollow ∧ State.reset.quiet ∧ State.reset.memoryWf = true ∧ State.reset.pending = [] ∧ State.reset.outbox = [] ∧
  State.reset.dev.state = .pasteurise ∧ State.reset.dev.litSet = 0 ∧ (∀ off, State.reset.reg off = resetWord off ∧ State.reset.regPend off = resetWord off) ∧
  State.reset.faults.pend = 0 ∧ State.reset.faults.first = none ∧ State.reset.faults.timer = none ∧ State.reset.faults.pinFault = true ∧
  State.reset.timing.frame = 0 ∧ State.reset.timing.started = false ∧ State.reset.lamp = 0 ∧
  (∀ r : RingId, (State.reset.ring r).enable = false) ∧ (∀ q : QueueId, State.reset.evqEnabled q = false) ∧
  (∀ n : TileId, (State.reset.port n).admitted = false) ∧ State.reset.deal.inForce = none
end

