-- ==== Sys2Proof/Laws/State.lean ====
section
/-! SUPPORT. What each update of the state does to each of its fields: one lemma per field and update, true by definition. -/

namespace Sys2Proof.Machine

open Sys2Proof

/-! ### onDev -/

@[simp] theorem State.onDev_pending (s : State) (f : Dev → Dev) : (s.onDev f).pending = s.pending := rfl
@[simp] theorem State.onDev_lamp (s : State) (f : Dev → Dev) : (s.onDev f).lamp = s.lamp := rfl
@[simp] theorem State.onDev_freeSeq (s : State) (f : Dev → Dev) : (s.onDev f).freeSeq = s.freeSeq := rfl
@[simp] theorem State.onDev_outbox (s : State) (f : Dev → Dev) : (s.onDev f).outbox = s.outbox := rfl
@[simp] theorem State.onDev_regs (s : State) (f : Dev → Dev) : (s.onDev f).regs = s.regs := rfl
@[simp] theorem State.onDev_rws (s : State) (f : Dev → Dev) : (s.onDev f).rws = s.rws := rfl
@[simp] theorem State.onDev_dram (s : State) (f : Dev → Dev) : (s.onDev f).dram = s.dram := rfl
@[simp] theorem State.onDev_dramBad (s : State) (f : Dev → Dev) : (s.onDev f).dramBad = s.dramBad := rfl
@[simp] theorem State.onDev_coreMem (s : State) (f : Dev → Dev) : (s.onDev f).coreMem = s.coreMem := rfl
@[simp] theorem State.onDev_fwLog (s : State) (f : Dev → Dev) : (s.onDev f).fwLog = s.fwLog := rfl
@[simp] theorem State.onDev_pins (s : State) (f : Dev → Dev) : (s.onDev f).pins = s.pins := rfl
@[simp] theorem State.onDev_dev (s : State) (f : Dev → Dev) : (s.onDev f).dev = f s.dev := rfl
@[simp] theorem State.onDev_deal (s : State) (f : Dev → Dev) : (s.onDev f).deal = s.deal := rfl
@[simp] theorem State.onDev_rings (s : State) (f : Dev → Dev) : (s.onDev f).rings = s.rings := rfl
@[simp] theorem State.onDev_dealer (s : State) (f : Dev → Dev) : (s.onDev f).dealer = s.dealer := rfl
@[simp] theorem State.onDev_timing (s : State) (f : Dev → Dev) : (s.onDev f).timing = s.timing := rfl
@[simp] theorem State.onDev_faults (s : State) (f : Dev → Dev) : (s.onDev f).faults = s.faults := rfl
@[simp] theorem State.onDev_partner (s : State) (f : Dev → Dev) : (s.onDev f).partner = s.partner := rfl
@[simp] theorem State.onDev_intc (s : State) (f : Dev → Dev) : (s.onDev f).intc = s.intc := rfl
@[simp] theorem State.onDev_host (s : State) (f : Dev → Dev) : (s.onDev f).host = s.host := rfl
@[simp] theorem State.onDev_feed (s : State) (f : Dev → Dev) : (s.onDev f).feed = s.feed := rfl
@[simp] theorem State.onDev_memc (s : State) (f : Dev → Dev) : (s.onDev f).memc = s.memc := rfl
@[simp] theorem State.onDev_power (s : State) (f : Dev → Dev) : (s.onDev f).power = s.power := rfl
@[simp] theorem State.onDev_churns (s : State) (f : Dev → Dev) : (s.onDev f).churns = s.churns := rfl
@[simp] theorem State.onDev_trumpSels (s : State) (f : Dev → Dev) : (s.onDev f).trumpSels = s.trumpSels := rfl
@[simp] theorem State.onDev_scalers (s : State) (f : Dev → Dev) : (s.onDev f).scalers = s.scalers := rfl
@[simp] theorem State.onDev_skim (s : State) (f : Dev → Dev) : (s.onDev f).skim = s.skim := rfl
@[simp] theorem State.onDev_phots (s : State) (f : Dev → Dev) : (s.onDev f).phots = s.phots := rfl
@[simp] theorem State.onDev_pot (s : State) (f : Dev → Dev) : (s.onDev f).pot = s.pot := rfl
@[simp] theorem State.onDev_ports (s : State) (f : Dev → Dev) : (s.onDev f).ports = s.ports := rfl
@[simp] theorem State.onDev_tiles (s : State) (f : Dev → Dev) : (s.onDev f).tiles = s.tiles := rfl
@[simp] theorem State.onDev_diags (s : State) (f : Dev → Dev) : (s.onDev f).diags = s.diags := rfl
@[simp] theorem State.onDev_ctl (s : State) (f : Dev → Dev) : (s.onDev f).ctl = s.ctl := rfl
@[simp] theorem State.onDev_house (s : State) (f : Dev → Dev) : (s.onDev f).house = s.house := rfl
@[simp] theorem State.onDev_accent (s : State) (f : Dev → Dev) : (s.onDev f).accent = s.accent := rfl

/-! ### onDeal -/

@[simp] theorem State.onDeal_pending (s : State) (f : DealStore → DealStore) : (s.onDeal f).pending = s.pending := rfl
@[simp] theorem State.onDeal_lamp (s : State) (f : DealStore → DealStore) : (s.onDeal f).lamp = s.lamp := rfl
@[simp] theorem State.onDeal_freeSeq (s : State) (f : DealStore → DealStore) : (s.onDeal f).freeSeq = s.freeSeq := rfl
@[simp] theorem State.onDeal_outbox (s : State) (f : DealStore → DealStore) : (s.onDeal f).outbox = s.outbox := rfl
@[simp] theorem State.onDeal_regs (s : State) (f : DealStore → DealStore) : (s.onDeal f).regs = s.regs := rfl
@[simp] theorem State.onDeal_rws (s : State) (f : DealStore → DealStore) : (s.onDeal f).rws = s.rws := rfl
@[simp] theorem State.onDeal_dram (s : State) (f : DealStore → DealStore) : (s.onDeal f).dram = s.dram := rfl
@[simp] theorem State.onDeal_dramBad (s : State) (f : DealStore → DealStore) : (s.onDeal f).dramBad = s.dramBad := rfl
@[simp] theorem State.onDeal_coreMem (s : State) (f : DealStore → DealStore) : (s.onDeal f).coreMem = s.coreMem := rfl
@[simp] theorem State.onDeal_fwLog (s : State) (f : DealStore → DealStore) : (s.onDeal f).fwLog = s.fwLog := rfl
@[simp] theorem State.onDeal_pins (s : State) (f : DealStore → DealStore) : (s.onDeal f).pins = s.pins := rfl
@[simp] theorem State.onDeal_dev (s : State) (f : DealStore → DealStore) : (s.onDeal f).dev = s.dev := rfl
@[simp] theorem State.onDeal_deal (s : State) (f : DealStore → DealStore) : (s.onDeal f).deal = f s.deal := rfl
@[simp] theorem State.onDeal_rings (s : State) (f : DealStore → DealStore) : (s.onDeal f).rings = s.rings := rfl
@[simp] theorem State.onDeal_dealer (s : State) (f : DealStore → DealStore) : (s.onDeal f).dealer = s.dealer := rfl
@[simp] theorem State.onDeal_timing (s : State) (f : DealStore → DealStore) : (s.onDeal f).timing = s.timing := rfl
@[simp] theorem State.onDeal_faults (s : State) (f : DealStore → DealStore) : (s.onDeal f).faults = s.faults := rfl
@[simp] theorem State.onDeal_partner (s : State) (f : DealStore → DealStore) : (s.onDeal f).partner = s.partner := rfl
@[simp] theorem State.onDeal_intc (s : State) (f : DealStore → DealStore) : (s.onDeal f).intc = s.intc := rfl
@[simp] theorem State.onDeal_host (s : State) (f : DealStore → DealStore) : (s.onDeal f).host = s.host := rfl
@[simp] theorem State.onDeal_feed (s : State) (f : DealStore → DealStore) : (s.onDeal f).feed = s.feed := rfl
@[simp] theorem State.onDeal_memc (s : State) (f : DealStore → DealStore) : (s.onDeal f).memc = s.memc := rfl
@[simp] theorem State.onDeal_power (s : State) (f : DealStore → DealStore) : (s.onDeal f).power = s.power := rfl
@[simp] theorem State.onDeal_churns (s : State) (f : DealStore → DealStore) : (s.onDeal f).churns = s.churns := rfl
@[simp] theorem State.onDeal_trumpSels (s : State) (f : DealStore → DealStore) : (s.onDeal f).trumpSels = s.trumpSels := rfl
@[simp] theorem State.onDeal_scalers (s : State) (f : DealStore → DealStore) : (s.onDeal f).scalers = s.scalers := rfl
@[simp] theorem State.onDeal_skim (s : State) (f : DealStore → DealStore) : (s.onDeal f).skim = s.skim := rfl
@[simp] theorem State.onDeal_phots (s : State) (f : DealStore → DealStore) : (s.onDeal f).phots = s.phots := rfl
@[simp] theorem State.onDeal_pot (s : State) (f : DealStore → DealStore) : (s.onDeal f).pot = s.pot := rfl
@[simp] theorem State.onDeal_ports (s : State) (f : DealStore → DealStore) : (s.onDeal f).ports = s.ports := rfl
@[simp] theorem State.onDeal_tiles (s : State) (f : DealStore → DealStore) : (s.onDeal f).tiles = s.tiles := rfl
@[simp] theorem State.onDeal_diags (s : State) (f : DealStore → DealStore) : (s.onDeal f).diags = s.diags := rfl
@[simp] theorem State.onDeal_ctl (s : State) (f : DealStore → DealStore) : (s.onDeal f).ctl = s.ctl := rfl
@[simp] theorem State.onDeal_house (s : State) (f : DealStore → DealStore) : (s.onDeal f).house = s.house := rfl
@[simp] theorem State.onDeal_accent (s : State) (f : DealStore → DealStore) : (s.onDeal f).accent = s.accent := rfl

/-! ### onDealer -/

@[simp] theorem State.onDealer_pending (s : State) (f : Dealer → Dealer) : (s.onDealer f).pending = s.pending := rfl
@[simp] theorem State.onDealer_lamp (s : State) (f : Dealer → Dealer) : (s.onDealer f).lamp = s.lamp := rfl
@[simp] theorem State.onDealer_freeSeq (s : State) (f : Dealer → Dealer) : (s.onDealer f).freeSeq = s.freeSeq := rfl
@[simp] theorem State.onDealer_outbox (s : State) (f : Dealer → Dealer) : (s.onDealer f).outbox = s.outbox := rfl
@[simp] theorem State.onDealer_regs (s : State) (f : Dealer → Dealer) : (s.onDealer f).regs = s.regs := rfl
@[simp] theorem State.onDealer_rws (s : State) (f : Dealer → Dealer) : (s.onDealer f).rws = s.rws := rfl
@[simp] theorem State.onDealer_dram (s : State) (f : Dealer → Dealer) : (s.onDealer f).dram = s.dram := rfl
@[simp] theorem State.onDealer_dramBad (s : State) (f : Dealer → Dealer) : (s.onDealer f).dramBad = s.dramBad := rfl
@[simp] theorem State.onDealer_coreMem (s : State) (f : Dealer → Dealer) : (s.onDealer f).coreMem = s.coreMem := rfl
@[simp] theorem State.onDealer_fwLog (s : State) (f : Dealer → Dealer) : (s.onDealer f).fwLog = s.fwLog := rfl
@[simp] theorem State.onDealer_pins (s : State) (f : Dealer → Dealer) : (s.onDealer f).pins = s.pins := rfl
@[simp] theorem State.onDealer_dev (s : State) (f : Dealer → Dealer) : (s.onDealer f).dev = s.dev := rfl
@[simp] theorem State.onDealer_deal (s : State) (f : Dealer → Dealer) : (s.onDealer f).deal = s.deal := rfl
@[simp] theorem State.onDealer_rings (s : State) (f : Dealer → Dealer) : (s.onDealer f).rings = s.rings := rfl
@[simp] theorem State.onDealer_dealer (s : State) (f : Dealer → Dealer) : (s.onDealer f).dealer = f s.dealer := rfl
@[simp] theorem State.onDealer_timing (s : State) (f : Dealer → Dealer) : (s.onDealer f).timing = s.timing := rfl
@[simp] theorem State.onDealer_faults (s : State) (f : Dealer → Dealer) : (s.onDealer f).faults = s.faults := rfl
@[simp] theorem State.onDealer_partner (s : State) (f : Dealer → Dealer) : (s.onDealer f).partner = s.partner := rfl
@[simp] theorem State.onDealer_intc (s : State) (f : Dealer → Dealer) : (s.onDealer f).intc = s.intc := rfl
@[simp] theorem State.onDealer_host (s : State) (f : Dealer → Dealer) : (s.onDealer f).host = s.host := rfl
@[simp] theorem State.onDealer_feed (s : State) (f : Dealer → Dealer) : (s.onDealer f).feed = s.feed := rfl
@[simp] theorem State.onDealer_memc (s : State) (f : Dealer → Dealer) : (s.onDealer f).memc = s.memc := rfl
@[simp] theorem State.onDealer_power (s : State) (f : Dealer → Dealer) : (s.onDealer f).power = s.power := rfl
@[simp] theorem State.onDealer_churns (s : State) (f : Dealer → Dealer) : (s.onDealer f).churns = s.churns := rfl
@[simp] theorem State.onDealer_trumpSels (s : State) (f : Dealer → Dealer) : (s.onDealer f).trumpSels = s.trumpSels := rfl
@[simp] theorem State.onDealer_scalers (s : State) (f : Dealer → Dealer) : (s.onDealer f).scalers = s.scalers := rfl
@[simp] theorem State.onDealer_skim (s : State) (f : Dealer → Dealer) : (s.onDealer f).skim = s.skim := rfl
@[simp] theorem State.onDealer_phots (s : State) (f : Dealer → Dealer) : (s.onDealer f).phots = s.phots := rfl
@[simp] theorem State.onDealer_pot (s : State) (f : Dealer → Dealer) : (s.onDealer f).pot = s.pot := rfl
@[simp] theorem State.onDealer_ports (s : State) (f : Dealer → Dealer) : (s.onDealer f).ports = s.ports := rfl
@[simp] theorem State.onDealer_tiles (s : State) (f : Dealer → Dealer) : (s.onDealer f).tiles = s.tiles := rfl
@[simp] theorem State.onDealer_diags (s : State) (f : Dealer → Dealer) : (s.onDealer f).diags = s.diags := rfl
@[simp] theorem State.onDealer_ctl (s : State) (f : Dealer → Dealer) : (s.onDealer f).ctl = s.ctl := rfl
@[simp] theorem State.onDealer_house (s : State) (f : Dealer → Dealer) : (s.onDealer f).house = s.house := rfl
@[simp] theorem State.onDealer_accent (s : State) (f : Dealer → Dealer) : (s.onDealer f).accent = s.accent := rfl

/-! ### onTiming -/

@[simp] theorem State.onTiming_pending (s : State) (f : Timing → Timing) : (s.onTiming f).pending = s.pending := rfl
@[simp] theorem State.onTiming_lamp (s : State) (f : Timing → Timing) : (s.onTiming f).lamp = s.lamp := rfl
@[simp] theorem State.onTiming_freeSeq (s : State) (f : Timing → Timing) : (s.onTiming f).freeSeq = s.freeSeq := rfl
@[simp] theorem State.onTiming_outbox (s : State) (f : Timing → Timing) : (s.onTiming f).outbox = s.outbox := rfl
@[simp] theorem State.onTiming_regs (s : State) (f : Timing → Timing) : (s.onTiming f).regs = s.regs := rfl
@[simp] theorem State.onTiming_rws (s : State) (f : Timing → Timing) : (s.onTiming f).rws = s.rws := rfl
@[simp] theorem State.onTiming_dram (s : State) (f : Timing → Timing) : (s.onTiming f).dram = s.dram := rfl
@[simp] theorem State.onTiming_dramBad (s : State) (f : Timing → Timing) : (s.onTiming f).dramBad = s.dramBad := rfl
@[simp] theorem State.onTiming_coreMem (s : State) (f : Timing → Timing) : (s.onTiming f).coreMem = s.coreMem := rfl
@[simp] theorem State.onTiming_fwLog (s : State) (f : Timing → Timing) : (s.onTiming f).fwLog = s.fwLog := rfl
@[simp] theorem State.onTiming_pins (s : State) (f : Timing → Timing) : (s.onTiming f).pins = s.pins := rfl
@[simp] theorem State.onTiming_dev (s : State) (f : Timing → Timing) : (s.onTiming f).dev = s.dev := rfl
@[simp] theorem State.onTiming_deal (s : State) (f : Timing → Timing) : (s.onTiming f).deal = s.deal := rfl
@[simp] theorem State.onTiming_rings (s : State) (f : Timing → Timing) : (s.onTiming f).rings = s.rings := rfl
@[simp] theorem State.onTiming_dealer (s : State) (f : Timing → Timing) : (s.onTiming f).dealer = s.dealer := rfl
@[simp] theorem State.onTiming_timing (s : State) (f : Timing → Timing) : (s.onTiming f).timing = f s.timing := rfl
@[simp] theorem State.onTiming_faults (s : State) (f : Timing → Timing) : (s.onTiming f).faults = s.faults := rfl
@[simp] theorem State.onTiming_partner (s : State) (f : Timing → Timing) : (s.onTiming f).partner = s.partner := rfl
@[simp] theorem State.onTiming_intc (s : State) (f : Timing → Timing) : (s.onTiming f).intc = s.intc := rfl
@[simp] theorem State.onTiming_host (s : State) (f : Timing → Timing) : (s.onTiming f).host = s.host := rfl
@[simp] theorem State.onTiming_feed (s : State) (f : Timing → Timing) : (s.onTiming f).feed = s.feed := rfl
@[simp] theorem State.onTiming_memc (s : State) (f : Timing → Timing) : (s.onTiming f).memc = s.memc := rfl
@[simp] theorem State.onTiming_power (s : State) (f : Timing → Timing) : (s.onTiming f).power = s.power := rfl
@[simp] theorem State.onTiming_churns (s : State) (f : Timing → Timing) : (s.onTiming f).churns = s.churns := rfl
@[simp] theorem State.onTiming_trumpSels (s : State) (f : Timing → Timing) : (s.onTiming f).trumpSels = s.trumpSels := rfl
@[simp] theorem State.onTiming_scalers (s : State) (f : Timing → Timing) : (s.onTiming f).scalers = s.scalers := rfl
@[simp] theorem State.onTiming_skim (s : State) (f : Timing → Timing) : (s.onTiming f).skim = s.skim := rfl
@[simp] theorem State.onTiming_phots (s : State) (f : Timing → Timing) : (s.onTiming f).phots = s.phots := rfl
@[simp] theorem State.onTiming_pot (s : State) (f : Timing → Timing) : (s.onTiming f).pot = s.pot := rfl
@[simp] theorem State.onTiming_ports (s : State) (f : Timing → Timing) : (s.onTiming f).ports = s.ports := rfl
@[simp] theorem State.onTiming_tiles (s : State) (f : Timing → Timing) : (s.onTiming f).tiles = s.tiles := rfl
@[simp] theorem State.onTiming_diags (s : State) (f : Timing → Timing) : (s.onTiming f).diags = s.diags := rfl
@[simp] theorem State.onTiming_ctl (s : State) (f : Timing → Timing) : (s.onTiming f).ctl = s.ctl := rfl
@[simp] theorem State.onTiming_house (s : State) (f : Timing → Timing) : (s.onTiming f).house = s.house := rfl
@[simp] theorem State.onTiming_accent (s : State) (f : Timing → Timing) : (s.onTiming f).accent = s.accent := rfl

/-! ### onFaults -/

@[simp] theorem State.onFaults_pending (s : State) (f : Faults → Faults) : (s.onFaults f).pending = s.pending := rfl
@[simp] theorem State.onFaults_lamp (s : State) (f : Faults → Faults) : (s.onFaults f).lamp = s.lamp := rfl
@[simp] theorem State.onFaults_freeSeq (s : State) (f : Faults → Faults) : (s.onFaults f).freeSeq = s.freeSeq := rfl
@[simp] theorem State.onFaults_outbox (s : State) (f : Faults → Faults) : (s.onFaults f).outbox = s.outbox := rfl
@[simp] theorem State.onFaults_regs (s : State) (f : Faults → Faults) : (s.onFaults f).regs = s.regs := rfl
@[simp] theorem State.onFaults_rws (s : State) (f : Faults → Faults) : (s.onFaults f).rws = s.rws := rfl
@[simp] theorem State.onFaults_dram (s : State) (f : Faults → Faults) : (s.onFaults f).dram = s.dram := rfl
@[simp] theorem State.onFaults_dramBad (s : State) (f : Faults → Faults) : (s.onFaults f).dramBad = s.dramBad := rfl
@[simp] theorem State.onFaults_coreMem (s : State) (f : Faults → Faults) : (s.onFaults f).coreMem = s.coreMem := rfl
@[simp] theorem State.onFaults_fwLog (s : State) (f : Faults → Faults) : (s.onFaults f).fwLog = s.fwLog := rfl
@[simp] theorem State.onFaults_pins (s : State) (f : Faults → Faults) : (s.onFaults f).pins = s.pins := rfl
@[simp] theorem State.onFaults_dev (s : State) (f : Faults → Faults) : (s.onFaults f).dev = s.dev := rfl
@[simp] theorem State.onFaults_deal (s : State) (f : Faults → Faults) : (s.onFaults f).deal = s.deal := rfl
@[simp] theorem State.onFaults_rings (s : State) (f : Faults → Faults) : (s.onFaults f).rings = s.rings := rfl
@[simp] theorem State.onFaults_dealer (s : State) (f : Faults → Faults) : (s.onFaults f).dealer = s.dealer := rfl
@[simp] theorem State.onFaults_timing (s : State) (f : Faults → Faults) : (s.onFaults f).timing = s.timing := rfl
@[simp] theorem State.onFaults_faults (s : State) (f : Faults → Faults) : (s.onFaults f).faults = f s.faults := rfl
@[simp] theorem State.onFaults_partner (s : State) (f : Faults → Faults) : (s.onFaults f).partner = s.partner := rfl
@[simp] theorem State.onFaults_intc (s : State) (f : Faults → Faults) : (s.onFaults f).intc = s.intc := rfl
@[simp] theorem State.onFaults_host (s : State) (f : Faults → Faults) : (s.onFaults f).host = s.host := rfl
@[simp] theorem State.onFaults_feed (s : State) (f : Faults → Faults) : (s.onFaults f).feed = s.feed := rfl
@[simp] theorem State.onFaults_memc (s : State) (f : Faults → Faults) : (s.onFaults f).memc = s.memc := rfl
@[simp] theorem State.onFaults_power (s : State) (f : Faults → Faults) : (s.onFaults f).power = s.power := rfl
@[simp] theorem State.onFaults_churns (s : State) (f : Faults → Faults) : (s.onFaults f).churns = s.churns := rfl
@[simp] theorem State.onFaults_trumpSels (s : State) (f : Faults → Faults) : (s.onFaults f).trumpSels = s.trumpSels := rfl
@[simp] theorem State.onFaults_scalers (s : State) (f : Faults → Faults) : (s.onFaults f).scalers = s.scalers := rfl
@[simp] theorem State.onFaults_skim (s : State) (f : Faults → Faults) : (s.onFaults f).skim = s.skim := rfl
@[simp] theorem State.onFaults_phots (s : State) (f : Faults → Faults) : (s.onFaults f).phots = s.phots := rfl
@[simp] theorem State.onFaults_pot (s : State) (f : Faults → Faults) : (s.onFaults f).pot = s.pot := rfl
@[simp] theorem State.onFaults_ports (s : State) (f : Faults → Faults) : (s.onFaults f).ports = s.ports := rfl
@[simp] theorem State.onFaults_tiles (s : State) (f : Faults → Faults) : (s.onFaults f).tiles = s.tiles := rfl
@[simp] theorem State.onFaults_diags (s : State) (f : Faults → Faults) : (s.onFaults f).diags = s.diags := rfl
@[simp] theorem State.onFaults_ctl (s : State) (f : Faults → Faults) : (s.onFaults f).ctl = s.ctl := rfl
@[simp] theorem State.onFaults_house (s : State) (f : Faults → Faults) : (s.onFaults f).house = s.house := rfl
@[simp] theorem State.onFaults_accent (s : State) (f : Faults → Faults) : (s.onFaults f).accent = s.accent := rfl

/-! ### onPartner -/

@[simp] theorem State.onPartner_pending (s : State) (f : Partner → Partner) : (s.onPartner f).pending = s.pending := rfl
@[simp] theorem State.onPartner_lamp (s : State) (f : Partner → Partner) : (s.onPartner f).lamp = s.lamp := rfl
@[simp] theorem State.onPartner_freeSeq (s : State) (f : Partner → Partner) : (s.onPartner f).freeSeq = s.freeSeq := rfl
@[simp] theorem State.onPartner_outbox (s : State) (f : Partner → Partner) : (s.onPartner f).outbox = s.outbox := rfl
@[simp] theorem State.onPartner_regs (s : State) (f : Partner → Partner) : (s.onPartner f).regs = s.regs := rfl
@[simp] theorem State.onPartner_rws (s : State) (f : Partner → Partner) : (s.onPartner f).rws = s.rws := rfl
@[simp] theorem State.onPartner_dram (s : State) (f : Partner → Partner) : (s.onPartner f).dram = s.dram := rfl
@[simp] theorem State.onPartner_dramBad (s : State) (f : Partner → Partner) : (s.onPartner f).dramBad = s.dramBad := rfl
@[simp] theorem State.onPartner_coreMem (s : State) (f : Partner → Partner) : (s.onPartner f).coreMem = s.coreMem := rfl
@[simp] theorem State.onPartner_fwLog (s : State) (f : Partner → Partner) : (s.onPartner f).fwLog = s.fwLog := rfl
@[simp] theorem State.onPartner_pins (s : State) (f : Partner → Partner) : (s.onPartner f).pins = s.pins := rfl
@[simp] theorem State.onPartner_dev (s : State) (f : Partner → Partner) : (s.onPartner f).dev = s.dev := rfl
@[simp] theorem State.onPartner_deal (s : State) (f : Partner → Partner) : (s.onPartner f).deal = s.deal := rfl
@[simp] theorem State.onPartner_rings (s : State) (f : Partner → Partner) : (s.onPartner f).rings = s.rings := rfl
@[simp] theorem State.onPartner_dealer (s : State) (f : Partner → Partner) : (s.onPartner f).dealer = s.dealer := rfl
@[simp] theorem State.onPartner_timing (s : State) (f : Partner → Partner) : (s.onPartner f).timing = s.timing := rfl
@[simp] theorem State.onPartner_faults (s : State) (f : Partner → Partner) : (s.onPartner f).faults = s.faults := rfl
@[simp] theorem State.onPartner_partner (s : State) (f : Partner → Partner) : (s.onPartner f).partner = f s.partner := rfl
@[simp] theorem State.onPartner_intc (s : State) (f : Partner → Partner) : (s.onPartner f).intc = s.intc := rfl
@[simp] theorem State.onPartner_host (s : State) (f : Partner → Partner) : (s.onPartner f).host = s.host := rfl
@[simp] theorem State.onPartner_feed (s : State) (f : Partner → Partner) : (s.onPartner f).feed = s.feed := rfl
@[simp] theorem State.onPartner_memc (s : State) (f : Partner → Partner) : (s.onPartner f).memc = s.memc := rfl
@[simp] theorem State.onPartner_power (s : State) (f : Partner → Partner) : (s.onPartner f).power = s.power := rfl
@[simp] theorem State.onPartner_churns (s : State) (f : Partner → Partner) : (s.onPartner f).churns = s.churns := rfl
@[simp] theorem State.onPartner_trumpSels (s : State) (f : Partner → Partner) : (s.onPartner f).trumpSels = s.trumpSels := rfl
@[simp] theorem State.onPartner_scalers (s : State) (f : Partner → Partner) : (s.onPartner f).scalers = s.scalers := rfl
@[simp] theorem State.onPartner_skim (s : State) (f : Partner → Partner) : (s.onPartner f).skim = s.skim := rfl
@[simp] theorem State.onPartner_phots (s : State) (f : Partner → Partner) : (s.onPartner f).phots = s.phots := rfl
@[simp] theorem State.onPartner_pot (s : State) (f : Partner → Partner) : (s.onPartner f).pot = s.pot := rfl
@[simp] theorem State.onPartner_ports (s : State) (f : Partner → Partner) : (s.onPartner f).ports = s.ports := rfl
@[simp] theorem State.onPartner_tiles (s : State) (f : Partner → Partner) : (s.onPartner f).tiles = s.tiles := rfl
@[simp] theorem State.onPartner_diags (s : State) (f : Partner → Partner) : (s.onPartner f).diags = s.diags := rfl
@[simp] theorem State.onPartner_ctl (s : State) (f : Partner → Partner) : (s.onPartner f).ctl = s.ctl := rfl
@[simp] theorem State.onPartner_house (s : State) (f : Partner → Partner) : (s.onPartner f).house = s.house := rfl
@[simp] theorem State.onPartner_accent (s : State) (f : Partner → Partner) : (s.onPartner f).accent = s.accent := rfl

/-! ### onIntc -/

@[simp] theorem State.onIntc_pending (s : State) (f : Intc → Intc) : (s.onIntc f).pending = s.pending := rfl
@[simp] theorem State.onIntc_lamp (s : State) (f : Intc → Intc) : (s.onIntc f).lamp = s.lamp := rfl
@[simp] theorem State.onIntc_freeSeq (s : State) (f : Intc → Intc) : (s.onIntc f).freeSeq = s.freeSeq := rfl
@[simp] theorem State.onIntc_outbox (s : State) (f : Intc → Intc) : (s.onIntc f).outbox = s.outbox := rfl
@[simp] theorem State.onIntc_regs (s : State) (f : Intc → Intc) : (s.onIntc f).regs = s.regs := rfl
@[simp] theorem State.onIntc_rws (s : State) (f : Intc → Intc) : (s.onIntc f).rws = s.rws := rfl
@[simp] theorem State.onIntc_dram (s : State) (f : Intc → Intc) : (s.onIntc f).dram = s.dram := rfl
@[simp] theorem State.onIntc_dramBad (s : State) (f : Intc → Intc) : (s.onIntc f).dramBad = s.dramBad := rfl
@[simp] theorem State.onIntc_coreMem (s : State) (f : Intc → Intc) : (s.onIntc f).coreMem = s.coreMem := rfl
@[simp] theorem State.onIntc_fwLog (s : State) (f : Intc → Intc) : (s.onIntc f).fwLog = s.fwLog := rfl
@[simp] theorem State.onIntc_pins (s : State) (f : Intc → Intc) : (s.onIntc f).pins = s.pins := rfl
@[simp] theorem State.onIntc_dev (s : State) (f : Intc → Intc) : (s.onIntc f).dev = s.dev := rfl
@[simp] theorem State.onIntc_deal (s : State) (f : Intc → Intc) : (s.onIntc f).deal = s.deal := rfl
@[simp] theorem State.onIntc_rings (s : State) (f : Intc → Intc) : (s.onIntc f).rings = s.rings := rfl
@[simp] theorem State.onIntc_dealer (s : State) (f : Intc → Intc) : (s.onIntc f).dealer = s.dealer := rfl
@[simp] theorem State.onIntc_timing (s : State) (f : Intc → Intc) : (s.onIntc f).timing = s.timing := rfl
@[simp] theorem State.onIntc_faults (s : State) (f : Intc → Intc) : (s.onIntc f).faults = s.faults := rfl
@[simp] theorem State.onIntc_partner (s : State) (f : Intc → Intc) : (s.onIntc f).partner = s.partner := rfl
@[simp] theorem State.onIntc_intc (s : State) (f : Intc → Intc) : (s.onIntc f).intc = f s.intc := rfl
@[simp] theorem State.onIntc_host (s : State) (f : Intc → Intc) : (s.onIntc f).host = s.host := rfl
@[simp] theorem State.onIntc_feed (s : State) (f : Intc → Intc) : (s.onIntc f).feed = s.feed := rfl
@[simp] theorem State.onIntc_memc (s : State) (f : Intc → Intc) : (s.onIntc f).memc = s.memc := rfl
@[simp] theorem State.onIntc_power (s : State) (f : Intc → Intc) : (s.onIntc f).power = s.power := rfl
@[simp] theorem State.onIntc_churns (s : State) (f : Intc → Intc) : (s.onIntc f).churns = s.churns := rfl
@[simp] theorem State.onIntc_trumpSels (s : State) (f : Intc → Intc) : (s.onIntc f).trumpSels = s.trumpSels := rfl
@[simp] theorem State.onIntc_scalers (s : State) (f : Intc → Intc) : (s.onIntc f).scalers = s.scalers := rfl
@[simp] theorem State.onIntc_skim (s : State) (f : Intc → Intc) : (s.onIntc f).skim = s.skim := rfl
@[simp] theorem State.onIntc_phots (s : State) (f : Intc → Intc) : (s.onIntc f).phots = s.phots := rfl
@[simp] theorem State.onIntc_pot (s : State) (f : Intc → Intc) : (s.onIntc f).pot = s.pot := rfl
@[simp] theorem State.onIntc_ports (s : State) (f : Intc → Intc) : (s.onIntc f).ports = s.ports := rfl
@[simp] theorem State.onIntc_tiles (s : State) (f : Intc → Intc) : (s.onIntc f).tiles = s.tiles := rfl
@[simp] theorem State.onIntc_diags (s : State) (f : Intc → Intc) : (s.onIntc f).diags = s.diags := rfl
@[simp] theorem State.onIntc_ctl (s : State) (f : Intc → Intc) : (s.onIntc f).ctl = s.ctl := rfl
@[simp] theorem State.onIntc_house (s : State) (f : Intc → Intc) : (s.onIntc f).house = s.house := rfl
@[simp] theorem State.onIntc_accent (s : State) (f : Intc → Intc) : (s.onIntc f).accent = s.accent := rfl

/-! ### onHost -/

@[simp] theorem State.onHost_pending (s : State) (f : HostPort → HostPort) : (s.onHost f).pending = s.pending := rfl
@[simp] theorem State.onHost_lamp (s : State) (f : HostPort → HostPort) : (s.onHost f).lamp = s.lamp := rfl
@[simp] theorem State.onHost_freeSeq (s : State) (f : HostPort → HostPort) : (s.onHost f).freeSeq = s.freeSeq := rfl
@[simp] theorem State.onHost_outbox (s : State) (f : HostPort → HostPort) : (s.onHost f).outbox = s.outbox := rfl
@[simp] theorem State.onHost_regs (s : State) (f : HostPort → HostPort) : (s.onHost f).regs = s.regs := rfl
@[simp] theorem State.onHost_rws (s : State) (f : HostPort → HostPort) : (s.onHost f).rws = s.rws := rfl
@[simp] theorem State.onHost_dram (s : State) (f : HostPort → HostPort) : (s.onHost f).dram = s.dram := rfl
@[simp] theorem State.onHost_dramBad (s : State) (f : HostPort → HostPort) : (s.onHost f).dramBad = s.dramBad := rfl
@[simp] theorem State.onHost_coreMem (s : State) (f : HostPort → HostPort) : (s.onHost f).coreMem = s.coreMem := rfl
@[simp] theorem State.onHost_fwLog (s : State) (f : HostPort → HostPort) : (s.onHost f).fwLog = s.fwLog := rfl
@[simp] theorem State.onHost_pins (s : State) (f : HostPort → HostPort) : (s.onHost f).pins = s.pins := rfl
@[simp] theorem State.onHost_dev (s : State) (f : HostPort → HostPort) : (s.onHost f).dev = s.dev := rfl
@[simp] theorem State.onHost_deal (s : State) (f : HostPort → HostPort) : (s.onHost f).deal = s.deal := rfl
@[simp] theorem State.onHost_rings (s : State) (f : HostPort → HostPort) : (s.onHost f).rings = s.rings := rfl
@[simp] theorem State.onHost_dealer (s : State) (f : HostPort → HostPort) : (s.onHost f).dealer = s.dealer := rfl
@[simp] theorem State.onHost_timing (s : State) (f : HostPort → HostPort) : (s.onHost f).timing = s.timing := rfl
@[simp] theorem State.onHost_faults (s : State) (f : HostPort → HostPort) : (s.onHost f).faults = s.faults := rfl
@[simp] theorem State.onHost_partner (s : State) (f : HostPort → HostPort) : (s.onHost f).partner = s.partner := rfl
@[simp] theorem State.onHost_intc (s : State) (f : HostPort → HostPort) : (s.onHost f).intc = s.intc := rfl
@[simp] theorem State.onHost_host (s : State) (f : HostPort → HostPort) : (s.onHost f).host = f s.host := rfl
@[simp] theorem State.onHost_feed (s : State) (f : HostPort → HostPort) : (s.onHost f).feed = s.feed := rfl
@[simp] theorem State.onHost_memc (s : State) (f : HostPort → HostPort) : (s.onHost f).memc = s.memc := rfl
@[simp] theorem State.onHost_power (s : State) (f : HostPort → HostPort) : (s.onHost f).power = s.power := rfl
@[simp] theorem State.onHost_churns (s : State) (f : HostPort → HostPort) : (s.onHost f).churns = s.churns := rfl
@[simp] theorem State.onHost_trumpSels (s : State) (f : HostPort → HostPort) : (s.onHost f).trumpSels = s.trumpSels := rfl
@[simp] theorem State.onHost_scalers (s : State) (f : HostPort → HostPort) : (s.onHost f).scalers = s.scalers := rfl
@[simp] theorem State.onHost_skim (s : State) (f : HostPort → HostPort) : (s.onHost f).skim = s.skim := rfl
@[simp] theorem State.onHost_phots (s : State) (f : HostPort → HostPort) : (s.onHost f).phots = s.phots := rfl
@[simp] theorem State.onHost_pot (s : State) (f : HostPort → HostPort) : (s.onHost f).pot = s.pot := rfl
@[simp] theorem State.onHost_ports (s : State) (f : HostPort → HostPort) : (s.onHost f).ports = s.ports := rfl
@[simp] theorem State.onHost_tiles (s : State) (f : HostPort → HostPort) : (s.onHost f).tiles = s.tiles := rfl
@[simp] theorem State.onHost_diags (s : State) (f : HostPort → HostPort) : (s.onHost f).diags = s.diags := rfl
@[simp] theorem State.onHost_ctl (s : State) (f : HostPort → HostPort) : (s.onHost f).ctl = s.ctl := rfl
@[simp] theorem State.onHost_house (s : State) (f : HostPort → HostPort) : (s.onHost f).house = s.house := rfl
@[simp] theorem State.onHost_accent (s : State) (f : HostPort → HostPort) : (s.onHost f).accent = s.accent := rfl

/-! ### onFeed -/

@[simp] theorem State.onFeed_pending (s : State) (f : Feed → Feed) : (s.onFeed f).pending = s.pending := rfl
@[simp] theorem State.onFeed_lamp (s : State) (f : Feed → Feed) : (s.onFeed f).lamp = s.lamp := rfl
@[simp] theorem State.onFeed_freeSeq (s : State) (f : Feed → Feed) : (s.onFeed f).freeSeq = s.freeSeq := rfl
@[simp] theorem State.onFeed_outbox (s : State) (f : Feed → Feed) : (s.onFeed f).outbox = s.outbox := rfl
@[simp] theorem State.onFeed_regs (s : State) (f : Feed → Feed) : (s.onFeed f).regs = s.regs := rfl
@[simp] theorem State.onFeed_rws (s : State) (f : Feed → Feed) : (s.onFeed f).rws = s.rws := rfl
@[simp] theorem State.onFeed_dram (s : State) (f : Feed → Feed) : (s.onFeed f).dram = s.dram := rfl
@[simp] theorem State.onFeed_dramBad (s : State) (f : Feed → Feed) : (s.onFeed f).dramBad = s.dramBad := rfl
@[simp] theorem State.onFeed_coreMem (s : State) (f : Feed → Feed) : (s.onFeed f).coreMem = s.coreMem := rfl
@[simp] theorem State.onFeed_fwLog (s : State) (f : Feed → Feed) : (s.onFeed f).fwLog = s.fwLog := rfl
@[simp] theorem State.onFeed_pins (s : State) (f : Feed → Feed) : (s.onFeed f).pins = s.pins := rfl
@[simp] theorem State.onFeed_dev (s : State) (f : Feed → Feed) : (s.onFeed f).dev = s.dev := rfl
@[simp] theorem State.onFeed_deal (s : State) (f : Feed → Feed) : (s.onFeed f).deal = s.deal := rfl
@[simp] theorem State.onFeed_rings (s : State) (f : Feed → Feed) : (s.onFeed f).rings = s.rings := rfl
@[simp] theorem State.onFeed_dealer (s : State) (f : Feed → Feed) : (s.onFeed f).dealer = s.dealer := rfl
@[simp] theorem State.onFeed_timing (s : State) (f : Feed → Feed) : (s.onFeed f).timing = s.timing := rfl
@[simp] theorem State.onFeed_faults (s : State) (f : Feed → Feed) : (s.onFeed f).faults = s.faults := rfl
@[simp] theorem State.onFeed_partner (s : State) (f : Feed → Feed) : (s.onFeed f).partner = s.partner := rfl
@[simp] theorem State.onFeed_intc (s : State) (f : Feed → Feed) : (s.onFeed f).intc = s.intc := rfl
@[simp] theorem State.onFeed_host (s : State) (f : Feed → Feed) : (s.onFeed f).host = s.host := rfl
@[simp] theorem State.onFeed_feed (s : State) (f : Feed → Feed) : (s.onFeed f).feed = f s.feed := rfl
@[simp] theorem State.onFeed_memc (s : State) (f : Feed → Feed) : (s.onFeed f).memc = s.memc := rfl
@[simp] theorem State.onFeed_power (s : State) (f : Feed → Feed) : (s.onFeed f).power = s.power := rfl
@[simp] theorem State.onFeed_churns (s : State) (f : Feed → Feed) : (s.onFeed f).churns = s.churns := rfl
@[simp] theorem State.onFeed_trumpSels (s : State) (f : Feed → Feed) : (s.onFeed f).trumpSels = s.trumpSels := rfl
@[simp] theorem State.onFeed_scalers (s : State) (f : Feed → Feed) : (s.onFeed f).scalers = s.scalers := rfl
@[simp] theorem State.onFeed_skim (s : State) (f : Feed → Feed) : (s.onFeed f).skim = s.skim := rfl
@[simp] theorem State.onFeed_phots (s : State) (f : Feed → Feed) : (s.onFeed f).phots = s.phots := rfl
@[simp] theorem State.onFeed_pot (s : State) (f : Feed → Feed) : (s.onFeed f).pot = s.pot := rfl
@[simp] theorem State.onFeed_ports (s : State) (f : Feed → Feed) : (s.onFeed f).ports = s.ports := rfl
@[simp] theorem State.onFeed_tiles (s : State) (f : Feed → Feed) : (s.onFeed f).tiles = s.tiles := rfl
@[simp] theorem State.onFeed_diags (s : State) (f : Feed → Feed) : (s.onFeed f).diags = s.diags := rfl
@[simp] theorem State.onFeed_ctl (s : State) (f : Feed → Feed) : (s.onFeed f).ctl = s.ctl := rfl
@[simp] theorem State.onFeed_house (s : State) (f : Feed → Feed) : (s.onFeed f).house = s.house := rfl
@[simp] theorem State.onFeed_accent (s : State) (f : Feed → Feed) : (s.onFeed f).accent = s.accent := rfl

/-! ### onMemc -/

@[simp] theorem State.onMemc_pending (s : State) (f : MemCtl → MemCtl) : (s.onMemc f).pending = s.pending := rfl
@[simp] theorem State.onMemc_lamp (s : State) (f : MemCtl → MemCtl) : (s.onMemc f).lamp = s.lamp := rfl
@[simp] theorem State.onMemc_freeSeq (s : State) (f : MemCtl → MemCtl) : (s.onMemc f).freeSeq = s.freeSeq := rfl
@[simp] theorem State.onMemc_outbox (s : State) (f : MemCtl → MemCtl) : (s.onMemc f).outbox = s.outbox := rfl
@[simp] theorem State.onMemc_regs (s : State) (f : MemCtl → MemCtl) : (s.onMemc f).regs = s.regs := rfl
@[simp] theorem State.onMemc_rws (s : State) (f : MemCtl → MemCtl) : (s.onMemc f).rws = s.rws := rfl
@[simp] theorem State.onMemc_dram (s : State) (f : MemCtl → MemCtl) : (s.onMemc f).dram = s.dram := rfl
@[simp] theorem State.onMemc_dramBad (s : State) (f : MemCtl → MemCtl) : (s.onMemc f).dramBad = s.dramBad := rfl
@[simp] theorem State.onMemc_coreMem (s : State) (f : MemCtl → MemCtl) : (s.onMemc f).coreMem = s.coreMem := rfl
@[simp] theorem State.onMemc_fwLog (s : State) (f : MemCtl → MemCtl) : (s.onMemc f).fwLog = s.fwLog := rfl
@[simp] theorem State.onMemc_pins (s : State) (f : MemCtl → MemCtl) : (s.onMemc f).pins = s.pins := rfl
@[simp] theorem State.onMemc_dev (s : State) (f : MemCtl → MemCtl) : (s.onMemc f).dev = s.dev := rfl
@[simp] theorem State.onMemc_deal (s : State) (f : MemCtl → MemCtl) : (s.onMemc f).deal = s.deal := rfl
@[simp] theorem State.onMemc_rings (s : State) (f : MemCtl → MemCtl) : (s.onMemc f).rings = s.rings := rfl
@[simp] theorem State.onMemc_dealer (s : State) (f : MemCtl → MemCtl) : (s.onMemc f).dealer = s.dealer := rfl
@[simp] theorem State.onMemc_timing (s : State) (f : MemCtl → MemCtl) : (s.onMemc f).timing = s.timing := rfl
@[simp] theorem State.onMemc_faults (s : State) (f : MemCtl → MemCtl) : (s.onMemc f).faults = s.faults := rfl
@[simp] theorem State.onMemc_partner (s : State) (f : MemCtl → MemCtl) : (s.onMemc f).partner = s.partner := rfl
@[simp] theorem State.onMemc_intc (s : State) (f : MemCtl → MemCtl) : (s.onMemc f).intc = s.intc := rfl
@[simp] theorem State.onMemc_host (s : State) (f : MemCtl → MemCtl) : (s.onMemc f).host = s.host := rfl
@[simp] theorem State.onMemc_feed (s : State) (f : MemCtl → MemCtl) : (s.onMemc f).feed = s.feed := rfl
@[simp] theorem State.onMemc_memc (s : State) (f : MemCtl → MemCtl) : (s.onMemc f).memc = f s.memc := rfl
@[simp] theorem State.onMemc_power (s : State) (f : MemCtl → MemCtl) : (s.onMemc f).power = s.power := rfl
@[simp] theorem State.onMemc_churns (s : State) (f : MemCtl → MemCtl) : (s.onMemc f).churns = s.churns := rfl
@[simp] theorem State.onMemc_trumpSels (s : State) (f : MemCtl → MemCtl) : (s.onMemc f).trumpSels = s.trumpSels := rfl
@[simp] theorem State.onMemc_scalers (s : State) (f : MemCtl → MemCtl) : (s.onMemc f).scalers = s.scalers := rfl
@[simp] theorem State.onMemc_skim (s : State) (f : MemCtl → MemCtl) : (s.onMemc f).skim = s.skim := rfl
@[simp] theorem State.onMemc_phots (s : State) (f : MemCtl → MemCtl) : (s.onMemc f).phots = s.phots := rfl
@[simp] theorem State.onMemc_pot (s : State) (f : MemCtl → MemCtl) : (s.onMemc f).pot = s.pot := rfl
@[simp] theorem State.onMemc_ports (s : State) (f : MemCtl → MemCtl) : (s.onMemc f).ports = s.ports := rfl
@[simp] theorem State.onMemc_tiles (s : State) (f : MemCtl → MemCtl) : (s.onMemc f).tiles = s.tiles := rfl
@[simp] theorem State.onMemc_diags (s : State) (f : MemCtl → MemCtl) : (s.onMemc f).diags = s.diags := rfl
@[simp] theorem State.onMemc_ctl (s : State) (f : MemCtl → MemCtl) : (s.onMemc f).ctl = s.ctl := rfl
@[simp] theorem State.onMemc_house (s : State) (f : MemCtl → MemCtl) : (s.onMemc f).house = s.house := rfl
@[simp] theorem State.onMemc_accent (s : State) (f : MemCtl → MemCtl) : (s.onMemc f).accent = s.accent := rfl

/-! ### onPower -/

@[simp] theorem State.onPower_pending (s : State) (f : Power → Power) : (s.onPower f).pending = s.pending := rfl
@[simp] theorem State.onPower_lamp (s : State) (f : Power → Power) : (s.onPower f).lamp = s.lamp := rfl
@[simp] theorem State.onPower_freeSeq (s : State) (f : Power → Power) : (s.onPower f).freeSeq = s.freeSeq := rfl
@[simp] theorem State.onPower_outbox (s : State) (f : Power → Power) : (s.onPower f).outbox = s.outbox := rfl
@[simp] theorem State.onPower_regs (s : State) (f : Power → Power) : (s.onPower f).regs = s.regs := rfl
@[simp] theorem State.onPower_rws (s : State) (f : Power → Power) : (s.onPower f).rws = s.rws := rfl
@[simp] theorem State.onPower_dram (s : State) (f : Power → Power) : (s.onPower f).dram = s.dram := rfl
@[simp] theorem State.onPower_dramBad (s : State) (f : Power → Power) : (s.onPower f).dramBad = s.dramBad := rfl
@[simp] theorem State.onPower_coreMem (s : State) (f : Power → Power) : (s.onPower f).coreMem = s.coreMem := rfl
@[simp] theorem State.onPower_fwLog (s : State) (f : Power → Power) : (s.onPower f).fwLog = s.fwLog := rfl
@[simp] theorem State.onPower_pins (s : State) (f : Power → Power) : (s.onPower f).pins = s.pins := rfl
@[simp] theorem State.onPower_dev (s : State) (f : Power → Power) : (s.onPower f).dev = s.dev := rfl
@[simp] theorem State.onPower_deal (s : State) (f : Power → Power) : (s.onPower f).deal = s.deal := rfl
@[simp] theorem State.onPower_rings (s : State) (f : Power → Power) : (s.onPower f).rings = s.rings := rfl
@[simp] theorem State.onPower_dealer (s : State) (f : Power → Power) : (s.onPower f).dealer = s.dealer := rfl
@[simp] theorem State.onPower_timing (s : State) (f : Power → Power) : (s.onPower f).timing = s.timing := rfl
@[simp] theorem State.onPower_faults (s : State) (f : Power → Power) : (s.onPower f).faults = s.faults := rfl
@[simp] theorem State.onPower_partner (s : State) (f : Power → Power) : (s.onPower f).partner = s.partner := rfl
@[simp] theorem State.onPower_intc (s : State) (f : Power → Power) : (s.onPower f).intc = s.intc := rfl
@[simp] theorem State.onPower_host (s : State) (f : Power → Power) : (s.onPower f).host = s.host := rfl
@[simp] theorem State.onPower_feed (s : State) (f : Power → Power) : (s.onPower f).feed = s.feed := rfl
@[simp] theorem State.onPower_memc (s : State) (f : Power → Power) : (s.onPower f).memc = s.memc := rfl
@[simp] theorem State.onPower_power (s : State) (f : Power → Power) : (s.onPower f).power = f s.power := rfl
@[simp] theorem State.onPower_churns (s : State) (f : Power → Power) : (s.onPower f).churns = s.churns := rfl
@[simp] theorem State.onPower_trumpSels (s : State) (f : Power → Power) : (s.onPower f).trumpSels = s.trumpSels := rfl
@[simp] theorem State.onPower_scalers (s : State) (f : Power → Power) : (s.onPower f).scalers = s.scalers := rfl
@[simp] theorem State.onPower_skim (s : State) (f : Power → Power) : (s.onPower f).skim = s.skim := rfl
@[simp] theorem State.onPower_phots (s : State) (f : Power → Power) : (s.onPower f).phots = s.phots := rfl
@[simp] theorem State.onPower_pot (s : State) (f : Power → Power) : (s.onPower f).pot = s.pot := rfl
@[simp] theorem State.onPower_ports (s : State) (f : Power → Power) : (s.onPower f).ports = s.ports := rfl
@[simp] theorem State.onPower_tiles (s : State) (f : Power → Power) : (s.onPower f).tiles = s.tiles := rfl
@[simp] theorem State.onPower_diags (s : State) (f : Power → Power) : (s.onPower f).diags = s.diags := rfl
@[simp] theorem State.onPower_ctl (s : State) (f : Power → Power) : (s.onPower f).ctl = s.ctl := rfl
@[simp] theorem State.onPower_house (s : State) (f : Power → Power) : (s.onPower f).house = s.house := rfl
@[simp] theorem State.onPower_accent (s : State) (f : Power → Power) : (s.onPower f).accent = s.accent := rfl

/-! ### onSkim -/

@[simp] theorem State.onSkim_pending (s : State) (f : Skim → Skim) : (s.onSkim f).pending = s.pending := rfl
@[simp] theorem State.onSkim_lamp (s : State) (f : Skim → Skim) : (s.onSkim f).lamp = s.lamp := rfl
@[simp] theorem State.onSkim_freeSeq (s : State) (f : Skim → Skim) : (s.onSkim f).freeSeq = s.freeSeq := rfl
@[simp] theorem State.onSkim_outbox (s : State) (f : Skim → Skim) : (s.onSkim f).outbox = s.outbox := rfl
@[simp] theorem State.onSkim_regs (s : State) (f : Skim → Skim) : (s.onSkim f).regs = s.regs := rfl
@[simp] theorem State.onSkim_rws (s : State) (f : Skim → Skim) : (s.onSkim f).rws = s.rws := rfl
@[simp] theorem State.onSkim_dram (s : State) (f : Skim → Skim) : (s.onSkim f).dram = s.dram := rfl
@[simp] theorem State.onSkim_dramBad (s : State) (f : Skim → Skim) : (s.onSkim f).dramBad = s.dramBad := rfl
@[simp] theorem State.onSkim_coreMem (s : State) (f : Skim → Skim) : (s.onSkim f).coreMem = s.coreMem := rfl
@[simp] theorem State.onSkim_fwLog (s : State) (f : Skim → Skim) : (s.onSkim f).fwLog = s.fwLog := rfl
@[simp] theorem State.onSkim_pins (s : State) (f : Skim → Skim) : (s.onSkim f).pins = s.pins := rfl
@[simp] theorem State.onSkim_dev (s : State) (f : Skim → Skim) : (s.onSkim f).dev = s.dev := rfl
@[simp] theorem State.onSkim_deal (s : State) (f : Skim → Skim) : (s.onSkim f).deal = s.deal := rfl
@[simp] theorem State.onSkim_rings (s : State) (f : Skim → Skim) : (s.onSkim f).rings = s.rings := rfl
@[simp] theorem State.onSkim_dealer (s : State) (f : Skim → Skim) : (s.onSkim f).dealer = s.dealer := rfl
@[simp] theorem State.onSkim_timing (s : State) (f : Skim → Skim) : (s.onSkim f).timing = s.timing := rfl
@[simp] theorem State.onSkim_faults (s : State) (f : Skim → Skim) : (s.onSkim f).faults = s.faults := rfl
@[simp] theorem State.onSkim_partner (s : State) (f : Skim → Skim) : (s.onSkim f).partner = s.partner := rfl
@[simp] theorem State.onSkim_intc (s : State) (f : Skim → Skim) : (s.onSkim f).intc = s.intc := rfl
@[simp] theorem State.onSkim_host (s : State) (f : Skim → Skim) : (s.onSkim f).host = s.host := rfl
@[simp] theorem State.onSkim_feed (s : State) (f : Skim → Skim) : (s.onSkim f).feed = s.feed := rfl
@[simp] theorem State.onSkim_memc (s : State) (f : Skim → Skim) : (s.onSkim f).memc = s.memc := rfl
@[simp] theorem State.onSkim_power (s : State) (f : Skim → Skim) : (s.onSkim f).power = s.power := rfl
@[simp] theorem State.onSkim_churns (s : State) (f : Skim → Skim) : (s.onSkim f).churns = s.churns := rfl
@[simp] theorem State.onSkim_trumpSels (s : State) (f : Skim → Skim) : (s.onSkim f).trumpSels = s.trumpSels := rfl
@[simp] theorem State.onSkim_scalers (s : State) (f : Skim → Skim) : (s.onSkim f).scalers = s.scalers := rfl
@[simp] theorem State.onSkim_skim (s : State) (f : Skim → Skim) : (s.onSkim f).skim = f s.skim := rfl
@[simp] theorem State.onSkim_phots (s : State) (f : Skim → Skim) : (s.onSkim f).phots = s.phots := rfl
@[simp] theorem State.onSkim_pot (s : State) (f : Skim → Skim) : (s.onSkim f).pot = s.pot := rfl
@[simp] theorem State.onSkim_ports (s : State) (f : Skim → Skim) : (s.onSkim f).ports = s.ports := rfl
@[simp] theorem State.onSkim_tiles (s : State) (f : Skim → Skim) : (s.onSkim f).tiles = s.tiles := rfl
@[simp] theorem State.onSkim_diags (s : State) (f : Skim → Skim) : (s.onSkim f).diags = s.diags := rfl
@[simp] theorem State.onSkim_ctl (s : State) (f : Skim → Skim) : (s.onSkim f).ctl = s.ctl := rfl
@[simp] theorem State.onSkim_house (s : State) (f : Skim → Skim) : (s.onSkim f).house = s.house := rfl
@[simp] theorem State.onSkim_accent (s : State) (f : Skim → Skim) : (s.onSkim f).accent = s.accent := rfl

/-! ### onPot -/

@[simp] theorem State.onPot_pending (s : State) (f : ChipPot → ChipPot) : (s.onPot f).pending = s.pending := rfl
@[simp] theorem State.onPot_lamp (s : State) (f : ChipPot → ChipPot) : (s.onPot f).lamp = s.lamp := rfl
@[simp] theorem State.onPot_freeSeq (s : State) (f : ChipPot → ChipPot) : (s.onPot f).freeSeq = s.freeSeq := rfl
@[simp] theorem State.onPot_outbox (s : State) (f : ChipPot → ChipPot) : (s.onPot f).outbox = s.outbox := rfl
@[simp] theorem State.onPot_regs (s : State) (f : ChipPot → ChipPot) : (s.onPot f).regs = s.regs := rfl
@[simp] theorem State.onPot_rws (s : State) (f : ChipPot → ChipPot) : (s.onPot f).rws = s.rws := rfl
@[simp] theorem State.onPot_dram (s : State) (f : ChipPot → ChipPot) : (s.onPot f).dram = s.dram := rfl
@[simp] theorem State.onPot_dramBad (s : State) (f : ChipPot → ChipPot) : (s.onPot f).dramBad = s.dramBad := rfl
@[simp] theorem State.onPot_coreMem (s : State) (f : ChipPot → ChipPot) : (s.onPot f).coreMem = s.coreMem := rfl
@[simp] theorem State.onPot_fwLog (s : State) (f : ChipPot → ChipPot) : (s.onPot f).fwLog = s.fwLog := rfl
@[simp] theorem State.onPot_pins (s : State) (f : ChipPot → ChipPot) : (s.onPot f).pins = s.pins := rfl
@[simp] theorem State.onPot_dev (s : State) (f : ChipPot → ChipPot) : (s.onPot f).dev = s.dev := rfl
@[simp] theorem State.onPot_deal (s : State) (f : ChipPot → ChipPot) : (s.onPot f).deal = s.deal := rfl
@[simp] theorem State.onPot_rings (s : State) (f : ChipPot → ChipPot) : (s.onPot f).rings = s.rings := rfl
@[simp] theorem State.onPot_dealer (s : State) (f : ChipPot → ChipPot) : (s.onPot f).dealer = s.dealer := rfl
@[simp] theorem State.onPot_timing (s : State) (f : ChipPot → ChipPot) : (s.onPot f).timing = s.timing := rfl
@[simp] theorem State.onPot_faults (s : State) (f : ChipPot → ChipPot) : (s.onPot f).faults = s.faults := rfl
@[simp] theorem State.onPot_partner (s : State) (f : ChipPot → ChipPot) : (s.onPot f).partner = s.partner := rfl
@[simp] theorem State.onPot_intc (s : State) (f : ChipPot → ChipPot) : (s.onPot f).intc = s.intc := rfl
@[simp] theorem State.onPot_host (s : State) (f : ChipPot → ChipPot) : (s.onPot f).host = s.host := rfl
@[simp] theorem State.onPot_feed (s : State) (f : ChipPot → ChipPot) : (s.onPot f).feed = s.feed := rfl
@[simp] theorem State.onPot_memc (s : State) (f : ChipPot → ChipPot) : (s.onPot f).memc = s.memc := rfl
@[simp] theorem State.onPot_power (s : State) (f : ChipPot → ChipPot) : (s.onPot f).power = s.power := rfl
@[simp] theorem State.onPot_churns (s : State) (f : ChipPot → ChipPot) : (s.onPot f).churns = s.churns := rfl
@[simp] theorem State.onPot_trumpSels (s : State) (f : ChipPot → ChipPot) : (s.onPot f).trumpSels = s.trumpSels := rfl
@[simp] theorem State.onPot_scalers (s : State) (f : ChipPot → ChipPot) : (s.onPot f).scalers = s.scalers := rfl
@[simp] theorem State.onPot_skim (s : State) (f : ChipPot → ChipPot) : (s.onPot f).skim = s.skim := rfl
@[simp] theorem State.onPot_phots (s : State) (f : ChipPot → ChipPot) : (s.onPot f).phots = s.phots := rfl
@[simp] theorem State.onPot_pot (s : State) (f : ChipPot → ChipPot) : (s.onPot f).pot = f s.pot := rfl
@[simp] theorem State.onPot_ports (s : State) (f : ChipPot → ChipPot) : (s.onPot f).ports = s.ports := rfl
@[simp] theorem State.onPot_tiles (s : State) (f : ChipPot → ChipPot) : (s.onPot f).tiles = s.tiles := rfl
@[simp] theorem State.onPot_diags (s : State) (f : ChipPot → ChipPot) : (s.onPot f).diags = s.diags := rfl
@[simp] theorem State.onPot_ctl (s : State) (f : ChipPot → ChipPot) : (s.onPot f).ctl = s.ctl := rfl
@[simp] theorem State.onPot_house (s : State) (f : ChipPot → ChipPot) : (s.onPot f).house = s.house := rfl
@[simp] theorem State.onPot_accent (s : State) (f : ChipPot → ChipPot) : (s.onPot f).accent = s.accent := rfl

/-! ### onCtl -/

@[simp] theorem State.onCtl_pending (s : State) (f : Ctl → Ctl) : (s.onCtl f).pending = s.pending := rfl
@[simp] theorem State.onCtl_lamp (s : State) (f : Ctl → Ctl) : (s.onCtl f).lamp = s.lamp := rfl
@[simp] theorem State.onCtl_freeSeq (s : State) (f : Ctl → Ctl) : (s.onCtl f).freeSeq = s.freeSeq := rfl
@[simp] theorem State.onCtl_outbox (s : State) (f : Ctl → Ctl) : (s.onCtl f).outbox = s.outbox := rfl
@[simp] theorem State.onCtl_regs (s : State) (f : Ctl → Ctl) : (s.onCtl f).regs = s.regs := rfl
@[simp] theorem State.onCtl_rws (s : State) (f : Ctl → Ctl) : (s.onCtl f).rws = s.rws := rfl
@[simp] theorem State.onCtl_dram (s : State) (f : Ctl → Ctl) : (s.onCtl f).dram = s.dram := rfl
@[simp] theorem State.onCtl_dramBad (s : State) (f : Ctl → Ctl) : (s.onCtl f).dramBad = s.dramBad := rfl
@[simp] theorem State.onCtl_coreMem (s : State) (f : Ctl → Ctl) : (s.onCtl f).coreMem = s.coreMem := rfl
@[simp] theorem State.onCtl_fwLog (s : State) (f : Ctl → Ctl) : (s.onCtl f).fwLog = s.fwLog := rfl
@[simp] theorem State.onCtl_pins (s : State) (f : Ctl → Ctl) : (s.onCtl f).pins = s.pins := rfl
@[simp] theorem State.onCtl_dev (s : State) (f : Ctl → Ctl) : (s.onCtl f).dev = s.dev := rfl
@[simp] theorem State.onCtl_deal (s : State) (f : Ctl → Ctl) : (s.onCtl f).deal = s.deal := rfl
@[simp] theorem State.onCtl_rings (s : State) (f : Ctl → Ctl) : (s.onCtl f).rings = s.rings := rfl
@[simp] theorem State.onCtl_dealer (s : State) (f : Ctl → Ctl) : (s.onCtl f).dealer = s.dealer := rfl
@[simp] theorem State.onCtl_timing (s : State) (f : Ctl → Ctl) : (s.onCtl f).timing = s.timing := rfl
@[simp] theorem State.onCtl_faults (s : State) (f : Ctl → Ctl) : (s.onCtl f).faults = s.faults := rfl
@[simp] theorem State.onCtl_partner (s : State) (f : Ctl → Ctl) : (s.onCtl f).partner = s.partner := rfl
@[simp] theorem State.onCtl_intc (s : State) (f : Ctl → Ctl) : (s.onCtl f).intc = s.intc := rfl
@[simp] theorem State.onCtl_host (s : State) (f : Ctl → Ctl) : (s.onCtl f).host = s.host := rfl
@[simp] theorem State.onCtl_feed (s : State) (f : Ctl → Ctl) : (s.onCtl f).feed = s.feed := rfl
@[simp] theorem State.onCtl_memc (s : State) (f : Ctl → Ctl) : (s.onCtl f).memc = s.memc := rfl
@[simp] theorem State.onCtl_power (s : State) (f : Ctl → Ctl) : (s.onCtl f).power = s.power := rfl
@[simp] theorem State.onCtl_churns (s : State) (f : Ctl → Ctl) : (s.onCtl f).churns = s.churns := rfl
@[simp] theorem State.onCtl_trumpSels (s : State) (f : Ctl → Ctl) : (s.onCtl f).trumpSels = s.trumpSels := rfl
@[simp] theorem State.onCtl_scalers (s : State) (f : Ctl → Ctl) : (s.onCtl f).scalers = s.scalers := rfl
@[simp] theorem State.onCtl_skim (s : State) (f : Ctl → Ctl) : (s.onCtl f).skim = s.skim := rfl
@[simp] theorem State.onCtl_phots (s : State) (f : Ctl → Ctl) : (s.onCtl f).phots = s.phots := rfl
@[simp] theorem State.onCtl_pot (s : State) (f : Ctl → Ctl) : (s.onCtl f).pot = s.pot := rfl
@[simp] theorem State.onCtl_ports (s : State) (f : Ctl → Ctl) : (s.onCtl f).ports = s.ports := rfl
@[simp] theorem State.onCtl_tiles (s : State) (f : Ctl → Ctl) : (s.onCtl f).tiles = s.tiles := rfl
@[simp] theorem State.onCtl_diags (s : State) (f : Ctl → Ctl) : (s.onCtl f).diags = s.diags := rfl
@[simp] theorem State.onCtl_ctl (s : State) (f : Ctl → Ctl) : (s.onCtl f).ctl = f s.ctl := rfl
@[simp] theorem State.onCtl_house (s : State) (f : Ctl → Ctl) : (s.onCtl f).house = s.house := rfl
@[simp] theorem State.onCtl_accent (s : State) (f : Ctl → Ctl) : (s.onCtl f).accent = s.accent := rfl

/-! ### onHouse -/

@[simp] theorem State.onHouse_pending (s : State) (f : House → House) : (s.onHouse f).pending = s.pending := rfl
@[simp] theorem State.onHouse_lamp (s : State) (f : House → House) : (s.onHouse f).lamp = s.lamp := rfl
@[simp] theorem State.onHouse_freeSeq (s : State) (f : House → House) : (s.onHouse f).freeSeq = s.freeSeq := rfl
@[simp] theorem State.onHouse_outbox (s : State) (f : House → House) : (s.onHouse f).outbox = s.outbox := rfl
@[simp] theorem State.onHouse_regs (s : State) (f : House → House) : (s.onHouse f).regs = s.regs := rfl
@[simp] theorem State.onHouse_rws (s : State) (f : House → House) : (s.onHouse f).rws = s.rws := rfl
@[simp] theorem State.onHouse_dram (s : State) (f : House → House) : (s.onHouse f).dram = s.dram := rfl
@[simp] theorem State.onHouse_dramBad (s : State) (f : House → House) : (s.onHouse f).dramBad = s.dramBad := rfl
@[simp] theorem State.onHouse_coreMem (s : State) (f : House → House) : (s.onHouse f).coreMem = s.coreMem := rfl
@[simp] theorem State.onHouse_fwLog (s : State) (f : House → House) : (s.onHouse f).fwLog = s.fwLog := rfl
@[simp] theorem State.onHouse_pins (s : State) (f : House → House) : (s.onHouse f).pins = s.pins := rfl
@[simp] theorem State.onHouse_dev (s : State) (f : House → House) : (s.onHouse f).dev = s.dev := rfl
@[simp] theorem State.onHouse_deal (s : State) (f : House → House) : (s.onHouse f).deal = s.deal := rfl
@[simp] theorem State.onHouse_rings (s : State) (f : House → House) : (s.onHouse f).rings = s.rings := rfl
@[simp] theorem State.onHouse_dealer (s : State) (f : House → House) : (s.onHouse f).dealer = s.dealer := rfl
@[simp] theorem State.onHouse_timing (s : State) (f : House → House) : (s.onHouse f).timing = s.timing := rfl
@[simp] theorem State.onHouse_faults (s : State) (f : House → House) : (s.onHouse f).faults = s.faults := rfl
@[simp] theorem State.onHouse_partner (s : State) (f : House → House) : (s.onHouse f).partner = s.partner := rfl
@[simp] theorem State.onHouse_intc (s : State) (f : House → House) : (s.onHouse f).intc = s.intc := rfl
@[simp] theorem State.onHouse_host (s : State) (f : House → House) : (s.onHouse f).host = s.host := rfl
@[simp] theorem State.onHouse_feed (s : State) (f : House → House) : (s.onHouse f).feed = s.feed := rfl
@[simp] theorem State.onHouse_memc (s : State) (f : House → House) : (s.onHouse f).memc = s.memc := rfl
@[simp] theorem State.onHouse_power (s : State) (f : House → House) : (s.onHouse f).power = s.power := rfl
@[simp] theorem State.onHouse_churns (s : State) (f : House → House) : (s.onHouse f).churns = s.churns := rfl
@[simp] theorem State.onHouse_trumpSels (s : State) (f : House → House) : (s.onHouse f).trumpSels = s.trumpSels := rfl
@[simp] theorem State.onHouse_scalers (s : State) (f : House → House) : (s.onHouse f).scalers = s.scalers := rfl
@[simp] theorem State.onHouse_skim (s : State) (f : House → House) : (s.onHouse f).skim = s.skim := rfl
@[simp] theorem State.onHouse_phots (s : State) (f : House → House) : (s.onHouse f).phots = s.phots := rfl
@[simp] theorem State.onHouse_pot (s : State) (f : House → House) : (s.onHouse f).pot = s.pot := rfl
@[simp] theorem State.onHouse_ports (s : State) (f : House → House) : (s.onHouse f).ports = s.ports := rfl
@[simp] theorem State.onHouse_tiles (s : State) (f : House → House) : (s.onHouse f).tiles = s.tiles := rfl
@[simp] theorem State.onHouse_diags (s : State) (f : House → House) : (s.onHouse f).diags = s.diags := rfl
@[simp] theorem State.onHouse_ctl (s : State) (f : House → House) : (s.onHouse f).ctl = s.ctl := rfl
@[simp] theorem State.onHouse_house (s : State) (f : House → House) : (s.onHouse f).house = f s.house := rfl
@[simp] theorem State.onHouse_accent (s : State) (f : House → House) : (s.onHouse f).accent = s.accent := rfl

/-! ### onAccent -/

@[simp] theorem State.onAccent_pending (s : State) (f : Accent → Accent) : (s.onAccent f).pending = s.pending := rfl
@[simp] theorem State.onAccent_lamp (s : State) (f : Accent → Accent) : (s.onAccent f).lamp = s.lamp := rfl
@[simp] theorem State.onAccent_freeSeq (s : State) (f : Accent → Accent) : (s.onAccent f).freeSeq = s.freeSeq := rfl
@[simp] theorem State.onAccent_outbox (s : State) (f : Accent → Accent) : (s.onAccent f).outbox = s.outbox := rfl
@[simp] theorem State.onAccent_regs (s : State) (f : Accent → Accent) : (s.onAccent f).regs = s.regs := rfl
@[simp] theorem State.onAccent_rws (s : State) (f : Accent → Accent) : (s.onAccent f).rws = s.rws := rfl
@[simp] theorem State.onAccent_dram (s : State) (f : Accent → Accent) : (s.onAccent f).dram = s.dram := rfl
@[simp] theorem State.onAccent_dramBad (s : State) (f : Accent → Accent) : (s.onAccent f).dramBad = s.dramBad := rfl
@[simp] theorem State.onAccent_coreMem (s : State) (f : Accent → Accent) : (s.onAccent f).coreMem = s.coreMem := rfl
@[simp] theorem State.onAccent_fwLog (s : State) (f : Accent → Accent) : (s.onAccent f).fwLog = s.fwLog := rfl
@[simp] theorem State.onAccent_pins (s : State) (f : Accent → Accent) : (s.onAccent f).pins = s.pins := rfl
@[simp] theorem State.onAccent_dev (s : State) (f : Accent → Accent) : (s.onAccent f).dev = s.dev := rfl
@[simp] theorem State.onAccent_deal (s : State) (f : Accent → Accent) : (s.onAccent f).deal = s.deal := rfl
@[simp] theorem State.onAccent_rings (s : State) (f : Accent → Accent) : (s.onAccent f).rings = s.rings := rfl
@[simp] theorem State.onAccent_dealer (s : State) (f : Accent → Accent) : (s.onAccent f).dealer = s.dealer := rfl
@[simp] theorem State.onAccent_timing (s : State) (f : Accent → Accent) : (s.onAccent f).timing = s.timing := rfl
@[simp] theorem State.onAccent_faults (s : State) (f : Accent → Accent) : (s.onAccent f).faults = s.faults := rfl
@[simp] theorem State.onAccent_partner (s : State) (f : Accent → Accent) : (s.onAccent f).partner = s.partner := rfl
@[simp] theorem State.onAccent_intc (s : State) (f : Accent → Accent) : (s.onAccent f).intc = s.intc := rfl
@[simp] theorem State.onAccent_host (s : State) (f : Accent → Accent) : (s.onAccent f).host = s.host := rfl
@[simp] theorem State.onAccent_feed (s : State) (f : Accent → Accent) : (s.onAccent f).feed = s.feed := rfl
@[simp] theorem State.onAccent_memc (s : State) (f : Accent → Accent) : (s.onAccent f).memc = s.memc := rfl
@[simp] theorem State.onAccent_power (s : State) (f : Accent → Accent) : (s.onAccent f).power = s.power := rfl
@[simp] theorem State.onAccent_churns (s : State) (f : Accent → Accent) : (s.onAccent f).churns = s.churns := rfl
@[simp] theorem State.onAccent_trumpSels (s : State) (f : Accent → Accent) : (s.onAccent f).trumpSels = s.trumpSels := rfl
@[simp] theorem State.onAccent_scalers (s : State) (f : Accent → Accent) : (s.onAccent f).scalers = s.scalers := rfl
@[simp] theorem State.onAccent_skim (s : State) (f : Accent → Accent) : (s.onAccent f).skim = s.skim := rfl
@[simp] theorem State.onAccent_phots (s : State) (f : Accent → Accent) : (s.onAccent f).phots = s.phots := rfl
@[simp] theorem State.onAccent_pot (s : State) (f : Accent → Accent) : (s.onAccent f).pot = s.pot := rfl
@[simp] theorem State.onAccent_ports (s : State) (f : Accent → Accent) : (s.onAccent f).ports = s.ports := rfl
@[simp] theorem State.onAccent_tiles (s : State) (f : Accent → Accent) : (s.onAccent f).tiles = s.tiles := rfl
@[simp] theorem State.onAccent_diags (s : State) (f : Accent → Accent) : (s.onAccent f).diags = s.diags := rfl
@[simp] theorem State.onAccent_ctl (s : State) (f : Accent → Accent) : (s.onAccent f).ctl = s.ctl := rfl
@[simp] theorem State.onAccent_house (s : State) (f : Accent → Accent) : (s.onAccent f).house = s.house := rfl
@[simp] theorem State.onAccent_accent (s : State) (f : Accent → Accent) : (s.onAccent f).accent = f s.accent := rfl

/-! ### onRing -/

@[simp] theorem State.onRing_pending (s : State) (i : RingId) (f : Ring → Ring) : (s.onRing i f).pending = s.pending := rfl
@[simp] theorem State.onRing_lamp (s : State) (i : RingId) (f : Ring → Ring) : (s.onRing i f).lamp = s.lamp := rfl
@[simp] theorem State.onRing_freeSeq (s : State) (i : RingId) (f : Ring → Ring) : (s.onRing i f).freeSeq = s.freeSeq := rfl
@[simp] theorem State.onRing_outbox (s : State) (i : RingId) (f : Ring → Ring) : (s.onRing i f).outbox = s.outbox := rfl
@[simp] theorem State.onRing_regs (s : State) (i : RingId) (f : Ring → Ring) : (s.onRing i f).regs = s.regs := rfl
@[simp] theorem State.onRing_rws (s : State) (i : RingId) (f : Ring → Ring) : (s.onRing i f).rws = s.rws := rfl
@[simp] theorem State.onRing_dram (s : State) (i : RingId) (f : Ring → Ring) : (s.onRing i f).dram = s.dram := rfl
@[simp] theorem State.onRing_dramBad (s : State) (i : RingId) (f : Ring → Ring) : (s.onRing i f).dramBad = s.dramBad := rfl
@[simp] theorem State.onRing_coreMem (s : State) (i : RingId) (f : Ring → Ring) : (s.onRing i f).coreMem = s.coreMem := rfl
@[simp] theorem State.onRing_fwLog (s : State) (i : RingId) (f : Ring → Ring) : (s.onRing i f).fwLog = s.fwLog := rfl
@[simp] theorem State.onRing_pins (s : State) (i : RingId) (f : Ring → Ring) : (s.onRing i f).pins = s.pins := rfl
@[simp] theorem State.onRing_dev (s : State) (i : RingId) (f : Ring → Ring) : (s.onRing i f).dev = s.dev := rfl
@[simp] theorem State.onRing_deal (s : State) (i : RingId) (f : Ring → Ring) : (s.onRing i f).deal = s.deal := rfl
@[simp] theorem State.onRing_rings (s : State) (i : RingId) (f : Ring → Ring) : (s.onRing i f).rings = s.rings.set i (f (s.rings.get i)) := rfl
@[simp] theorem State.onRing_dealer (s : State) (i : RingId) (f : Ring → Ring) : (s.onRing i f).dealer = s.dealer := rfl
@[simp] theorem State.onRing_timing (s : State) (i : RingId) (f : Ring → Ring) : (s.onRing i f).timing = s.timing := rfl
@[simp] theorem State.onRing_faults (s : State) (i : RingId) (f : Ring → Ring) : (s.onRing i f).faults = s.faults := rfl
@[simp] theorem State.onRing_partner (s : State) (i : RingId) (f : Ring → Ring) : (s.onRing i f).partner = s.partner := rfl
@[simp] theorem State.onRing_intc (s : State) (i : RingId) (f : Ring → Ring) : (s.onRing i f).intc = s.intc := rfl
@[simp] theorem State.onRing_host (s : State) (i : RingId) (f : Ring → Ring) : (s.onRing i f).host = s.host := rfl
@[simp] theorem State.onRing_feed (s : State) (i : RingId) (f : Ring → Ring) : (s.onRing i f).feed = s.feed := rfl
@[simp] theorem State.onRing_memc (s : State) (i : RingId) (f : Ring → Ring) : (s.onRing i f).memc = s.memc := rfl
@[simp] theorem State.onRing_power (s : State) (i : RingId) (f : Ring → Ring) : (s.onRing i f).power = s.power := rfl
@[simp] theorem State.onRing_churns (s : State) (i : RingId) (f : Ring → Ring) : (s.onRing i f).churns = s.churns := rfl
@[simp] theorem State.onRing_trumpSels (s : State) (i : RingId) (f : Ring → Ring) : (s.onRing i f).trumpSels = s.trumpSels := rfl
@[simp] theorem State.onRing_scalers (s : State) (i : RingId) (f : Ring → Ring) : (s.onRing i f).scalers = s.scalers := rfl
@[simp] theorem State.onRing_skim (s : State) (i : RingId) (f : Ring → Ring) : (s.onRing i f).skim = s.skim := rfl
@[simp] theorem State.onRing_phots (s : State) (i : RingId) (f : Ring → Ring) : (s.onRing i f).phots = s.phots := rfl
@[simp] theorem State.onRing_pot (s : State) (i : RingId) (f : Ring → Ring) : (s.onRing i f).pot = s.pot := rfl
@[simp] theorem State.onRing_ports (s : State) (i : RingId) (f : Ring → Ring) : (s.onRing i f).ports = s.ports := rfl
@[simp] theorem State.onRing_tiles (s : State) (i : RingId) (f : Ring → Ring) : (s.onRing i f).tiles = s.tiles := rfl
@[simp] theorem State.onRing_diags (s : State) (i : RingId) (f : Ring → Ring) : (s.onRing i f).diags = s.diags := rfl
@[simp] theorem State.onRing_ctl (s : State) (i : RingId) (f : Ring → Ring) : (s.onRing i f).ctl = s.ctl := rfl
@[simp] theorem State.onRing_house (s : State) (i : RingId) (f : Ring → Ring) : (s.onRing i f).house = s.house := rfl
@[simp] theorem State.onRing_accent (s : State) (i : RingId) (f : Ring → Ring) : (s.onRing i f).accent = s.accent := rfl

/-! ### onChurn -/

@[simp] theorem State.onChurn_pending (s : State) (i : TileId) (f : Churn → Churn) : (s.onChurn i f).pending = s.pending := rfl
@[simp] theorem State.onChurn_lamp (s : State) (i : TileId) (f : Churn → Churn) : (s.onChurn i f).lamp = s.lamp := rfl
@[simp] theorem State.onChurn_freeSeq (s : State) (i : TileId) (f : Churn → Churn) : (s.onChurn i f).freeSeq = s.freeSeq := rfl
@[simp] theorem State.onChurn_outbox (s : State) (i : TileId) (f : Churn → Churn) : (s.onChurn i f).outbox = s.outbox := rfl
@[simp] theorem State.onChurn_regs (s : State) (i : TileId) (f : Churn → Churn) : (s.onChurn i f).regs = s.regs := rfl
@[simp] theorem State.onChurn_rws (s : State) (i : TileId) (f : Churn → Churn) : (s.onChurn i f).rws = s.rws := rfl
@[simp] theorem State.onChurn_dram (s : State) (i : TileId) (f : Churn → Churn) : (s.onChurn i f).dram = s.dram := rfl
@[simp] theorem State.onChurn_dramBad (s : State) (i : TileId) (f : Churn → Churn) : (s.onChurn i f).dramBad = s.dramBad := rfl
@[simp] theorem State.onChurn_coreMem (s : State) (i : TileId) (f : Churn → Churn) : (s.onChurn i f).coreMem = s.coreMem := rfl
@[simp] theorem State.onChurn_fwLog (s : State) (i : TileId) (f : Churn → Churn) : (s.onChurn i f).fwLog = s.fwLog := rfl
@[simp] theorem State.onChurn_pins (s : State) (i : TileId) (f : Churn → Churn) : (s.onChurn i f).pins = s.pins := rfl
@[simp] theorem State.onChurn_dev (s : State) (i : TileId) (f : Churn → Churn) : (s.onChurn i f).dev = s.dev := rfl
@[simp] theorem State.onChurn_deal (s : State) (i : TileId) (f : Churn → Churn) : (s.onChurn i f).deal = s.deal := rfl
@[simp] theorem State.onChurn_rings (s : State) (i : TileId) (f : Churn → Churn) : (s.onChurn i f).rings = s.rings := rfl
@[simp] theorem State.onChurn_dealer (s : State) (i : TileId) (f : Churn → Churn) : (s.onChurn i f).dealer = s.dealer := rfl
@[simp] theorem State.onChurn_timing (s : State) (i : TileId) (f : Churn → Churn) : (s.onChurn i f).timing = s.timing := rfl
@[simp] theorem State.onChurn_faults (s : State) (i : TileId) (f : Churn → Churn) : (s.onChurn i f).faults = s.faults := rfl
@[simp] theorem State.onChurn_partner (s : State) (i : TileId) (f : Churn → Churn) : (s.onChurn i f).partner = s.partner := rfl
@[simp] theorem State.onChurn_intc (s : State) (i : TileId) (f : Churn → Churn) : (s.onChurn i f).intc = s.intc := rfl
@[simp] theorem State.onChurn_host (s : State) (i : TileId) (f : Churn → Churn) : (s.onChurn i f).host = s.host := rfl
@[simp] theorem State.onChurn_feed (s : State) (i : TileId) (f : Churn → Churn) : (s.onChurn i f).feed = s.feed := rfl
@[simp] theorem State.onChurn_memc (s : State) (i : TileId) (f : Churn → Churn) : (s.onChurn i f).memc = s.memc := rfl
@[simp] theorem State.onChurn_power (s : State) (i : TileId) (f : Churn → Churn) : (s.onChurn i f).power = s.power := rfl
@[simp] theorem State.onChurn_churns (s : State) (i : TileId) (f : Churn → Churn) : (s.onChurn i f).churns = s.churns.set i (f (s.churns.get i)) := rfl
@[simp] theorem State.onChurn_trumpSels (s : State) (i : TileId) (f : Churn → Churn) : (s.onChurn i f).trumpSels = s.trumpSels := rfl
@[simp] theorem State.onChurn_scalers (s : State) (i : TileId) (f : Churn → Churn) : (s.onChurn i f).scalers = s.scalers := rfl
@[simp] theorem State.onChurn_skim (s : State) (i : TileId) (f : Churn → Churn) : (s.onChurn i f).skim = s.skim := rfl
@[simp] theorem State.onChurn_phots (s : State) (i : TileId) (f : Churn → Churn) : (s.onChurn i f).phots = s.phots := rfl
@[simp] theorem State.onChurn_pot (s : State) (i : TileId) (f : Churn → Churn) : (s.onChurn i f).pot = s.pot := rfl
@[simp] theorem State.onChurn_ports (s : State) (i : TileId) (f : Churn → Churn) : (s.onChurn i f).ports = s.ports := rfl
@[simp] theorem State.onChurn_tiles (s : State) (i : TileId) (f : Churn → Churn) : (s.onChurn i f).tiles = s.tiles := rfl
@[simp] theorem State.onChurn_diags (s : State) (i : TileId) (f : Churn → Churn) : (s.onChurn i f).diags = s.diags := rfl
@[simp] theorem State.onChurn_ctl (s : State) (i : TileId) (f : Churn → Churn) : (s.onChurn i f).ctl = s.ctl := rfl
@[simp] theorem State.onChurn_house (s : State) (i : TileId) (f : Churn → Churn) : (s.onChurn i f).house = s.house := rfl
@[simp] theorem State.onChurn_accent (s : State) (i : TileId) (f : Churn → Churn) : (s.onChurn i f).accent = s.accent := rfl

/-! ### onPhot -/

@[simp] theorem State.onPhot_pending (s : State) (i : TileId) (f : Phot → Phot) : (s.onPhot i f).pending = s.pending := rfl
@[simp] theorem State.onPhot_lamp (s : State) (i : TileId) (f : Phot → Phot) : (s.onPhot i f).lamp = s.lamp := rfl
@[simp] theorem State.onPhot_freeSeq (s : State) (i : TileId) (f : Phot → Phot) : (s.onPhot i f).freeSeq = s.freeSeq := rfl
@[simp] theorem State.onPhot_outbox (s : State) (i : TileId) (f : Phot → Phot) : (s.onPhot i f).outbox = s.outbox := rfl
@[simp] theorem State.onPhot_regs (s : State) (i : TileId) (f : Phot → Phot) : (s.onPhot i f).regs = s.regs := rfl
@[simp] theorem State.onPhot_rws (s : State) (i : TileId) (f : Phot → Phot) : (s.onPhot i f).rws = s.rws := rfl
@[simp] theorem State.onPhot_dram (s : State) (i : TileId) (f : Phot → Phot) : (s.onPhot i f).dram = s.dram := rfl
@[simp] theorem State.onPhot_dramBad (s : State) (i : TileId) (f : Phot → Phot) : (s.onPhot i f).dramBad = s.dramBad := rfl
@[simp] theorem State.onPhot_coreMem (s : State) (i : TileId) (f : Phot → Phot) : (s.onPhot i f).coreMem = s.coreMem := rfl
@[simp] theorem State.onPhot_fwLog (s : State) (i : TileId) (f : Phot → Phot) : (s.onPhot i f).fwLog = s.fwLog := rfl
@[simp] theorem State.onPhot_pins (s : State) (i : TileId) (f : Phot → Phot) : (s.onPhot i f).pins = s.pins := rfl
@[simp] theorem State.onPhot_dev (s : State) (i : TileId) (f : Phot → Phot) : (s.onPhot i f).dev = s.dev := rfl
@[simp] theorem State.onPhot_deal (s : State) (i : TileId) (f : Phot → Phot) : (s.onPhot i f).deal = s.deal := rfl
@[simp] theorem State.onPhot_rings (s : State) (i : TileId) (f : Phot → Phot) : (s.onPhot i f).rings = s.rings := rfl
@[simp] theorem State.onPhot_dealer (s : State) (i : TileId) (f : Phot → Phot) : (s.onPhot i f).dealer = s.dealer := rfl
@[simp] theorem State.onPhot_timing (s : State) (i : TileId) (f : Phot → Phot) : (s.onPhot i f).timing = s.timing := rfl
@[simp] theorem State.onPhot_faults (s : State) (i : TileId) (f : Phot → Phot) : (s.onPhot i f).faults = s.faults := rfl
@[simp] theorem State.onPhot_partner (s : State) (i : TileId) (f : Phot → Phot) : (s.onPhot i f).partner = s.partner := rfl
@[simp] theorem State.onPhot_intc (s : State) (i : TileId) (f : Phot → Phot) : (s.onPhot i f).intc = s.intc := rfl
@[simp] theorem State.onPhot_host (s : State) (i : TileId) (f : Phot → Phot) : (s.onPhot i f).host = s.host := rfl
@[simp] theorem State.onPhot_feed (s : State) (i : TileId) (f : Phot → Phot) : (s.onPhot i f).feed = s.feed := rfl
@[simp] theorem State.onPhot_memc (s : State) (i : TileId) (f : Phot → Phot) : (s.onPhot i f).memc = s.memc := rfl
@[simp] theorem State.onPhot_power (s : State) (i : TileId) (f : Phot → Phot) : (s.onPhot i f).power = s.power := rfl
@[simp] theorem State.onPhot_churns (s : State) (i : TileId) (f : Phot → Phot) : (s.onPhot i f).churns = s.churns := rfl
@[simp] theorem State.onPhot_trumpSels (s : State) (i : TileId) (f : Phot → Phot) : (s.onPhot i f).trumpSels = s.trumpSels := rfl
@[simp] theorem State.onPhot_scalers (s : State) (i : TileId) (f : Phot → Phot) : (s.onPhot i f).scalers = s.scalers := rfl
@[simp] theorem State.onPhot_skim (s : State) (i : TileId) (f : Phot → Phot) : (s.onPhot i f).skim = s.skim := rfl
@[simp] theorem State.onPhot_phots (s : State) (i : TileId) (f : Phot → Phot) : (s.onPhot i f).phots = s.phots.set i (f (s.phots.get i)) := rfl
@[simp] theorem State.onPhot_pot (s : State) (i : TileId) (f : Phot → Phot) : (s.onPhot i f).pot = s.pot := rfl
@[simp] theorem State.onPhot_ports (s : State) (i : TileId) (f : Phot → Phot) : (s.onPhot i f).ports = s.ports := rfl
@[simp] theorem State.onPhot_tiles (s : State) (i : TileId) (f : Phot → Phot) : (s.onPhot i f).tiles = s.tiles := rfl
@[simp] theorem State.onPhot_diags (s : State) (i : TileId) (f : Phot → Phot) : (s.onPhot i f).diags = s.diags := rfl
@[simp] theorem State.onPhot_ctl (s : State) (i : TileId) (f : Phot → Phot) : (s.onPhot i f).ctl = s.ctl := rfl
@[simp] theorem State.onPhot_house (s : State) (i : TileId) (f : Phot → Phot) : (s.onPhot i f).house = s.house := rfl
@[simp] theorem State.onPhot_accent (s : State) (i : TileId) (f : Phot → Phot) : (s.onPhot i f).accent = s.accent := rfl

/-! ### onPort -/

@[simp] theorem State.onPort_pending (s : State) (i : TileId) (f : Port → Port) : (s.onPort i f).pending = s.pending := rfl
@[simp] theorem State.onPort_lamp (s : State) (i : TileId) (f : Port → Port) : (s.onPort i f).lamp = s.lamp := rfl
@[simp] theorem State.onPort_freeSeq (s : State) (i : TileId) (f : Port → Port) : (s.onPort i f).freeSeq = s.freeSeq := rfl
@[simp] theorem State.onPort_outbox (s : State) (i : TileId) (f : Port → Port) : (s.onPort i f).outbox = s.outbox := rfl
@[simp] theorem State.onPort_regs (s : State) (i : TileId) (f : Port → Port) : (s.onPort i f).regs = s.regs := rfl
@[simp] theorem State.onPort_rws (s : State) (i : TileId) (f : Port → Port) : (s.onPort i f).rws = s.rws := rfl
@[simp] theorem State.onPort_dram (s : State) (i : TileId) (f : Port → Port) : (s.onPort i f).dram = s.dram := rfl
@[simp] theorem State.onPort_dramBad (s : State) (i : TileId) (f : Port → Port) : (s.onPort i f).dramBad = s.dramBad := rfl
@[simp] theorem State.onPort_coreMem (s : State) (i : TileId) (f : Port → Port) : (s.onPort i f).coreMem = s.coreMem := rfl
@[simp] theorem State.onPort_fwLog (s : State) (i : TileId) (f : Port → Port) : (s.onPort i f).fwLog = s.fwLog := rfl
@[simp] theorem State.onPort_pins (s : State) (i : TileId) (f : Port → Port) : (s.onPort i f).pins = s.pins := rfl
@[simp] theorem State.onPort_dev (s : State) (i : TileId) (f : Port → Port) : (s.onPort i f).dev = s.dev := rfl
@[simp] theorem State.onPort_deal (s : State) (i : TileId) (f : Port → Port) : (s.onPort i f).deal = s.deal := rfl
@[simp] theorem State.onPort_rings (s : State) (i : TileId) (f : Port → Port) : (s.onPort i f).rings = s.rings := rfl
@[simp] theorem State.onPort_dealer (s : State) (i : TileId) (f : Port → Port) : (s.onPort i f).dealer = s.dealer := rfl
@[simp] theorem State.onPort_timing (s : State) (i : TileId) (f : Port → Port) : (s.onPort i f).timing = s.timing := rfl
@[simp] theorem State.onPort_faults (s : State) (i : TileId) (f : Port → Port) : (s.onPort i f).faults = s.faults := rfl
@[simp] theorem State.onPort_partner (s : State) (i : TileId) (f : Port → Port) : (s.onPort i f).partner = s.partner := rfl
@[simp] theorem State.onPort_intc (s : State) (i : TileId) (f : Port → Port) : (s.onPort i f).intc = s.intc := rfl
@[simp] theorem State.onPort_host (s : State) (i : TileId) (f : Port → Port) : (s.onPort i f).host = s.host := rfl
@[simp] theorem State.onPort_feed (s : State) (i : TileId) (f : Port → Port) : (s.onPort i f).feed = s.feed := rfl
@[simp] theorem State.onPort_memc (s : State) (i : TileId) (f : Port → Port) : (s.onPort i f).memc = s.memc := rfl
@[simp] theorem State.onPort_power (s : State) (i : TileId) (f : Port → Port) : (s.onPort i f).power = s.power := rfl
@[simp] theorem State.onPort_churns (s : State) (i : TileId) (f : Port → Port) : (s.onPort i f).churns = s.churns := rfl
@[simp] theorem State.onPort_trumpSels (s : State) (i : TileId) (f : Port → Port) : (s.onPort i f).trumpSels = s.trumpSels := rfl
@[simp] theorem State.onPort_scalers (s : State) (i : TileId) (f : Port → Port) : (s.onPort i f).scalers = s.scalers := rfl
@[simp] theorem State.onPort_skim (s : State) (i : TileId) (f : Port → Port) : (s.onPort i f).skim = s.skim := rfl
@[simp] theorem State.onPort_phots (s : State) (i : TileId) (f : Port → Port) : (s.onPort i f).phots = s.phots := rfl
@[simp] theorem State.onPort_pot (s : State) (i : TileId) (f : Port → Port) : (s.onPort i f).pot = s.pot := rfl
@[simp] theorem State.onPort_ports (s : State) (i : TileId) (f : Port → Port) : (s.onPort i f).ports = s.ports.set i (f (s.ports.get i)) := rfl
@[simp] theorem State.onPort_tiles (s : State) (i : TileId) (f : Port → Port) : (s.onPort i f).tiles = s.tiles := rfl
@[simp] theorem State.onPort_diags (s : State) (i : TileId) (f : Port → Port) : (s.onPort i f).diags = s.diags := rfl
@[simp] theorem State.onPort_ctl (s : State) (i : TileId) (f : Port → Port) : (s.onPort i f).ctl = s.ctl := rfl
@[simp] theorem State.onPort_house (s : State) (i : TileId) (f : Port → Port) : (s.onPort i f).house = s.house := rfl
@[simp] theorem State.onPort_accent (s : State) (i : TileId) (f : Port → Port) : (s.onPort i f).accent = s.accent := rfl

/-! ### onTile -/

@[simp] theorem State.onTile_pending (s : State) (i : TileId) (f : Tile → Tile) : (s.onTile i f).pending = s.pending := rfl
@[simp] theorem State.onTile_lamp (s : State) (i : TileId) (f : Tile → Tile) : (s.onTile i f).lamp = s.lamp := rfl
@[simp] theorem State.onTile_freeSeq (s : State) (i : TileId) (f : Tile → Tile) : (s.onTile i f).freeSeq = s.freeSeq := rfl
@[simp] theorem State.onTile_outbox (s : State) (i : TileId) (f : Tile → Tile) : (s.onTile i f).outbox = s.outbox := rfl
@[simp] theorem State.onTile_regs (s : State) (i : TileId) (f : Tile → Tile) : (s.onTile i f).regs = s.regs := rfl
@[simp] theorem State.onTile_rws (s : State) (i : TileId) (f : Tile → Tile) : (s.onTile i f).rws = s.rws := rfl
@[simp] theorem State.onTile_dram (s : State) (i : TileId) (f : Tile → Tile) : (s.onTile i f).dram = s.dram := rfl
@[simp] theorem State.onTile_dramBad (s : State) (i : TileId) (f : Tile → Tile) : (s.onTile i f).dramBad = s.dramBad := rfl
@[simp] theorem State.onTile_coreMem (s : State) (i : TileId) (f : Tile → Tile) : (s.onTile i f).coreMem = s.coreMem := rfl
@[simp] theorem State.onTile_fwLog (s : State) (i : TileId) (f : Tile → Tile) : (s.onTile i f).fwLog = s.fwLog := rfl
@[simp] theorem State.onTile_pins (s : State) (i : TileId) (f : Tile → Tile) : (s.onTile i f).pins = s.pins := rfl
@[simp] theorem State.onTile_dev (s : State) (i : TileId) (f : Tile → Tile) : (s.onTile i f).dev = s.dev := rfl
@[simp] theorem State.onTile_deal (s : State) (i : TileId) (f : Tile → Tile) : (s.onTile i f).deal = s.deal := rfl
@[simp] theorem State.onTile_rings (s : State) (i : TileId) (f : Tile → Tile) : (s.onTile i f).rings = s.rings := rfl
@[simp] theorem State.onTile_dealer (s : State) (i : TileId) (f : Tile → Tile) : (s.onTile i f).dealer = s.dealer := rfl
@[simp] theorem State.onTile_timing (s : State) (i : TileId) (f : Tile → Tile) : (s.onTile i f).timing = s.timing := rfl
@[simp] theorem State.onTile_faults (s : State) (i : TileId) (f : Tile → Tile) : (s.onTile i f).faults = s.faults := rfl
@[simp] theorem State.onTile_partner (s : State) (i : TileId) (f : Tile → Tile) : (s.onTile i f).partner = s.partner := rfl
@[simp] theorem State.onTile_intc (s : State) (i : TileId) (f : Tile → Tile) : (s.onTile i f).intc = s.intc := rfl
@[simp] theorem State.onTile_host (s : State) (i : TileId) (f : Tile → Tile) : (s.onTile i f).host = s.host := rfl
@[simp] theorem State.onTile_feed (s : State) (i : TileId) (f : Tile → Tile) : (s.onTile i f).feed = s.feed := rfl
@[simp] theorem State.onTile_memc (s : State) (i : TileId) (f : Tile → Tile) : (s.onTile i f).memc = s.memc := rfl
@[simp] theorem State.onTile_power (s : State) (i : TileId) (f : Tile → Tile) : (s.onTile i f).power = s.power := rfl
@[simp] theorem State.onTile_churns (s : State) (i : TileId) (f : Tile → Tile) : (s.onTile i f).churns = s.churns := rfl
@[simp] theorem State.onTile_trumpSels (s : State) (i : TileId) (f : Tile → Tile) : (s.onTile i f).trumpSels = s.trumpSels := rfl
@[simp] theorem State.onTile_scalers (s : State) (i : TileId) (f : Tile → Tile) : (s.onTile i f).scalers = s.scalers := rfl
@[simp] theorem State.onTile_skim (s : State) (i : TileId) (f : Tile → Tile) : (s.onTile i f).skim = s.skim := rfl
@[simp] theorem State.onTile_phots (s : State) (i : TileId) (f : Tile → Tile) : (s.onTile i f).phots = s.phots := rfl
@[simp] theorem State.onTile_pot (s : State) (i : TileId) (f : Tile → Tile) : (s.onTile i f).pot = s.pot := rfl
@[simp] theorem State.onTile_ports (s : State) (i : TileId) (f : Tile → Tile) : (s.onTile i f).ports = s.ports := rfl
@[simp] theorem State.onTile_tiles (s : State) (i : TileId) (f : Tile → Tile) : (s.onTile i f).tiles = s.tiles.set i (f (s.tiles.get i)) := rfl
@[simp] theorem State.onTile_diags (s : State) (i : TileId) (f : Tile → Tile) : (s.onTile i f).diags = s.diags := rfl
@[simp] theorem State.onTile_ctl (s : State) (i : TileId) (f : Tile → Tile) : (s.onTile i f).ctl = s.ctl := rfl
@[simp] theorem State.onTile_house (s : State) (i : TileId) (f : Tile → Tile) : (s.onTile i f).house = s.house := rfl
@[simp] theorem State.onTile_accent (s : State) (i : TileId) (f : Tile → Tile) : (s.onTile i f).accent = s.accent := rfl

/-! ### onDiag -/

@[simp] theorem State.onDiag_pending (s : State) (i : TileId) (f : Diag → Diag) : (s.onDiag i f).pending = s.pending := rfl
@[simp] theorem State.onDiag_lamp (s : State) (i : TileId) (f : Diag → Diag) : (s.onDiag i f).lamp = s.lamp := rfl
@[simp] theorem State.onDiag_freeSeq (s : State) (i : TileId) (f : Diag → Diag) : (s.onDiag i f).freeSeq = s.freeSeq := rfl
@[simp] theorem State.onDiag_outbox (s : State) (i : TileId) (f : Diag → Diag) : (s.onDiag i f).outbox = s.outbox := rfl
@[simp] theorem State.onDiag_regs (s : State) (i : TileId) (f : Diag → Diag) : (s.onDiag i f).regs = s.regs := rfl
@[simp] theorem State.onDiag_rws (s : State) (i : TileId) (f : Diag → Diag) : (s.onDiag i f).rws = s.rws := rfl
@[simp] theorem State.onDiag_dram (s : State) (i : TileId) (f : Diag → Diag) : (s.onDiag i f).dram = s.dram := rfl
@[simp] theorem State.onDiag_dramBad (s : State) (i : TileId) (f : Diag → Diag) : (s.onDiag i f).dramBad = s.dramBad := rfl
@[simp] theorem State.onDiag_coreMem (s : State) (i : TileId) (f : Diag → Diag) : (s.onDiag i f).coreMem = s.coreMem := rfl
@[simp] theorem State.onDiag_fwLog (s : State) (i : TileId) (f : Diag → Diag) : (s.onDiag i f).fwLog = s.fwLog := rfl
@[simp] theorem State.onDiag_pins (s : State) (i : TileId) (f : Diag → Diag) : (s.onDiag i f).pins = s.pins := rfl
@[simp] theorem State.onDiag_dev (s : State) (i : TileId) (f : Diag → Diag) : (s.onDiag i f).dev = s.dev := rfl
@[simp] theorem State.onDiag_deal (s : State) (i : TileId) (f : Diag → Diag) : (s.onDiag i f).deal = s.deal := rfl
@[simp] theorem State.onDiag_rings (s : State) (i : TileId) (f : Diag → Diag) : (s.onDiag i f).rings = s.rings := rfl
@[simp] theorem State.onDiag_dealer (s : State) (i : TileId) (f : Diag → Diag) : (s.onDiag i f).dealer = s.dealer := rfl
@[simp] theorem State.onDiag_timing (s : State) (i : TileId) (f : Diag → Diag) : (s.onDiag i f).timing = s.timing := rfl
@[simp] theorem State.onDiag_faults (s : State) (i : TileId) (f : Diag → Diag) : (s.onDiag i f).faults = s.faults := rfl
@[simp] theorem State.onDiag_partner (s : State) (i : TileId) (f : Diag → Diag) : (s.onDiag i f).partner = s.partner := rfl
@[simp] theorem State.onDiag_intc (s : State) (i : TileId) (f : Diag → Diag) : (s.onDiag i f).intc = s.intc := rfl
@[simp] theorem State.onDiag_host (s : State) (i : TileId) (f : Diag → Diag) : (s.onDiag i f).host = s.host := rfl
@[simp] theorem State.onDiag_feed (s : State) (i : TileId) (f : Diag → Diag) : (s.onDiag i f).feed = s.feed := rfl
@[simp] theorem State.onDiag_memc (s : State) (i : TileId) (f : Diag → Diag) : (s.onDiag i f).memc = s.memc := rfl
@[simp] theorem State.onDiag_power (s : State) (i : TileId) (f : Diag → Diag) : (s.onDiag i f).power = s.power := rfl
@[simp] theorem State.onDiag_churns (s : State) (i : TileId) (f : Diag → Diag) : (s.onDiag i f).churns = s.churns := rfl
@[simp] theorem State.onDiag_trumpSels (s : State) (i : TileId) (f : Diag → Diag) : (s.onDiag i f).trumpSels = s.trumpSels := rfl
@[simp] theorem State.onDiag_scalers (s : State) (i : TileId) (f : Diag → Diag) : (s.onDiag i f).scalers = s.scalers := rfl
@[simp] theorem State.onDiag_skim (s : State) (i : TileId) (f : Diag → Diag) : (s.onDiag i f).skim = s.skim := rfl
@[simp] theorem State.onDiag_phots (s : State) (i : TileId) (f : Diag → Diag) : (s.onDiag i f).phots = s.phots := rfl
@[simp] theorem State.onDiag_pot (s : State) (i : TileId) (f : Diag → Diag) : (s.onDiag i f).pot = s.pot := rfl
@[simp] theorem State.onDiag_ports (s : State) (i : TileId) (f : Diag → Diag) : (s.onDiag i f).ports = s.ports := rfl
@[simp] theorem State.onDiag_tiles (s : State) (i : TileId) (f : Diag → Diag) : (s.onDiag i f).tiles = s.tiles := rfl
@[simp] theorem State.onDiag_diags (s : State) (i : TileId) (f : Diag → Diag) : (s.onDiag i f).diags = s.diags.set i (f (s.diags.get i)) := rfl
@[simp] theorem State.onDiag_ctl (s : State) (i : TileId) (f : Diag → Diag) : (s.onDiag i f).ctl = s.ctl := rfl
@[simp] theorem State.onDiag_house (s : State) (i : TileId) (f : Diag → Diag) : (s.onDiag i f).house = s.house := rfl
@[simp] theorem State.onDiag_accent (s : State) (i : TileId) (f : Diag → Diag) : (s.onDiag i f).accent = s.accent := rfl

/-! ### onEvq -/

@[simp] theorem State.onEvq_pending (s : State) (q : QueueId) (f : Evq → Evq) : (s.onEvq q f).pending = s.pending := rfl
@[simp] theorem State.onEvq_lamp (s : State) (q : QueueId) (f : Evq → Evq) : (s.onEvq q f).lamp = s.lamp := rfl
@[simp] theorem State.onEvq_freeSeq (s : State) (q : QueueId) (f : Evq → Evq) : (s.onEvq q f).freeSeq = s.freeSeq := rfl
@[simp] theorem State.onEvq_outbox (s : State) (q : QueueId) (f : Evq → Evq) : (s.onEvq q f).outbox = s.outbox := rfl
@[simp] theorem State.onEvq_regs (s : State) (q : QueueId) (f : Evq → Evq) : (s.onEvq q f).regs = s.regs := rfl
@[simp] theorem State.onEvq_rws (s : State) (q : QueueId) (f : Evq → Evq) : (s.onEvq q f).rws = s.rws := rfl
@[simp] theorem State.onEvq_dram (s : State) (q : QueueId) (f : Evq → Evq) : (s.onEvq q f).dram = s.dram := rfl
@[simp] theorem State.onEvq_dramBad (s : State) (q : QueueId) (f : Evq → Evq) : (s.onEvq q f).dramBad = s.dramBad := rfl
@[simp] theorem State.onEvq_coreMem (s : State) (q : QueueId) (f : Evq → Evq) : (s.onEvq q f).coreMem = s.coreMem := rfl
@[simp] theorem State.onEvq_fwLog (s : State) (q : QueueId) (f : Evq → Evq) : (s.onEvq q f).fwLog = s.fwLog := rfl
@[simp] theorem State.onEvq_pins (s : State) (q : QueueId) (f : Evq → Evq) : (s.onEvq q f).pins = s.pins := rfl
@[simp] theorem State.onEvq_dev (s : State) (q : QueueId) (f : Evq → Evq) : (s.onEvq q f).dev = s.dev := rfl
@[simp] theorem State.onEvq_deal (s : State) (q : QueueId) (f : Evq → Evq) : (s.onEvq q f).deal = s.deal := rfl
@[simp] theorem State.onEvq_rings (s : State) (q : QueueId) (f : Evq → Evq) : (s.onEvq q f).rings = s.rings := rfl
@[simp] theorem State.onEvq_dealer (s : State) (q : QueueId) (f : Evq → Evq) : (s.onEvq q f).dealer = s.dealer := rfl
@[simp] theorem State.onEvq_timing (s : State) (q : QueueId) (f : Evq → Evq) : (s.onEvq q f).timing = s.timing := rfl
@[simp] theorem State.onEvq_faults (s : State) (q : QueueId) (f : Evq → Evq) : (s.onEvq q f).faults = s.faults := rfl
@[simp] theorem State.onEvq_partner (s : State) (q : QueueId) (f : Evq → Evq) : (s.onEvq q f).partner = s.partner := rfl
@[simp] theorem State.onEvq_host (s : State) (q : QueueId) (f : Evq → Evq) : (s.onEvq q f).host = s.host := rfl
@[simp] theorem State.onEvq_feed (s : State) (q : QueueId) (f : Evq → Evq) : (s.onEvq q f).feed = s.feed := rfl
@[simp] theorem State.onEvq_memc (s : State) (q : QueueId) (f : Evq → Evq) : (s.onEvq q f).memc = s.memc := rfl
@[simp] theorem State.onEvq_power (s : State) (q : QueueId) (f : Evq → Evq) : (s.onEvq q f).power = s.power := rfl
@[simp] theorem State.onEvq_churns (s : State) (q : QueueId) (f : Evq → Evq) : (s.onEvq q f).churns = s.churns := rfl
@[simp] theorem State.onEvq_trumpSels (s : State) (q : QueueId) (f : Evq → Evq) : (s.onEvq q f).trumpSels = s.trumpSels := rfl
@[simp] theorem State.onEvq_scalers (s : State) (q : QueueId) (f : Evq → Evq) : (s.onEvq q f).scalers = s.scalers := rfl
@[simp] theorem State.onEvq_skim (s : State) (q : QueueId) (f : Evq → Evq) : (s.onEvq q f).skim = s.skim := rfl
@[simp] theorem State.onEvq_phots (s : State) (q : QueueId) (f : Evq → Evq) : (s.onEvq q f).phots = s.phots := rfl
@[simp] theorem State.onEvq_pot (s : State) (q : QueueId) (f : Evq → Evq) : (s.onEvq q f).pot = s.pot := rfl
@[simp] theorem State.onEvq_ports (s : State) (q : QueueId) (f : Evq → Evq) : (s.onEvq q f).ports = s.ports := rfl
@[simp] theorem State.onEvq_tiles (s : State) (q : QueueId) (f : Evq → Evq) : (s.onEvq q f).tiles = s.tiles := rfl
@[simp] theorem State.onEvq_diags (s : State) (q : QueueId) (f : Evq → Evq) : (s.onEvq q f).diags = s.diags := rfl
@[simp] theorem State.onEvq_ctl (s : State) (q : QueueId) (f : Evq → Evq) : (s.onEvq q f).ctl = s.ctl := rfl
@[simp] theorem State.onEvq_house (s : State) (q : QueueId) (f : Evq → Evq) : (s.onEvq q f).house = s.house := rfl
@[simp] theorem State.onEvq_accent (s : State) (q : QueueId) (f : Evq → Evq) : (s.onEvq q f).accent = s.accent := rfl

/-! ### onCore -/

@[simp] theorem State.onCore_pending (s : State) (h : Fin 2) (f : CoreHand → CoreHand) : (s.onCore h f).pending = s.pending := rfl
@[simp] theorem State.onCore_lamp (s : State) (h : Fin 2) (f : CoreHand → CoreHand) : (s.onCore h f).lamp = s.lamp := rfl
@[simp] theorem State.onCore_freeSeq (s : State) (h : Fin 2) (f : CoreHand → CoreHand) : (s.onCore h f).freeSeq = s.freeSeq := rfl
@[simp] theorem State.onCore_outbox (s : State) (h : Fin 2) (f : CoreHand → CoreHand) : (s.onCore h f).outbox = s.outbox := rfl
@[simp] theorem State.onCore_regs (s : State) (h : Fin 2) (f : CoreHand → CoreHand) : (s.onCore h f).regs = s.regs := rfl
@[simp] theorem State.onCore_rws (s : State) (h : Fin 2) (f : CoreHand → CoreHand) : (s.onCore h f).rws = s.rws := rfl
@[simp] theorem State.onCore_dram (s : State) (h : Fin 2) (f : CoreHand → CoreHand) : (s.onCore h f).dram = s.dram := rfl
@[simp] theorem State.onCore_dramBad (s : State) (h : Fin 2) (f : CoreHand → CoreHand) : (s.onCore h f).dramBad = s.dramBad := rfl
@[simp] theorem State.onCore_coreMem (s : State) (h : Fin 2) (f : CoreHand → CoreHand) : (s.onCore h f).coreMem = s.coreMem := rfl
@[simp] theorem State.onCore_fwLog (s : State) (h : Fin 2) (f : CoreHand → CoreHand) : (s.onCore h f).fwLog = s.fwLog := rfl
@[simp] theorem State.onCore_pins (s : State) (h : Fin 2) (f : CoreHand → CoreHand) : (s.onCore h f).pins = s.pins := rfl
@[simp] theorem State.onCore_dev (s : State) (h : Fin 2) (f : CoreHand → CoreHand) : (s.onCore h f).dev = s.dev := rfl
@[simp] theorem State.onCore_deal (s : State) (h : Fin 2) (f : CoreHand → CoreHand) : (s.onCore h f).deal = s.deal := rfl
@[simp] theorem State.onCore_rings (s : State) (h : Fin 2) (f : CoreHand → CoreHand) : (s.onCore h f).rings = s.rings := rfl
@[simp] theorem State.onCore_dealer (s : State) (h : Fin 2) (f : CoreHand → CoreHand) : (s.onCore h f).dealer = s.dealer := rfl
@[simp] theorem State.onCore_timing (s : State) (h : Fin 2) (f : CoreHand → CoreHand) : (s.onCore h f).timing = s.timing := rfl
@[simp] theorem State.onCore_faults (s : State) (h : Fin 2) (f : CoreHand → CoreHand) : (s.onCore h f).faults = s.faults := rfl
@[simp] theorem State.onCore_partner (s : State) (h : Fin 2) (f : CoreHand → CoreHand) : (s.onCore h f).partner = s.partner := rfl
@[simp] theorem State.onCore_host (s : State) (h : Fin 2) (f : CoreHand → CoreHand) : (s.onCore h f).host = s.host := rfl
@[simp] theorem State.onCore_feed (s : State) (h : Fin 2) (f : CoreHand → CoreHand) : (s.onCore h f).feed = s.feed := rfl
@[simp] theorem State.onCore_memc (s : State) (h : Fin 2) (f : CoreHand → CoreHand) : (s.onCore h f).memc = s.memc := rfl
@[simp] theorem State.onCore_power (s : State) (h : Fin 2) (f : CoreHand → CoreHand) : (s.onCore h f).power = s.power := rfl
@[simp] theorem State.onCore_churns (s : State) (h : Fin 2) (f : CoreHand → CoreHand) : (s.onCore h f).churns = s.churns := rfl
@[simp] theorem State.onCore_trumpSels (s : State) (h : Fin 2) (f : CoreHand → CoreHand) : (s.onCore h f).trumpSels = s.trumpSels := rfl
@[simp] theorem State.onCore_scalers (s : State) (h : Fin 2) (f : CoreHand → CoreHand) : (s.onCore h f).scalers = s.scalers := rfl
@[simp] theorem State.onCore_skim (s : State) (h : Fin 2) (f : CoreHand → CoreHand) : (s.onCore h f).skim = s.skim := rfl
@[simp] theorem State.onCore_phots (s : State) (h : Fin 2) (f : CoreHand → CoreHand) : (s.onCore h f).phots = s.phots := rfl
@[simp] theorem State.onCore_pot (s : State) (h : Fin 2) (f : CoreHand → CoreHand) : (s.onCore h f).pot = s.pot := rfl
@[simp] theorem State.onCore_ports (s : State) (h : Fin 2) (f : CoreHand → CoreHand) : (s.onCore h f).ports = s.ports := rfl
@[simp] theorem State.onCore_tiles (s : State) (h : Fin 2) (f : CoreHand → CoreHand) : (s.onCore h f).tiles = s.tiles := rfl
@[simp] theorem State.onCore_diags (s : State) (h : Fin 2) (f : CoreHand → CoreHand) : (s.onCore h f).diags = s.diags := rfl
@[simp] theorem State.onCore_ctl (s : State) (h : Fin 2) (f : CoreHand → CoreHand) : (s.onCore h f).ctl = s.ctl := rfl
@[simp] theorem State.onCore_house (s : State) (h : Fin 2) (f : CoreHand → CoreHand) : (s.onCore h f).house = s.house := rfl
@[simp] theorem State.onCore_accent (s : State) (h : Fin 2) (f : CoreHand → CoreHand) : (s.onCore h f).accent = s.accent := rfl

/-! ### onLoop -/

@[simp] theorem State.onLoop_pending (s : State) (l : LoopId) (f : LoopSt → LoopSt) : (s.onLoop l f).pending = s.pending := rfl
@[simp] theorem State.onLoop_lamp (s : State) (l : LoopId) (f : LoopSt → LoopSt) : (s.onLoop l f).lamp = s.lamp := rfl
@[simp] theorem State.onLoop_freeSeq (s : State) (l : LoopId) (f : LoopSt → LoopSt) : (s.onLoop l f).freeSeq = s.freeSeq := rfl
@[simp] theorem State.onLoop_outbox (s : State) (l : LoopId) (f : LoopSt → LoopSt) : (s.onLoop l f).outbox = s.outbox := rfl
@[simp] theorem State.onLoop_regs (s : State) (l : LoopId) (f : LoopSt → LoopSt) : (s.onLoop l f).regs = s.regs := rfl
@[simp] theorem State.onLoop_rws (s : State) (l : LoopId) (f : LoopSt → LoopSt) : (s.onLoop l f).rws = s.rws := rfl
@[simp] theorem State.onLoop_dram (s : State) (l : LoopId) (f : LoopSt → LoopSt) : (s.onLoop l f).dram = s.dram := rfl
@[simp] theorem State.onLoop_dramBad (s : State) (l : LoopId) (f : LoopSt → LoopSt) : (s.onLoop l f).dramBad = s.dramBad := rfl
@[simp] theorem State.onLoop_coreMem (s : State) (l : LoopId) (f : LoopSt → LoopSt) : (s.onLoop l f).coreMem = s.coreMem := rfl
@[simp] theorem State.onLoop_fwLog (s : State) (l : LoopId) (f : LoopSt → LoopSt) : (s.onLoop l f).fwLog = s.fwLog := rfl
@[simp] theorem State.onLoop_pins (s : State) (l : LoopId) (f : LoopSt → LoopSt) : (s.onLoop l f).pins = s.pins := rfl
@[simp] theorem State.onLoop_dev (s : State) (l : LoopId) (f : LoopSt → LoopSt) : (s.onLoop l f).dev = s.dev := rfl
@[simp] theorem State.onLoop_deal (s : State) (l : LoopId) (f : LoopSt → LoopSt) : (s.onLoop l f).deal = s.deal := rfl
@[simp] theorem State.onLoop_rings (s : State) (l : LoopId) (f : LoopSt → LoopSt) : (s.onLoop l f).rings = s.rings := rfl
@[simp] theorem State.onLoop_dealer (s : State) (l : LoopId) (f : LoopSt → LoopSt) : (s.onLoop l f).dealer = s.dealer := rfl
@[simp] theorem State.onLoop_timing (s : State) (l : LoopId) (f : LoopSt → LoopSt) : (s.onLoop l f).timing = s.timing := rfl
@[simp] theorem State.onLoop_faults (s : State) (l : LoopId) (f : LoopSt → LoopSt) : (s.onLoop l f).faults = s.faults := rfl
@[simp] theorem State.onLoop_partner (s : State) (l : LoopId) (f : LoopSt → LoopSt) : (s.onLoop l f).partner = s.partner := rfl
@[simp] theorem State.onLoop_intc (s : State) (l : LoopId) (f : LoopSt → LoopSt) : (s.onLoop l f).intc = s.intc := rfl
@[simp] theorem State.onLoop_host (s : State) (l : LoopId) (f : LoopSt → LoopSt) : (s.onLoop l f).host = s.host := rfl
@[simp] theorem State.onLoop_feed (s : State) (l : LoopId) (f : LoopSt → LoopSt) : (s.onLoop l f).feed = s.feed := rfl
@[simp] theorem State.onLoop_memc (s : State) (l : LoopId) (f : LoopSt → LoopSt) : (s.onLoop l f).memc = s.memc := rfl
@[simp] theorem State.onLoop_power (s : State) (l : LoopId) (f : LoopSt → LoopSt) : (s.onLoop l f).power = s.power := rfl
@[simp] theorem State.onLoop_churns (s : State) (l : LoopId) (f : LoopSt → LoopSt) : (s.onLoop l f).churns = s.churns := rfl
@[simp] theorem State.onLoop_trumpSels (s : State) (l : LoopId) (f : LoopSt → LoopSt) : (s.onLoop l f).trumpSels = s.trumpSels := rfl
@[simp] theorem State.onLoop_scalers (s : State) (l : LoopId) (f : LoopSt → LoopSt) : (s.onLoop l f).scalers = s.scalers := rfl
@[simp] theorem State.onLoop_skim (s : State) (l : LoopId) (f : LoopSt → LoopSt) : (s.onLoop l f).skim = s.skim := rfl
@[simp] theorem State.onLoop_phots (s : State) (l : LoopId) (f : LoopSt → LoopSt) : (s.onLoop l f).phots = s.phots := rfl
@[simp] theorem State.onLoop_pot (s : State) (l : LoopId) (f : LoopSt → LoopSt) : (s.onLoop l f).pot = s.pot := rfl
@[simp] theorem State.onLoop_ports (s : State) (l : LoopId) (f : LoopSt → LoopSt) : (s.onLoop l f).ports = s.ports := rfl
@[simp] theorem State.onLoop_tiles (s : State) (l : LoopId) (f : LoopSt → LoopSt) : (s.onLoop l f).tiles = s.tiles := rfl
@[simp] theorem State.onLoop_diags (s : State) (l : LoopId) (f : LoopSt → LoopSt) : (s.onLoop l f).diags = s.diags := rfl
@[simp] theorem State.onLoop_house (s : State) (l : LoopId) (f : LoopSt → LoopSt) : (s.onLoop l f).house = s.house := rfl
@[simp] theorem State.onLoop_accent (s : State) (l : LoopId) (f : LoopSt → LoopSt) : (s.onLoop l f).accent = s.accent := rfl

/-! ### onTrace -/

@[simp] theorem State.onTrace_pending (s : State) (c : Fin 4) (f : TraceCh → TraceCh) : (s.onTrace c f).pending = s.pending := rfl
@[simp] theorem State.onTrace_lamp (s : State) (c : Fin 4) (f : TraceCh → TraceCh) : (s.onTrace c f).lamp = s.lamp := rfl
@[simp] theorem State.onTrace_freeSeq (s : State) (c : Fin 4) (f : TraceCh → TraceCh) : (s.onTrace c f).freeSeq = s.freeSeq := rfl
@[simp] theorem State.onTrace_outbox (s : State) (c : Fin 4) (f : TraceCh → TraceCh) : (s.onTrace c f).outbox = s.outbox := rfl
@[simp] theorem State.onTrace_regs (s : State) (c : Fin 4) (f : TraceCh → TraceCh) : (s.onTrace c f).regs = s.regs := rfl
@[simp] theorem State.onTrace_rws (s : State) (c : Fin 4) (f : TraceCh → TraceCh) : (s.onTrace c f).rws = s.rws := rfl
@[simp] theorem State.onTrace_dram (s : State) (c : Fin 4) (f : TraceCh → TraceCh) : (s.onTrace c f).dram = s.dram := rfl
@[simp] theorem State.onTrace_dramBad (s : State) (c : Fin 4) (f : TraceCh → TraceCh) : (s.onTrace c f).dramBad = s.dramBad := rfl
@[simp] theorem State.onTrace_coreMem (s : State) (c : Fin 4) (f : TraceCh → TraceCh) : (s.onTrace c f).coreMem = s.coreMem := rfl
@[simp] theorem State.onTrace_fwLog (s : State) (c : Fin 4) (f : TraceCh → TraceCh) : (s.onTrace c f).fwLog = s.fwLog := rfl
@[simp] theorem State.onTrace_pins (s : State) (c : Fin 4) (f : TraceCh → TraceCh) : (s.onTrace c f).pins = s.pins := rfl
@[simp] theorem State.onTrace_dev (s : State) (c : Fin 4) (f : TraceCh → TraceCh) : (s.onTrace c f).dev = s.dev := rfl
@[simp] theorem State.onTrace_deal (s : State) (c : Fin 4) (f : TraceCh → TraceCh) : (s.onTrace c f).deal = s.deal := rfl
@[simp] theorem State.onTrace_rings (s : State) (c : Fin 4) (f : TraceCh → TraceCh) : (s.onTrace c f).rings = s.rings := rfl
@[simp] theorem State.onTrace_dealer (s : State) (c : Fin 4) (f : TraceCh → TraceCh) : (s.onTrace c f).dealer = s.dealer := rfl
@[simp] theorem State.onTrace_timing (s : State) (c : Fin 4) (f : TraceCh → TraceCh) : (s.onTrace c f).timing = s.timing := rfl
@[simp] theorem State.onTrace_faults (s : State) (c : Fin 4) (f : TraceCh → TraceCh) : (s.onTrace c f).faults = s.faults := rfl
@[simp] theorem State.onTrace_partner (s : State) (c : Fin 4) (f : TraceCh → TraceCh) : (s.onTrace c f).partner = s.partner := rfl
@[simp] theorem State.onTrace_intc (s : State) (c : Fin 4) (f : TraceCh → TraceCh) : (s.onTrace c f).intc = s.intc := rfl
@[simp] theorem State.onTrace_host (s : State) (c : Fin 4) (f : TraceCh → TraceCh) : (s.onTrace c f).host = s.host := rfl
@[simp] theorem State.onTrace_feed (s : State) (c : Fin 4) (f : TraceCh → TraceCh) : (s.onTrace c f).feed = s.feed := rfl
@[simp] theorem State.onTrace_memc (s : State) (c : Fin 4) (f : TraceCh → TraceCh) : (s.onTrace c f).memc = s.memc := rfl
@[simp] theorem State.onTrace_power (s : State) (c : Fin 4) (f : TraceCh → TraceCh) : (s.onTrace c f).power = s.power := rfl
@[simp] theorem State.onTrace_churns (s : State) (c : Fin 4) (f : TraceCh → TraceCh) : (s.onTrace c f).churns = s.churns := rfl
@[simp] theorem State.onTrace_trumpSels (s : State) (c : Fin 4) (f : TraceCh → TraceCh) : (s.onTrace c f).trumpSels = s.trumpSels := rfl
@[simp] theorem State.onTrace_scalers (s : State) (c : Fin 4) (f : TraceCh → TraceCh) : (s.onTrace c f).scalers = s.scalers := rfl
@[simp] theorem State.onTrace_skim (s : State) (c : Fin 4) (f : TraceCh → TraceCh) : (s.onTrace c f).skim = s.skim := rfl
@[simp] theorem State.onTrace_phots (s : State) (c : Fin 4) (f : TraceCh → TraceCh) : (s.onTrace c f).phots = s.phots := rfl
@[simp] theorem State.onTrace_pot (s : State) (c : Fin 4) (f : TraceCh → TraceCh) : (s.onTrace c f).pot = s.pot := rfl
@[simp] theorem State.onTrace_ports (s : State) (c : Fin 4) (f : TraceCh → TraceCh) : (s.onTrace c f).ports = s.ports := rfl
@[simp] theorem State.onTrace_tiles (s : State) (c : Fin 4) (f : TraceCh → TraceCh) : (s.onTrace c f).tiles = s.tiles := rfl
@[simp] theorem State.onTrace_diags (s : State) (c : Fin 4) (f : TraceCh → TraceCh) : (s.onTrace c f).diags = s.diags := rfl
@[simp] theorem State.onTrace_house (s : State) (c : Fin 4) (f : TraceCh → TraceCh) : (s.onTrace c f).house = s.house := rfl
@[simp] theorem State.onTrace_accent (s : State) (c : Fin 4) (f : TraceCh → TraceCh) : (s.onTrace c f).accent = s.accent := rfl

/-! ### onAcc -/

@[simp] theorem State.onAcc_pending (s : State) (c : Fin 48) (f : AccCh → AccCh) : (s.onAcc c f).pending = s.pending := rfl
@[simp] theorem State.onAcc_lamp (s : State) (c : Fin 48) (f : AccCh → AccCh) : (s.onAcc c f).lamp = s.lamp := rfl
@[simp] theorem State.onAcc_freeSeq (s : State) (c : Fin 48) (f : AccCh → AccCh) : (s.onAcc c f).freeSeq = s.freeSeq := rfl
@[simp] theorem State.onAcc_outbox (s : State) (c : Fin 48) (f : AccCh → AccCh) : (s.onAcc c f).outbox = s.outbox := rfl
@[simp] theorem State.onAcc_regs (s : State) (c : Fin 48) (f : AccCh → AccCh) : (s.onAcc c f).regs = s.regs := rfl
@[simp] theorem State.onAcc_rws (s : State) (c : Fin 48) (f : AccCh → AccCh) : (s.onAcc c f).rws = s.rws := rfl
@[simp] theorem State.onAcc_dram (s : State) (c : Fin 48) (f : AccCh → AccCh) : (s.onAcc c f).dram = s.dram := rfl
@[simp] theorem State.onAcc_dramBad (s : State) (c : Fin 48) (f : AccCh → AccCh) : (s.onAcc c f).dramBad = s.dramBad := rfl
@[simp] theorem State.onAcc_coreMem (s : State) (c : Fin 48) (f : AccCh → AccCh) : (s.onAcc c f).coreMem = s.coreMem := rfl
@[simp] theorem State.onAcc_fwLog (s : State) (c : Fin 48) (f : AccCh → AccCh) : (s.onAcc c f).fwLog = s.fwLog := rfl
@[simp] theorem State.onAcc_pins (s : State) (c : Fin 48) (f : AccCh → AccCh) : (s.onAcc c f).pins = s.pins := rfl
@[simp] theorem State.onAcc_dev (s : State) (c : Fin 48) (f : AccCh → AccCh) : (s.onAcc c f).dev = s.dev := rfl
@[simp] theorem State.onAcc_deal (s : State) (c : Fin 48) (f : AccCh → AccCh) : (s.onAcc c f).deal = s.deal := rfl
@[simp] theorem State.onAcc_rings (s : State) (c : Fin 48) (f : AccCh → AccCh) : (s.onAcc c f).rings = s.rings := rfl
@[simp] theorem State.onAcc_dealer (s : State) (c : Fin 48) (f : AccCh → AccCh) : (s.onAcc c f).dealer = s.dealer := rfl
@[simp] theorem State.onAcc_timing (s : State) (c : Fin 48) (f : AccCh → AccCh) : (s.onAcc c f).timing = s.timing := rfl
@[simp] theorem State.onAcc_faults (s : State) (c : Fin 48) (f : AccCh → AccCh) : (s.onAcc c f).faults = s.faults := rfl
@[simp] theorem State.onAcc_partner (s : State) (c : Fin 48) (f : AccCh → AccCh) : (s.onAcc c f).partner = s.partner := rfl
@[simp] theorem State.onAcc_intc (s : State) (c : Fin 48) (f : AccCh → AccCh) : (s.onAcc c f).intc = s.intc := rfl
@[simp] theorem State.onAcc_host (s : State) (c : Fin 48) (f : AccCh → AccCh) : (s.onAcc c f).host = s.host := rfl
@[simp] theorem State.onAcc_feed (s : State) (c : Fin 48) (f : AccCh → AccCh) : (s.onAcc c f).feed = s.feed := rfl
@[simp] theorem State.onAcc_memc (s : State) (c : Fin 48) (f : AccCh → AccCh) : (s.onAcc c f).memc = s.memc := rfl
@[simp] theorem State.onAcc_power (s : State) (c : Fin 48) (f : AccCh → AccCh) : (s.onAcc c f).power = s.power := rfl
@[simp] theorem State.onAcc_churns (s : State) (c : Fin 48) (f : AccCh → AccCh) : (s.onAcc c f).churns = s.churns := rfl
@[simp] theorem State.onAcc_trumpSels (s : State) (c : Fin 48) (f : AccCh → AccCh) : (s.onAcc c f).trumpSels = s.trumpSels := rfl
@[simp] theorem State.onAcc_scalers (s : State) (c : Fin 48) (f : AccCh → AccCh) : (s.onAcc c f).scalers = s.scalers := rfl
@[simp] theorem State.onAcc_skim (s : State) (c : Fin 48) (f : AccCh → AccCh) : (s.onAcc c f).skim = s.skim := rfl
@[simp] theorem State.onAcc_phots (s : State) (c : Fin 48) (f : AccCh → AccCh) : (s.onAcc c f).phots = s.phots := rfl
@[simp] theorem State.onAcc_pot (s : State) (c : Fin 48) (f : AccCh → AccCh) : (s.onAcc c f).pot = s.pot := rfl
@[simp] theorem State.onAcc_ports (s : State) (c : Fin 48) (f : AccCh → AccCh) : (s.onAcc c f).ports = s.ports := rfl
@[simp] theorem State.onAcc_tiles (s : State) (c : Fin 48) (f : AccCh → AccCh) : (s.onAcc c f).tiles = s.tiles := rfl
@[simp] theorem State.onAcc_diags (s : State) (c : Fin 48) (f : AccCh → AccCh) : (s.onAcc c f).diags = s.diags := rfl
@[simp] theorem State.onAcc_ctl (s : State) (c : Fin 48) (f : AccCh → AccCh) : (s.onAcc c f).ctl = s.ctl := rfl
@[simp] theorem State.onAcc_house (s : State) (c : Fin 48) (f : AccCh → AccCh) : (s.onAcc c f).house = s.house := rfl

/-! ### onTherm -/

@[simp] theorem State.onTherm_pending (s : State) (f : Therm → Therm) : (s.onTherm f).pending = s.pending := rfl
@[simp] theorem State.onTherm_lamp (s : State) (f : Therm → Therm) : (s.onTherm f).lamp = s.lamp := rfl
@[simp] theorem State.onTherm_freeSeq (s : State) (f : Therm → Therm) : (s.onTherm f).freeSeq = s.freeSeq := rfl
@[simp] theorem State.onTherm_outbox (s : State) (f : Therm → Therm) : (s.onTherm f).outbox = s.outbox := rfl
@[simp] theorem State.onTherm_regs (s : State) (f : Therm → Therm) : (s.onTherm f).regs = s.regs := rfl
@[simp] theorem State.onTherm_rws (s : State) (f : Therm → Therm) : (s.onTherm f).rws = s.rws := rfl
@[simp] theorem State.onTherm_dram (s : State) (f : Therm → Therm) : (s.onTherm f).dram = s.dram := rfl
@[simp] theorem State.onTherm_dramBad (s : State) (f : Therm → Therm) : (s.onTherm f).dramBad = s.dramBad := rfl
@[simp] theorem State.onTherm_coreMem (s : State) (f : Therm → Therm) : (s.onTherm f).coreMem = s.coreMem := rfl
@[simp] theorem State.onTherm_fwLog (s : State) (f : Therm → Therm) : (s.onTherm f).fwLog = s.fwLog := rfl
@[simp] theorem State.onTherm_pins (s : State) (f : Therm → Therm) : (s.onTherm f).pins = s.pins := rfl
@[simp] theorem State.onTherm_dev (s : State) (f : Therm → Therm) : (s.onTherm f).dev = s.dev := rfl
@[simp] theorem State.onTherm_deal (s : State) (f : Therm → Therm) : (s.onTherm f).deal = s.deal := rfl
@[simp] theorem State.onTherm_rings (s : State) (f : Therm → Therm) : (s.onTherm f).rings = s.rings := rfl
@[simp] theorem State.onTherm_dealer (s : State) (f : Therm → Therm) : (s.onTherm f).dealer = s.dealer := rfl
@[simp] theorem State.onTherm_timing (s : State) (f : Therm → Therm) : (s.onTherm f).timing = s.timing := rfl
@[simp] theorem State.onTherm_faults (s : State) (f : Therm → Therm) : (s.onTherm f).faults = s.faults := rfl
@[simp] theorem State.onTherm_partner (s : State) (f : Therm → Therm) : (s.onTherm f).partner = s.partner := rfl
@[simp] theorem State.onTherm_intc (s : State) (f : Therm → Therm) : (s.onTherm f).intc = s.intc := rfl
@[simp] theorem State.onTherm_host (s : State) (f : Therm → Therm) : (s.onTherm f).host = s.host := rfl
@[simp] theorem State.onTherm_feed (s : State) (f : Therm → Therm) : (s.onTherm f).feed = s.feed := rfl
@[simp] theorem State.onTherm_memc (s : State) (f : Therm → Therm) : (s.onTherm f).memc = s.memc := rfl
@[simp] theorem State.onTherm_power (s : State) (f : Therm → Therm) : (s.onTherm f).power = s.power := rfl
@[simp] theorem State.onTherm_churns (s : State) (f : Therm → Therm) : (s.onTherm f).churns = s.churns := rfl
@[simp] theorem State.onTherm_trumpSels (s : State) (f : Therm → Therm) : (s.onTherm f).trumpSels = s.trumpSels := rfl
@[simp] theorem State.onTherm_scalers (s : State) (f : Therm → Therm) : (s.onTherm f).scalers = s.scalers := rfl
@[simp] theorem State.onTherm_skim (s : State) (f : Therm → Therm) : (s.onTherm f).skim = s.skim := rfl
@[simp] theorem State.onTherm_phots (s : State) (f : Therm → Therm) : (s.onTherm f).phots = s.phots := rfl
@[simp] theorem State.onTherm_pot (s : State) (f : Therm → Therm) : (s.onTherm f).pot = s.pot := rfl
@[simp] theorem State.onTherm_ports (s : State) (f : Therm → Therm) : (s.onTherm f).ports = s.ports := rfl
@[simp] theorem State.onTherm_tiles (s : State) (f : Therm → Therm) : (s.onTherm f).tiles = s.tiles := rfl
@[simp] theorem State.onTherm_diags (s : State) (f : Therm → Therm) : (s.onTherm f).diags = s.diags := rfl
@[simp] theorem State.onTherm_ctl (s : State) (f : Therm → Therm) : (s.onTherm f).ctl = s.ctl := rfl
@[simp] theorem State.onTherm_accent (s : State) (f : Therm → Therm) : (s.onTherm f).accent = s.accent := rfl

/-! ### setReg -/

@[simp] theorem State.setReg_pending (s : State) (o : Nat) (w : Word) : (s.setReg o w).pending = s.pending := rfl
@[simp] theorem State.setReg_lamp (s : State) (o : Nat) (w : Word) : (s.setReg o w).lamp = s.lamp := rfl
@[simp] theorem State.setReg_freeSeq (s : State) (o : Nat) (w : Word) : (s.setReg o w).freeSeq = s.freeSeq := rfl
@[simp] theorem State.setReg_outbox (s : State) (o : Nat) (w : Word) : (s.setReg o w).outbox = s.outbox := rfl
@[simp] theorem State.setReg_rws (s : State) (o : Nat) (w : Word) : (s.setReg o w).rws = s.rws := rfl
@[simp] theorem State.setReg_dram (s : State) (o : Nat) (w : Word) : (s.setReg o w).dram = s.dram := rfl
@[simp] theorem State.setReg_dramBad (s : State) (o : Nat) (w : Word) : (s.setReg o w).dramBad = s.dramBad := rfl
@[simp] theorem State.setReg_coreMem (s : State) (o : Nat) (w : Word) : (s.setReg o w).coreMem = s.coreMem := rfl
@[simp] theorem State.setReg_fwLog (s : State) (o : Nat) (w : Word) : (s.setReg o w).fwLog = s.fwLog := rfl
@[simp] theorem State.setReg_pins (s : State) (o : Nat) (w : Word) : (s.setReg o w).pins = s.pins := rfl
@[simp] theorem State.setReg_dev (s : State) (o : Nat) (w : Word) : (s.setReg o w).dev = s.dev := rfl
@[simp] theorem State.setReg_deal (s : State) (o : Nat) (w : Word) : (s.setReg o w).deal = s.deal := rfl
@[simp] theorem State.setReg_rings (s : State) (o : Nat) (w : Word) : (s.setReg o w).rings = s.rings := rfl
@[simp] theorem State.setReg_dealer (s : State) (o : Nat) (w : Word) : (s.setReg o w).dealer = s.dealer := rfl
@[simp] theorem State.setReg_timing (s : State) (o : Nat) (w : Word) : (s.setReg o w).timing = s.timing := rfl
@[simp] theorem State.setReg_faults (s : State) (o : Nat) (w : Word) : (s.setReg o w).faults = s.faults := rfl
@[simp] theorem State.setReg_partner (s : State) (o : Nat) (w : Word) : (s.setReg o w).partner = s.partner := rfl
@[simp] theorem State.setReg_intc (s : State) (o : Nat) (w : Word) : (s.setReg o w).intc = s.intc := rfl
@[simp] theorem State.setReg_host (s : State) (o : Nat) (w : Word) : (s.setReg o w).host = s.host := rfl
@[simp] theorem State.setReg_feed (s : State) (o : Nat) (w : Word) : (s.setReg o w).feed = s.feed := rfl
@[simp] theorem State.setReg_memc (s : State) (o : Nat) (w : Word) : (s.setReg o w).memc = s.memc := rfl
@[simp] theorem State.setReg_power (s : State) (o : Nat) (w : Word) : (s.setReg o w).power = s.power := rfl
@[simp] theorem State.setReg_churns (s : State) (o : Nat) (w : Word) : (s.setReg o w).churns = s.churns := rfl
@[simp] theorem State.setReg_trumpSels (s : State) (o : Nat) (w : Word) : (s.setReg o w).trumpSels = s.trumpSels := rfl
@[simp] theorem State.setReg_scalers (s : State) (o : Nat) (w : Word) : (s.setReg o w).scalers = s.scalers := rfl
@[simp] theorem State.setReg_skim (s : State) (o : Nat) (w : Word) : (s.setReg o w).skim = s.skim := rfl
@[simp] theorem State.setReg_phots (s : State) (o : Nat) (w : Word) : (s.setReg o w).phots = s.phots := rfl
@[simp] theorem State.setReg_pot (s : State) (o : Nat) (w : Word) : (s.setReg o w).pot = s.pot := rfl
@[simp] theorem State.setReg_ports (s : State) (o : Nat) (w : Word) : (s.setReg o w).ports = s.ports := rfl
@[simp] theorem State.setReg_tiles (s : State) (o : Nat) (w : Word) : (s.setReg o w).tiles = s.tiles := rfl
@[simp] theorem State.setReg_diags (s : State) (o : Nat) (w : Word) : (s.setReg o w).diags = s.diags := rfl
@[simp] theorem State.setReg_ctl (s : State) (o : Nat) (w : Word) : (s.setReg o w).ctl = s.ctl := rfl
@[simp] theorem State.setReg_house (s : State) (o : Nat) (w : Word) : (s.setReg o w).house = s.house := rfl
@[simp] theorem State.setReg_accent (s : State) (o : Nat) (w : Word) : (s.setReg o w).accent = s.accent := rfl

/-! ### setFld -/

@[simp] theorem State.setFld_pending (s : State) (o hi lo v : Nat) : (s.setFld o hi lo v).pending = s.pending := rfl
@[simp] theorem State.setFld_lamp (s : State) (o hi lo v : Nat) : (s.setFld o hi lo v).lamp = s.lamp := rfl
@[simp] theorem State.setFld_freeSeq (s : State) (o hi lo v : Nat) : (s.setFld o hi lo v).freeSeq = s.freeSeq := rfl
@[simp] theorem State.setFld_outbox (s : State) (o hi lo v : Nat) : (s.setFld o hi lo v).outbox = s.outbox := rfl
@[simp] theorem State.setFld_rws (s : State) (o hi lo v : Nat) : (s.setFld o hi lo v).rws = s.rws := rfl
@[simp] theorem State.setFld_dram (s : State) (o hi lo v : Nat) : (s.setFld o hi lo v).dram = s.dram := rfl
@[simp] theorem State.setFld_dramBad (s : State) (o hi lo v : Nat) : (s.setFld o hi lo v).dramBad = s.dramBad := rfl
@[simp] theorem State.setFld_coreMem (s : State) (o hi lo v : Nat) : (s.setFld o hi lo v).coreMem = s.coreMem := rfl
@[simp] theorem State.setFld_fwLog (s : State) (o hi lo v : Nat) : (s.setFld o hi lo v).fwLog = s.fwLog := rfl
@[simp] theorem State.setFld_pins (s : State) (o hi lo v : Nat) : (s.setFld o hi lo v).pins = s.pins := rfl
@[simp] theorem State.setFld_dev (s : State) (o hi lo v : Nat) : (s.setFld o hi lo v).dev = s.dev := rfl
@[simp] theorem State.setFld_deal (s : State) (o hi lo v : Nat) : (s.setFld o hi lo v).deal = s.deal := rfl
@[simp] theorem State.setFld_rings (s : State) (o hi lo v : Nat) : (s.setFld o hi lo v).rings = s.rings := rfl
@[simp] theorem State.setFld_dealer (s : State) (o hi lo v : Nat) : (s.setFld o hi lo v).dealer = s.dealer := rfl
@[simp] theorem State.setFld_timing (s : State) (o hi lo v : Nat) : (s.setFld o hi lo v).timing = s.timing := rfl
@[simp] theorem State.setFld_faults (s : State) (o hi lo v : Nat) : (s.setFld o hi lo v).faults = s.faults := rfl
@[simp] theorem State.setFld_partner (s : State) (o hi lo v : Nat) : (s.setFld o hi lo v).partner = s.partner := rfl
@[simp] theorem State.setFld_intc (s : State) (o hi lo v : Nat) : (s.setFld o hi lo v).intc = s.intc := rfl
@[simp] theorem State.setFld_host (s : State) (o hi lo v : Nat) : (s.setFld o hi lo v).host = s.host := rfl
@[simp] theorem State.setFld_feed (s : State) (o hi lo v : Nat) : (s.setFld o hi lo v).feed = s.feed := rfl
@[simp] theorem State.setFld_memc (s : State) (o hi lo v : Nat) : (s.setFld o hi lo v).memc = s.memc := rfl
@[simp] theorem State.setFld_power (s : State) (o hi lo v : Nat) : (s.setFld o hi lo v).power = s.power := rfl
@[simp] theorem State.setFld_churns (s : State) (o hi lo v : Nat) : (s.setFld o hi lo v).churns = s.churns := rfl
@[simp] theorem State.setFld_trumpSels (s : State) (o hi lo v : Nat) : (s.setFld o hi lo v).trumpSels = s.trumpSels := rfl
@[simp] theorem State.setFld_scalers (s : State) (o hi lo v : Nat) : (s.setFld o hi lo v).scalers = s.scalers := rfl
@[simp] theorem State.setFld_skim (s : State) (o hi lo v : Nat) : (s.setFld o hi lo v).skim = s.skim := rfl
@[simp] theorem State.setFld_phots (s : State) (o hi lo v : Nat) : (s.setFld o hi lo v).phots = s.phots := rfl
@[simp] theorem State.setFld_pot (s : State) (o hi lo v : Nat) : (s.setFld o hi lo v).pot = s.pot := rfl
@[simp] theorem State.setFld_ports (s : State) (o hi lo v : Nat) : (s.setFld o hi lo v).ports = s.ports := rfl
@[simp] theorem State.setFld_tiles (s : State) (o hi lo v : Nat) : (s.setFld o hi lo v).tiles = s.tiles := rfl
@[simp] theorem State.setFld_diags (s : State) (o hi lo v : Nat) : (s.setFld o hi lo v).diags = s.diags := rfl
@[simp] theorem State.setFld_ctl (s : State) (o hi lo v : Nat) : (s.setFld o hi lo v).ctl = s.ctl := rfl
@[simp] theorem State.setFld_house (s : State) (o hi lo v : Nat) : (s.setFld o hi lo v).house = s.house := rfl
@[simp] theorem State.setFld_accent (s : State) (o hi lo v : Nat) : (s.setFld o hi lo v).accent = s.accent := rfl

/-! ### setFlag -/

@[simp] theorem State.setFlag_pending (s : State) (o b : Nat) : (s.setFlag o b).pending = s.pending := rfl
@[simp] theorem State.setFlag_lamp (s : State) (o b : Nat) : (s.setFlag o b).lamp = s.lamp := rfl
@[simp] theorem State.setFlag_freeSeq (s : State) (o b : Nat) : (s.setFlag o b).freeSeq = s.freeSeq := rfl
@[simp] theorem State.setFlag_outbox (s : State) (o b : Nat) : (s.setFlag o b).outbox = s.outbox := rfl
@[simp] theorem State.setFlag_rws (s : State) (o b : Nat) : (s.setFlag o b).rws = s.rws := rfl
@[simp] theorem State.setFlag_dram (s : State) (o b : Nat) : (s.setFlag o b).dram = s.dram := rfl
@[simp] theorem State.setFlag_dramBad (s : State) (o b : Nat) : (s.setFlag o b).dramBad = s.dramBad := rfl
@[simp] theorem State.setFlag_coreMem (s : State) (o b : Nat) : (s.setFlag o b).coreMem = s.coreMem := rfl
@[simp] theorem State.setFlag_fwLog (s : State) (o b : Nat) : (s.setFlag o b).fwLog = s.fwLog := rfl
@[simp] theorem State.setFlag_pins (s : State) (o b : Nat) : (s.setFlag o b).pins = s.pins := rfl
@[simp] theorem State.setFlag_dev (s : State) (o b : Nat) : (s.setFlag o b).dev = s.dev := rfl
@[simp] theorem State.setFlag_deal (s : State) (o b : Nat) : (s.setFlag o b).deal = s.deal := rfl
@[simp] theorem State.setFlag_rings (s : State) (o b : Nat) : (s.setFlag o b).rings = s.rings := rfl
@[simp] theorem State.setFlag_dealer (s : State) (o b : Nat) : (s.setFlag o b).dealer = s.dealer := rfl
@[simp] theorem State.setFlag_timing (s : State) (o b : Nat) : (s.setFlag o b).timing = s.timing := rfl
@[simp] theorem State.setFlag_faults (s : State) (o b : Nat) : (s.setFlag o b).faults = s.faults := rfl
@[simp] theorem State.setFlag_partner (s : State) (o b : Nat) : (s.setFlag o b).partner = s.partner := rfl
@[simp] theorem State.setFlag_intc (s : State) (o b : Nat) : (s.setFlag o b).intc = s.intc := rfl
@[simp] theorem State.setFlag_host (s : State) (o b : Nat) : (s.setFlag o b).host = s.host := rfl
@[simp] theorem State.setFlag_feed (s : State) (o b : Nat) : (s.setFlag o b).feed = s.feed := rfl
@[simp] theorem State.setFlag_memc (s : State) (o b : Nat) : (s.setFlag o b).memc = s.memc := rfl
@[simp] theorem State.setFlag_power (s : State) (o b : Nat) : (s.setFlag o b).power = s.power := rfl
@[simp] theorem State.setFlag_churns (s : State) (o b : Nat) : (s.setFlag o b).churns = s.churns := rfl
@[simp] theorem State.setFlag_trumpSels (s : State) (o b : Nat) : (s.setFlag o b).trumpSels = s.trumpSels := rfl
@[simp] theorem State.setFlag_scalers (s : State) (o b : Nat) : (s.setFlag o b).scalers = s.scalers := rfl
@[simp] theorem State.setFlag_skim (s : State) (o b : Nat) : (s.setFlag o b).skim = s.skim := rfl
@[simp] theorem State.setFlag_phots (s : State) (o b : Nat) : (s.setFlag o b).phots = s.phots := rfl
@[simp] theorem State.setFlag_pot (s : State) (o b : Nat) : (s.setFlag o b).pot = s.pot := rfl
@[simp] theorem State.setFlag_ports (s : State) (o b : Nat) : (s.setFlag o b).ports = s.ports := rfl
@[simp] theorem State.setFlag_tiles (s : State) (o b : Nat) : (s.setFlag o b).tiles = s.tiles := rfl
@[simp] theorem State.setFlag_diags (s : State) (o b : Nat) : (s.setFlag o b).diags = s.diags := rfl
@[simp] theorem State.setFlag_ctl (s : State) (o b : Nat) : (s.setFlag o b).ctl = s.ctl := rfl
@[simp] theorem State.setFlag_house (s : State) (o b : Nat) : (s.setFlag o b).house = s.house := rfl
@[simp] theorem State.setFlag_accent (s : State) (o b : Nat) : (s.setFlag o b).accent = s.accent := rfl

/-! ### addSat -/

@[simp] theorem State.addSat_pending (s : State) (o hi lo k : Nat) : (s.addSat o hi lo k).pending = s.pending := rfl
@[simp] theorem State.addSat_lamp (s : State) (o hi lo k : Nat) : (s.addSat o hi lo k).lamp = s.lamp := rfl
@[simp] theorem State.addSat_freeSeq (s : State) (o hi lo k : Nat) : (s.addSat o hi lo k).freeSeq = s.freeSeq := rfl
@[simp] theorem State.addSat_outbox (s : State) (o hi lo k : Nat) : (s.addSat o hi lo k).outbox = s.outbox := rfl
@[simp] theorem State.addSat_rws (s : State) (o hi lo k : Nat) : (s.addSat o hi lo k).rws = s.rws := rfl
@[simp] theorem State.addSat_dram (s : State) (o hi lo k : Nat) : (s.addSat o hi lo k).dram = s.dram := rfl
@[simp] theorem State.addSat_dramBad (s : State) (o hi lo k : Nat) : (s.addSat o hi lo k).dramBad = s.dramBad := rfl
@[simp] theorem State.addSat_coreMem (s : State) (o hi lo k : Nat) : (s.addSat o hi lo k).coreMem = s.coreMem := rfl
@[simp] theorem State.addSat_fwLog (s : State) (o hi lo k : Nat) : (s.addSat o hi lo k).fwLog = s.fwLog := rfl
@[simp] theorem State.addSat_pins (s : State) (o hi lo k : Nat) : (s.addSat o hi lo k).pins = s.pins := rfl
@[simp] theorem State.addSat_dev (s : State) (o hi lo k : Nat) : (s.addSat o hi lo k).dev = s.dev := rfl
@[simp] theorem State.addSat_deal (s : State) (o hi lo k : Nat) : (s.addSat o hi lo k).deal = s.deal := rfl
@[simp] theorem State.addSat_rings (s : State) (o hi lo k : Nat) : (s.addSat o hi lo k).rings = s.rings := rfl
@[simp] theorem State.addSat_dealer (s : State) (o hi lo k : Nat) : (s.addSat o hi lo k).dealer = s.dealer := rfl
@[simp] theorem State.addSat_timing (s : State) (o hi lo k : Nat) : (s.addSat o hi lo k).timing = s.timing := rfl
@[simp] theorem State.addSat_faults (s : State) (o hi lo k : Nat) : (s.addSat o hi lo k).faults = s.faults := rfl
@[simp] theorem State.addSat_partner (s : State) (o hi lo k : Nat) : (s.addSat o hi lo k).partner = s.partner := rfl
@[simp] theorem State.addSat_intc (s : State) (o hi lo k : Nat) : (s.addSat o hi lo k).intc = s.intc := rfl
@[simp] theorem State.addSat_host (s : State) (o hi lo k : Nat) : (s.addSat o hi lo k).host = s.host := rfl
@[simp] theorem State.addSat_feed (s : State) (o hi lo k : Nat) : (s.addSat o hi lo k).feed = s.feed := rfl
@[simp] theorem State.addSat_memc (s : State) (o hi lo k : Nat) : (s.addSat o hi lo k).memc = s.memc := rfl
@[simp] theorem State.addSat_power (s : State) (o hi lo k : Nat) : (s.addSat o hi lo k).power = s.power := rfl
@[simp] theorem State.addSat_churns (s : State) (o hi lo k : Nat) : (s.addSat o hi lo k).churns = s.churns := rfl
@[simp] theorem State.addSat_trumpSels (s : State) (o hi lo k : Nat) : (s.addSat o hi lo k).trumpSels = s.trumpSels := rfl
@[simp] theorem State.addSat_scalers (s : State) (o hi lo k : Nat) : (s.addSat o hi lo k).scalers = s.scalers := rfl
@[simp] theorem State.addSat_skim (s : State) (o hi lo k : Nat) : (s.addSat o hi lo k).skim = s.skim := rfl
@[simp] theorem State.addSat_phots (s : State) (o hi lo k : Nat) : (s.addSat o hi lo k).phots = s.phots := rfl
@[simp] theorem State.addSat_pot (s : State) (o hi lo k : Nat) : (s.addSat o hi lo k).pot = s.pot := rfl
@[simp] theorem State.addSat_ports (s : State) (o hi lo k : Nat) : (s.addSat o hi lo k).ports = s.ports := rfl
@[simp] theorem State.addSat_tiles (s : State) (o hi lo k : Nat) : (s.addSat o hi lo k).tiles = s.tiles := rfl
@[simp] theorem State.addSat_diags (s : State) (o hi lo k : Nat) : (s.addSat o hi lo k).diags = s.diags := rfl
@[simp] theorem State.addSat_ctl (s : State) (o hi lo k : Nat) : (s.addSat o hi lo k).ctl = s.ctl := rfl
@[simp] theorem State.addSat_house (s : State) (o hi lo k : Nat) : (s.addSat o hi lo k).house = s.house := rfl
@[simp] theorem State.addSat_accent (s : State) (o hi lo k : Nat) : (s.addSat o hi lo k).accent = s.accent := rfl

/-! ### addWrap -/

@[simp] theorem State.addWrap_pending (s : State) (o hi lo k : Nat) : (s.addWrap o hi lo k).pending = s.pending := rfl
@[simp] theorem State.addWrap_lamp (s : State) (o hi lo k : Nat) : (s.addWrap o hi lo k).lamp = s.lamp := rfl
@[simp] theorem State.addWrap_freeSeq (s : State) (o hi lo k : Nat) : (s.addWrap o hi lo k).freeSeq = s.freeSeq := rfl
@[simp] theorem State.addWrap_outbox (s : State) (o hi lo k : Nat) : (s.addWrap o hi lo k).outbox = s.outbox := rfl
@[simp] theorem State.addWrap_rws (s : State) (o hi lo k : Nat) : (s.addWrap o hi lo k).rws = s.rws := rfl
@[simp] theorem State.addWrap_dram (s : State) (o hi lo k : Nat) : (s.addWrap o hi lo k).dram = s.dram := rfl
@[simp] theorem State.addWrap_dramBad (s : State) (o hi lo k : Nat) : (s.addWrap o hi lo k).dramBad = s.dramBad := rfl
@[simp] theorem State.addWrap_coreMem (s : State) (o hi lo k : Nat) : (s.addWrap o hi lo k).coreMem = s.coreMem := rfl
@[simp] theorem State.addWrap_fwLog (s : State) (o hi lo k : Nat) : (s.addWrap o hi lo k).fwLog = s.fwLog := rfl
@[simp] theorem State.addWrap_pins (s : State) (o hi lo k : Nat) : (s.addWrap o hi lo k).pins = s.pins := rfl
@[simp] theorem State.addWrap_dev (s : State) (o hi lo k : Nat) : (s.addWrap o hi lo k).dev = s.dev := rfl
@[simp] theorem State.addWrap_deal (s : State) (o hi lo k : Nat) : (s.addWrap o hi lo k).deal = s.deal := rfl
@[simp] theorem State.addWrap_rings (s : State) (o hi lo k : Nat) : (s.addWrap o hi lo k).rings = s.rings := rfl
@[simp] theorem State.addWrap_dealer (s : State) (o hi lo k : Nat) : (s.addWrap o hi lo k).dealer = s.dealer := rfl
@[simp] theorem State.addWrap_timing (s : State) (o hi lo k : Nat) : (s.addWrap o hi lo k).timing = s.timing := rfl
@[simp] theorem State.addWrap_faults (s : State) (o hi lo k : Nat) : (s.addWrap o hi lo k).faults = s.faults := rfl
@[simp] theorem State.addWrap_partner (s : State) (o hi lo k : Nat) : (s.addWrap o hi lo k).partner = s.partner := rfl
@[simp] theorem State.addWrap_intc (s : State) (o hi lo k : Nat) : (s.addWrap o hi lo k).intc = s.intc := rfl
@[simp] theorem State.addWrap_host (s : State) (o hi lo k : Nat) : (s.addWrap o hi lo k).host = s.host := rfl
@[simp] theorem State.addWrap_feed (s : State) (o hi lo k : Nat) : (s.addWrap o hi lo k).feed = s.feed := rfl
@[simp] theorem State.addWrap_memc (s : State) (o hi lo k : Nat) : (s.addWrap o hi lo k).memc = s.memc := rfl
@[simp] theorem State.addWrap_power (s : State) (o hi lo k : Nat) : (s.addWrap o hi lo k).power = s.power := rfl
@[simp] theorem State.addWrap_churns (s : State) (o hi lo k : Nat) : (s.addWrap o hi lo k).churns = s.churns := rfl
@[simp] theorem State.addWrap_trumpSels (s : State) (o hi lo k : Nat) : (s.addWrap o hi lo k).trumpSels = s.trumpSels := rfl
@[simp] theorem State.addWrap_scalers (s : State) (o hi lo k : Nat) : (s.addWrap o hi lo k).scalers = s.scalers := rfl
@[simp] theorem State.addWrap_skim (s : State) (o hi lo k : Nat) : (s.addWrap o hi lo k).skim = s.skim := rfl
@[simp] theorem State.addWrap_phots (s : State) (o hi lo k : Nat) : (s.addWrap o hi lo k).phots = s.phots := rfl
@[simp] theorem State.addWrap_pot (s : State) (o hi lo k : Nat) : (s.addWrap o hi lo k).pot = s.pot := rfl
@[simp] theorem State.addWrap_ports (s : State) (o hi lo k : Nat) : (s.addWrap o hi lo k).ports = s.ports := rfl
@[simp] theorem State.addWrap_tiles (s : State) (o hi lo k : Nat) : (s.addWrap o hi lo k).tiles = s.tiles := rfl
@[simp] theorem State.addWrap_diags (s : State) (o hi lo k : Nat) : (s.addWrap o hi lo k).diags = s.diags := rfl
@[simp] theorem State.addWrap_ctl (s : State) (o hi lo k : Nat) : (s.addWrap o hi lo k).ctl = s.ctl := rfl
@[simp] theorem State.addWrap_house (s : State) (o hi lo k : Nat) : (s.addWrap o hi lo k).house = s.house := rfl
@[simp] theorem State.addWrap_accent (s : State) (o hi lo k : Nat) : (s.addWrap o hi lo k).accent = s.accent := rfl

/-! ### emit -/

@[simp] theorem State.emit_pending (s : State) (e : Emission) : (s.emit e).pending = s.pending := rfl
@[simp] theorem State.emit_lamp (s : State) (e : Emission) : (s.emit e).lamp = s.lamp := rfl
@[simp] theorem State.emit_freeSeq (s : State) (e : Emission) : (s.emit e).freeSeq = s.freeSeq := rfl
@[simp] theorem State.emit_outbox (s : State) (e : Emission) : (s.emit e).outbox = s.outbox ++ [e] := rfl
@[simp] theorem State.emit_regs (s : State) (e : Emission) : (s.emit e).regs = s.regs := rfl
@[simp] theorem State.emit_rws (s : State) (e : Emission) : (s.emit e).rws = s.rws := rfl
@[simp] theorem State.emit_dram (s : State) (e : Emission) : (s.emit e).dram = s.dram := rfl
@[simp] theorem State.emit_dramBad (s : State) (e : Emission) : (s.emit e).dramBad = s.dramBad := rfl
@[simp] theorem State.emit_coreMem (s : State) (e : Emission) : (s.emit e).coreMem = s.coreMem := rfl
@[simp] theorem State.emit_fwLog (s : State) (e : Emission) : (s.emit e).fwLog = s.fwLog := rfl
@[simp] theorem State.emit_pins (s : State) (e : Emission) : (s.emit e).pins = s.pins := rfl
@[simp] theorem State.emit_dev (s : State) (e : Emission) : (s.emit e).dev = s.dev := rfl
@[simp] theorem State.emit_deal (s : State) (e : Emission) : (s.emit e).deal = s.deal := rfl
@[simp] theorem State.emit_rings (s : State) (e : Emission) : (s.emit e).rings = s.rings := rfl
@[simp] theorem State.emit_dealer (s : State) (e : Emission) : (s.emit e).dealer = s.dealer := rfl
@[simp] theorem State.emit_timing (s : State) (e : Emission) : (s.emit e).timing = s.timing := rfl
@[simp] theorem State.emit_faults (s : State) (e : Emission) : (s.emit e).faults = s.faults := rfl
@[simp] theorem State.emit_partner (s : State) (e : Emission) : (s.emit e).partner = s.partner := rfl
@[simp] theorem State.emit_intc (s : State) (e : Emission) : (s.emit e).intc = s.intc := rfl
@[simp] theorem State.emit_host (s : State) (e : Emission) : (s.emit e).host = s.host := rfl
@[simp] theorem State.emit_feed (s : State) (e : Emission) : (s.emit e).feed = s.feed := rfl
@[simp] theorem State.emit_memc (s : State) (e : Emission) : (s.emit e).memc = s.memc := rfl
@[simp] theorem State.emit_power (s : State) (e : Emission) : (s.emit e).power = s.power := rfl
@[simp] theorem State.emit_churns (s : State) (e : Emission) : (s.emit e).churns = s.churns := rfl
@[simp] theorem State.emit_trumpSels (s : State) (e : Emission) : (s.emit e).trumpSels = s.trumpSels := rfl
@[simp] theorem State.emit_scalers (s : State) (e : Emission) : (s.emit e).scalers = s.scalers := rfl
@[simp] theorem State.emit_skim (s : State) (e : Emission) : (s.emit e).skim = s.skim := rfl
@[simp] theorem State.emit_phots (s : State) (e : Emission) : (s.emit e).phots = s.phots := rfl
@[simp] theorem State.emit_pot (s : State) (e : Emission) : (s.emit e).pot = s.pot := rfl
@[simp] theorem State.emit_ports (s : State) (e : Emission) : (s.emit e).ports = s.ports := rfl
@[simp] theorem State.emit_tiles (s : State) (e : Emission) : (s.emit e).tiles = s.tiles := rfl
@[simp] theorem State.emit_diags (s : State) (e : Emission) : (s.emit e).diags = s.diags := rfl
@[simp] theorem State.emit_ctl (s : State) (e : Emission) : (s.emit e).ctl = s.ctl := rfl
@[simp] theorem State.emit_house (s : State) (e : Emission) : (s.emit e).house = s.house := rfl
@[simp] theorem State.emit_accent (s : State) (e : Emission) : (s.emit e).accent = s.accent := rfl

/-! ### useFree -/

@[simp] theorem State.useFree_pending (s : State) : (s.useFree).pending = s.pending := rfl
@[simp] theorem State.useFree_lamp (s : State) : (s.useFree).lamp = s.lamp := rfl
@[simp] theorem State.useFree_freeSeq (s : State) : (s.useFree).freeSeq = s.freeSeq + 1 := rfl
@[simp] theorem State.useFree_outbox (s : State) : (s.useFree).outbox = s.outbox := rfl
@[simp] theorem State.useFree_regs (s : State) : (s.useFree).regs = s.regs := rfl
@[simp] theorem State.useFree_rws (s : State) : (s.useFree).rws = s.rws := rfl
@[simp] theorem State.useFree_dram (s : State) : (s.useFree).dram = s.dram := rfl
@[simp] theorem State.useFree_dramBad (s : State) : (s.useFree).dramBad = s.dramBad := rfl
@[simp] theorem State.useFree_coreMem (s : State) : (s.useFree).coreMem = s.coreMem := rfl
@[simp] theorem State.useFree_fwLog (s : State) : (s.useFree).fwLog = s.fwLog := rfl
@[simp] theorem State.useFree_pins (s : State) : (s.useFree).pins = s.pins := rfl
@[simp] theorem State.useFree_dev (s : State) : (s.useFree).dev = s.dev := rfl
@[simp] theorem State.useFree_deal (s : State) : (s.useFree).deal = s.deal := rfl
@[simp] theorem State.useFree_rings (s : State) : (s.useFree).rings = s.rings := rfl
@[simp] theorem State.useFree_dealer (s : State) : (s.useFree).dealer = s.dealer := rfl
@[simp] theorem State.useFree_timing (s : State) : (s.useFree).timing = s.timing := rfl
@[simp] theorem State.useFree_faults (s : State) : (s.useFree).faults = s.faults := rfl
@[simp] theorem State.useFree_partner (s : State) : (s.useFree).partner = s.partner := rfl
@[simp] theorem State.useFree_intc (s : State) : (s.useFree).intc = s.intc := rfl
@[simp] theorem State.useFree_host (s : State) : (s.useFree).host = s.host := rfl
@[simp] theorem State.useFree_feed (s : State) : (s.useFree).feed = s.feed := rfl
@[simp] theorem State.useFree_memc (s : State) : (s.useFree).memc = s.memc := rfl
@[simp] theorem State.useFree_power (s : State) : (s.useFree).power = s.power := rfl
@[simp] theorem State.useFree_churns (s : State) : (s.useFree).churns = s.churns := rfl
@[simp] theorem State.useFree_trumpSels (s : State) : (s.useFree).trumpSels = s.trumpSels := rfl
@[simp] theorem State.useFree_scalers (s : State) : (s.useFree).scalers = s.scalers := rfl
@[simp] theorem State.useFree_skim (s : State) : (s.useFree).skim = s.skim := rfl
@[simp] theorem State.useFree_phots (s : State) : (s.useFree).phots = s.phots := rfl
@[simp] theorem State.useFree_pot (s : State) : (s.useFree).pot = s.pot := rfl
@[simp] theorem State.useFree_ports (s : State) : (s.useFree).ports = s.ports := rfl
@[simp] theorem State.useFree_tiles (s : State) : (s.useFree).tiles = s.tiles := rfl
@[simp] theorem State.useFree_diags (s : State) : (s.useFree).diags = s.diags := rfl
@[simp] theorem State.useFree_ctl (s : State) : (s.useFree).ctl = s.ctl := rfl
@[simp] theorem State.useFree_house (s : State) : (s.useFree).house = s.house := rfl
@[simp] theorem State.useFree_accent (s : State) : (s.useFree).accent = s.accent := rfl

/-! ### advanceTo -/

@[simp] theorem State.advanceTo_pending (s : State) (t : Nat) : (s.advanceTo t).pending = s.pending := rfl
@[simp] theorem State.advanceTo_lamp (s : State) (t : Nat) : (s.advanceTo t).lamp = max s.lamp t := rfl
@[simp] theorem State.advanceTo_freeSeq (s : State) (t : Nat) : (s.advanceTo t).freeSeq = s.freeSeq := rfl
@[simp] theorem State.advanceTo_outbox (s : State) (t : Nat) : (s.advanceTo t).outbox = s.outbox := rfl
@[simp] theorem State.advanceTo_regs (s : State) (t : Nat) : (s.advanceTo t).regs = s.regs := rfl
@[simp] theorem State.advanceTo_rws (s : State) (t : Nat) : (s.advanceTo t).rws = s.rws := rfl
@[simp] theorem State.advanceTo_dram (s : State) (t : Nat) : (s.advanceTo t).dram = s.dram := rfl
@[simp] theorem State.advanceTo_dramBad (s : State) (t : Nat) : (s.advanceTo t).dramBad = s.dramBad := rfl
@[simp] theorem State.advanceTo_coreMem (s : State) (t : Nat) : (s.advanceTo t).coreMem = s.coreMem := rfl
@[simp] theorem State.advanceTo_fwLog (s : State) (t : Nat) : (s.advanceTo t).fwLog = s.fwLog := rfl
@[simp] theorem State.advanceTo_pins (s : State) (t : Nat) : (s.advanceTo t).pins = s.pins := rfl
@[simp] theorem State.advanceTo_dev (s : State) (t : Nat) : (s.advanceTo t).dev = s.dev := rfl
@[simp] theorem State.advanceTo_deal (s : State) (t : Nat) : (s.advanceTo t).deal = s.deal := rfl
@[simp] theorem State.advanceTo_rings (s : State) (t : Nat) : (s.advanceTo t).rings = s.rings := rfl
@[simp] theorem State.advanceTo_dealer (s : State) (t : Nat) : (s.advanceTo t).dealer = s.dealer := rfl
@[simp] theorem State.advanceTo_timing (s : State) (t : Nat) : (s.advanceTo t).timing = s.timing := rfl
@[simp] theorem State.advanceTo_faults (s : State) (t : Nat) : (s.advanceTo t).faults = s.faults := rfl
@[simp] theorem State.advanceTo_partner (s : State) (t : Nat) : (s.advanceTo t).partner = s.partner := rfl
@[simp] theorem State.advanceTo_intc (s : State) (t : Nat) : (s.advanceTo t).intc = s.intc := rfl
@[simp] theorem State.advanceTo_host (s : State) (t : Nat) : (s.advanceTo t).host = s.host := rfl
@[simp] theorem State.advanceTo_feed (s : State) (t : Nat) : (s.advanceTo t).feed = s.feed := rfl
@[simp] theorem State.advanceTo_memc (s : State) (t : Nat) : (s.advanceTo t).memc = s.memc := rfl
@[simp] theorem State.advanceTo_power (s : State) (t : Nat) : (s.advanceTo t).power = s.power := rfl
@[simp] theorem State.advanceTo_churns (s : State) (t : Nat) : (s.advanceTo t).churns = s.churns := rfl
@[simp] theorem State.advanceTo_trumpSels (s : State) (t : Nat) : (s.advanceTo t).trumpSels = s.trumpSels := rfl
@[simp] theorem State.advanceTo_scalers (s : State) (t : Nat) : (s.advanceTo t).scalers = s.scalers := rfl
@[simp] theorem State.advanceTo_skim (s : State) (t : Nat) : (s.advanceTo t).skim = s.skim := rfl
@[simp] theorem State.advanceTo_phots (s : State) (t : Nat) : (s.advanceTo t).phots = s.phots := rfl
@[simp] theorem State.advanceTo_pot (s : State) (t : Nat) : (s.advanceTo t).pot = s.pot := rfl
@[simp] theorem State.advanceTo_ports (s : State) (t : Nat) : (s.advanceTo t).ports = s.ports := rfl
@[simp] theorem State.advanceTo_tiles (s : State) (t : Nat) : (s.advanceTo t).tiles = s.tiles := rfl
@[simp] theorem State.advanceTo_diags (s : State) (t : Nat) : (s.advanceTo t).diags = s.diags := rfl
@[simp] theorem State.advanceTo_ctl (s : State) (t : Nat) : (s.advanceTo t).ctl = s.ctl := rfl
@[simp] theorem State.advanceTo_house (s : State) (t : Nat) : (s.advanceTo t).house = s.house := rfl
@[simp] theorem State.advanceTo_accent (s : State) (t : Nat) : (s.advanceTo t).accent = s.accent := rfl

/-! ### dramWrite -/

@[simp] theorem State.dramWrite_pending (s : State) (a : Nat) (b : Bytes) : (s.dramWrite a b).pending = s.pending := rfl
@[simp] theorem State.dramWrite_lamp (s : State) (a : Nat) (b : Bytes) : (s.dramWrite a b).lamp = s.lamp := rfl
@[simp] theorem State.dramWrite_freeSeq (s : State) (a : Nat) (b : Bytes) : (s.dramWrite a b).freeSeq = s.freeSeq := rfl
@[simp] theorem State.dramWrite_outbox (s : State) (a : Nat) (b : Bytes) : (s.dramWrite a b).outbox = s.outbox := rfl
@[simp] theorem State.dramWrite_regs (s : State) (a : Nat) (b : Bytes) : (s.dramWrite a b).regs = s.regs := rfl
@[simp] theorem State.dramWrite_rws (s : State) (a : Nat) (b : Bytes) : (s.dramWrite a b).rws = s.rws := rfl
@[simp] theorem State.dramWrite_dram (s : State) (a : Nat) (b : Bytes) : (s.dramWrite a b).dram = Memory.write s.dram a b := rfl
@[simp] theorem State.dramWrite_coreMem (s : State) (a : Nat) (b : Bytes) : (s.dramWrite a b).coreMem = s.coreMem := rfl
@[simp] theorem State.dramWrite_fwLog (s : State) (a : Nat) (b : Bytes) : (s.dramWrite a b).fwLog = s.fwLog := rfl
@[simp] theorem State.dramWrite_pins (s : State) (a : Nat) (b : Bytes) : (s.dramWrite a b).pins = s.pins := rfl
@[simp] theorem State.dramWrite_dev (s : State) (a : Nat) (b : Bytes) : (s.dramWrite a b).dev = s.dev := rfl
@[simp] theorem State.dramWrite_deal (s : State) (a : Nat) (b : Bytes) : (s.dramWrite a b).deal = s.deal := rfl
@[simp] theorem State.dramWrite_rings (s : State) (a : Nat) (b : Bytes) : (s.dramWrite a b).rings = s.rings := rfl
@[simp] theorem State.dramWrite_dealer (s : State) (a : Nat) (b : Bytes) : (s.dramWrite a b).dealer = s.dealer := rfl
@[simp] theorem State.dramWrite_timing (s : State) (a : Nat) (b : Bytes) : (s.dramWrite a b).timing = s.timing := rfl
@[simp] theorem State.dramWrite_faults (s : State) (a : Nat) (b : Bytes) : (s.dramWrite a b).faults = s.faults := rfl
@[simp] theorem State.dramWrite_partner (s : State) (a : Nat) (b : Bytes) : (s.dramWrite a b).partner = s.partner := rfl
@[simp] theorem State.dramWrite_intc (s : State) (a : Nat) (b : Bytes) : (s.dramWrite a b).intc = s.intc := rfl
@[simp] theorem State.dramWrite_host (s : State) (a : Nat) (b : Bytes) : (s.dramWrite a b).host = s.host := rfl
@[simp] theorem State.dramWrite_feed (s : State) (a : Nat) (b : Bytes) : (s.dramWrite a b).feed = s.feed := rfl
@[simp] theorem State.dramWrite_memc (s : State) (a : Nat) (b : Bytes) : (s.dramWrite a b).memc = s.memc := rfl
@[simp] theorem State.dramWrite_power (s : State) (a : Nat) (b : Bytes) : (s.dramWrite a b).power = s.power := rfl
@[simp] theorem State.dramWrite_churns (s : State) (a : Nat) (b : Bytes) : (s.dramWrite a b).churns = s.churns := rfl
@[simp] theorem State.dramWrite_trumpSels (s : State) (a : Nat) (b : Bytes) : (s.dramWrite a b).trumpSels = s.trumpSels := rfl
@[simp] theorem State.dramWrite_scalers (s : State) (a : Nat) (b : Bytes) : (s.dramWrite a b).scalers = s.scalers := rfl
@[simp] theorem State.dramWrite_skim (s : State) (a : Nat) (b : Bytes) : (s.dramWrite a b).skim = s.skim := rfl
@[simp] theorem State.dramWrite_phots (s : State) (a : Nat) (b : Bytes) : (s.dramWrite a b).phots = s.phots := rfl
@[simp] theorem State.dramWrite_pot (s : State) (a : Nat) (b : Bytes) : (s.dramWrite a b).pot = s.pot := rfl
@[simp] theorem State.dramWrite_ports (s : State) (a : Nat) (b : Bytes) : (s.dramWrite a b).ports = s.ports := rfl
@[simp] theorem State.dramWrite_tiles (s : State) (a : Nat) (b : Bytes) : (s.dramWrite a b).tiles = s.tiles := rfl
@[simp] theorem State.dramWrite_diags (s : State) (a : Nat) (b : Bytes) : (s.dramWrite a b).diags = s.diags := rfl
@[simp] theorem State.dramWrite_ctl (s : State) (a : Nat) (b : Bytes) : (s.dramWrite a b).ctl = s.ctl := rfl
@[simp] theorem State.dramWrite_house (s : State) (a : Nat) (b : Bytes) : (s.dramWrite a b).house = s.house := rfl
@[simp] theorem State.dramWrite_accent (s : State) (a : Nat) (b : Bytes) : (s.dramWrite a b).accent = s.accent := rfl

end Sys2Proof.Machine
end

