-- ==== Sys2Proof/Laws/Access.lean ====
section
/-! SUPPORT. Which action a served register write is, for the registers that commands name. -/

namespace Sys2Proof.Machine

open Sys2Proof

/-- A served write goes to its register. -/
theorem State.writeReg_serves {s : State} {m : Master} {off : Nat} (h : s.serves m off) (ha : off % 4 = 0) (v : Nat) :
    s.writeReg m off 4 v = s.writeWord m off v := by
  obtain ⟨h1, h2, _, h4⟩ := h
  cases m
  · have := h4 rfl
    simp [State.writeReg, State.reaches, State.asleep, h1, h2, this, ha]
  · simp [State.writeReg, State.reaches, State.asleep, h1, h2, ha]

/-- An offset of an ordinary register: word-aligned, outside the MSI-X table and the firmware's log window. -/
def Plain (off : Nat) : Prop := off % 4 = 0 ∧ ¬(0x00F000 ≤ off ∧ off < 0x00F100) ∧ ¬(0x440000 ≤ off ∧ off < 0x480000)

/-- A served write to a register with an action of its own is that action. -/
theorem State.writeReg_hook {s : State} {m : Master} {off base : Nat} {is : List Nat} {hk : Hook} (h : s.serves m off)
    (ha : Plain off) (hr : (regAt off).map (fun x => (x.1.base, x.2)) = some (base, is))
    (hb : base ≠ Reg.INTC_HAND_CLAIM 0 ∧ base ≠ Reg.CHN_TC 0 0 0) (hf : findHook base = some hk) (v : Nat) :
    s.writeReg m off 4 v = hk (is.getD 0 0) (is.getD 1 0) v s := by
  rw [State.writeReg_serves h ha.1]
  unfold State.writeWord
  rw [if_neg (by simp [h.2.2.1]), if_neg ha.2.1, if_neg ha.2.2]
  cases e : regAt off with
  | none => rw [e] at hr; cases hr
  | some x =>
    obtain ⟨r, js⟩ := x
    rw [e] at hr
    simp only [Option.map_some, Option.some.injEq, Prod.mk.injEq] at hr
    obtain ⟨rfl, rfl⟩ := hr
    simp only [hb.1, hb.2, if_false, hf]

theorem fin4_val (r : Fin 4) : fin4 r.val = r := Fin.ext (Nat.mod_eq_of_lt r.isLt)
theorem fin2_val (r : Fin 2) : fin2 r.val = r := Fin.ext (Nat.mod_eq_of_lt r.isLt)
theorem fin8_val (r : Fin 8) : fin8 r.val = r := Fin.ext (Nat.mod_eq_of_lt r.isLt)
theorem tileAt_val (r : Fin 16) : tileAt r.val = r := Fin.ext (Nat.mod_eq_of_lt r.isLt)

theorem State.write_PWR_RESET {s : State} {m : Master} (h : s.serves m Reg.PWR_RESET) (v : Nat) :
    s.writeReg m Reg.PWR_RESET 4 v = (s.writePwrReset v) :=
  State.writeReg_hook (base := Reg.PWR_RESET) (is := []) h (by unfold Plain; decide) (by decide) (by decide) rfl v

theorem State.write_PWR_WDOG_KICK {s : State} {m : Master} (h : s.serves m Reg.PWR_WDOG_KICK) (v : Nat) :
    s.writeReg m Reg.PWR_WDOG_KICK 4 v = (s.kickWatchdog v) :=
  State.writeReg_hook (base := Reg.PWR_WDOG_KICK) (is := []) h (by unfold Plain; decide) (by decide) (by decide) rfl v

theorem State.write_PWR_FW_ALIVE {s : State} {m : Master} (h : s.serves m Reg.PWR_FW_ALIVE) (v : Nat) :
    s.writeReg m Reg.PWR_FW_ALIVE 4 v = (s.fwAlive v) :=
  State.writeReg_hook (base := Reg.PWR_FW_ALIVE) (is := []) h (by unfold Plain; decide) (by decide) (by decide) rfl v

theorem State.write_FLT_INJECT {s : State} {m : Master} (h : s.serves m Reg.FLT_INJECT) (v : Nat) :
    s.writeReg m Reg.FLT_INJECT 4 v = (s.inject v) :=
  State.writeReg_hook (base := Reg.FLT_INJECT) (is := []) h (by unfold Plain; decide) (by decide) (by decide) rfl v

theorem State.write_FLT_FIRST {s : State} {m : Master} (h : s.serves m Reg.FLT_FIRST) (v : Nat) :
    s.writeReg m Reg.FLT_FIRST 4 v = (if bitAt v 12 then s.clearFirst else s) :=
  State.writeReg_hook (base := Reg.FLT_FIRST) (is := []) h (by unfold Plain; decide) (by decide) (by decide) rfl v

theorem State.write_FLT_PEND {s : State} {m : Master} (w : Fin 4) (h : s.serves m (Reg.FLT_PEND w)) (v : Nat) :
    s.writeReg m (Reg.FLT_PEND w) 4 v = (s.clearPend w v) := by
  have plain : ∀ (w : Fin 4), Plain (Reg.FLT_PEND w) := by unfold Plain; decide
  have found : ∀ (w : Fin 4), (regAt (Reg.FLT_PEND w)).map (fun x => (x.1.base, x.2)) = some ((Reg.FLT_PEND 0), [w.val]) := by decide
  have w := State.writeReg_hook (base := (Reg.FLT_PEND 0)) (is := [w.val]) h (plain w) (found w) (by decide) rfl v
  exact w

theorem State.write_FEED_CFG {s : State} {m : Master} (h : s.serves m Reg.FEED_CFG) (v : Nat) :
    s.writeReg m Reg.FEED_CFG 4 v = (s.writeFeedCfg v) :=
  State.writeReg_hook (base := Reg.FEED_CFG) (is := []) h (by unfold Plain; decide) (by decide) (by decide) rfl v

theorem State.write_SCL_CFG {s : State} {m : Master} (k : Fin 8) (h : s.serves m (Reg.SCL_CFG k)) (v : Nat) :
    s.writeReg m (Reg.SCL_CFG k) 4 v = (s.writeScalerCfg k v) := by
  have plain : ∀ (k : Fin 8), Plain (Reg.SCL_CFG k) := by unfold Plain; decide
  have found : ∀ (k : Fin 8), (regAt (Reg.SCL_CFG k)).map (fun x => (x.1.base, x.2)) = some ((Reg.SCL_CFG 0), [k.val]) := by decide
  have w := State.writeReg_hook (base := (Reg.SCL_CFG 0)) (is := [k.val]) h (plain k) (found k) (by decide) rfl v
  exact w

theorem State.write_SCL_TABLE_CTL {s : State} {m : Master} (k : Fin 8) (h : s.serves m (Reg.SCL_TABLE_CTL k)) (v : Nat) :
    s.writeReg m (Reg.SCL_TABLE_CTL k) 4 v = (s.writeTableWr k v) := by
  have plain : ∀ (k : Fin 8), Plain (Reg.SCL_TABLE_CTL k) := by unfold Plain; decide
  have found : ∀ (k : Fin 8), (regAt (Reg.SCL_TABLE_CTL k)).map (fun x => (x.1.base, x.2)) = some ((Reg.SCL_TABLE_CTL 0), [k.val]) := by decide
  have w := State.writeReg_hook (base := (Reg.SCL_TABLE_CTL 0)) (is := [k.val]) h (plain k) (found k) (by decide) rfl v
  exact w

theorem State.write_SQ_TAIL {s : State} {m : Master} (r : RingId) (h : s.serves m (Reg.DEV_RING_SQ_TAIL r)) (v : Nat) :
    s.writeReg m (Reg.DEV_RING_SQ_TAIL r) 4 v = (s.writeSqTail r (bitsOf v 15 0)) := by
  have plain : ∀ (r : RingId), Plain (Reg.DEV_RING_SQ_TAIL r) := by unfold Plain; decide
  have found : ∀ (r : RingId), (regAt (Reg.DEV_RING_SQ_TAIL r)).map (fun x => (x.1.base, x.2)) = some ((Reg.DEV_RING_SQ_TAIL 0), [r.val]) := by decide
  have w := State.writeReg_hook (base := (Reg.DEV_RING_SQ_TAIL 0)) (is := [r.val]) h (plain r) (found r) (by decide) rfl v
  simpa only [List.getD_cons_zero, List.getD_cons_succ, fin4_val] using w

theorem State.write_CQ_HEAD {s : State} {m : Master} (r : RingId) (h : s.serves m (Reg.DEV_RING_CQ_HEAD r)) (v : Nat) :
    s.writeReg m (Reg.DEV_RING_CQ_HEAD r) 4 v = (s.writeCqHead r (bitsOf v 15 0)) := by
  have plain : ∀ (r : RingId), Plain (Reg.DEV_RING_CQ_HEAD r) := by unfold Plain; decide
  have found : ∀ (r : RingId), (regAt (Reg.DEV_RING_CQ_HEAD r)).map (fun x => (x.1.base, x.2)) = some ((Reg.DEV_RING_CQ_HEAD 0), [r.val]) := by decide
  have w := State.writeReg_hook (base := (Reg.DEV_RING_CQ_HEAD 0)) (is := [r.val]) h (plain r) (found r) (by decide) rfl v
  simpa only [List.getD_cons_zero, List.getD_cons_succ, fin4_val] using w

theorem State.write_RING_CFG {s : State} {m : Master} (r : RingId) (h : s.serves m (Reg.DEV_RING_CFG r)) (v : Nat) :
    s.writeReg m (Reg.DEV_RING_CFG r) 4 v = (s.writeRingCfg r v) := by
  have plain : ∀ (r : RingId), Plain (Reg.DEV_RING_CFG r) := by unfold Plain; decide
  have found : ∀ (r : RingId), (regAt (Reg.DEV_RING_CFG r)).map (fun x => (x.1.base, x.2)) = some ((Reg.DEV_RING_CFG 0), [r.val]) := by decide
  have w := State.writeReg_hook (base := (Reg.DEV_RING_CFG 0)) (is := [r.val]) h (plain r) (found r) (by decide) rfl v
  simpa only [List.getD_cons_zero, List.getD_cons_succ, fin4_val] using w

theorem State.write_RING_STAT {s : State} {m : Master} (r : RingId) (h : s.serves m (Reg.DEV_RING_STAT r)) (v : Nat) :
    s.writeReg m (Reg.DEV_RING_STAT r) 4 v = (s.writeRingStat r v) := by
  have plain : ∀ (r : RingId), Plain (Reg.DEV_RING_STAT r) := by unfold Plain; decide
  have found : ∀ (r : RingId), (regAt (Reg.DEV_RING_STAT r)).map (fun x => (x.1.base, x.2)) = some ((Reg.DEV_RING_STAT 0), [r.val]) := by decide
  have w := State.writeReg_hook (base := (Reg.DEV_RING_STAT 0)) (is := [r.val]) h (plain r) (found r) (by decide) rfl v
  simpa only [List.getD_cons_zero, List.getD_cons_succ, fin4_val] using w

theorem State.write_HAND_CLAIM {s : State} {m : Master} (h : Fin 2) (hs : s.serves m (Reg.INTC_HAND_CLAIM h)) (v : Nat) :
    s.writeReg m (Reg.INTC_HAND_CLAIM h) 4 v = (s.claimWrite m h (bitsOf v 9 0)) := by
  have plain : ∀ h : Fin 2, Plain (Reg.INTC_HAND_CLAIM h) := by unfold Plain; decide
  have found : ∀ h : Fin 2, (regAt (Reg.INTC_HAND_CLAIM h)).map (fun x => (x.1.base, x.2)) = some (Reg.INTC_HAND_CLAIM 0, [h.val]) := by decide
  have ha := plain h
  have hr := found h
  rw [State.writeReg_serves hs ha.1]
  unfold State.writeWord
  rw [if_neg (by simp [hs.2.2.1]), if_neg ha.2.1, if_neg ha.2.2]
  cases e : regAt (Reg.INTC_HAND_CLAIM h) with
  | none => rw [e] at hr; cases hr
  | some x =>
    obtain ⟨r, js⟩ := x
    rw [e] at hr
    simp only [Option.map_some, Option.some.injEq, Prod.mk.injEq] at hr
    obtain ⟨hb, rfl⟩ := hr
    simp only [hb, if_true, List.getD_cons_zero, fin2_val]
theorem State.write_HAND_PEND {s : State} {m : Master} (h : Fin 2) (w : Fin 12) (hs : s.serves m (Reg.INTC_HAND_PEND h w)) (v : Nat) :
    s.writeReg m (Reg.INTC_HAND_PEND h w) 4 v = (s.withdraw h w v) := by
  have plain : ∀ (h : Fin 2) (w : Fin 12), Plain (Reg.INTC_HAND_PEND h w) := by unfold Plain; decide
  have found : ∀ (h : Fin 2) (w : Fin 12), (regAt (Reg.INTC_HAND_PEND h w)).map (fun x => (x.1.base, x.2)) = some ((Reg.INTC_HAND_PEND 0 0), [h.val, w.val]) := by decide
  have w := State.writeReg_hook (base := (Reg.INTC_HAND_PEND 0 0)) (is := [h.val, w.val]) hs (plain h w) (found h w) (by decide) rfl v
  simpa only [List.getD_cons_zero, List.getD_cons_succ, fin2_val] using w

theorem State.write_EVQ_CFG {s : State} {m : Master} (q : QueueId) (h : s.serves m (Reg.EVQ_CFG q)) (v : Nat) :
    s.writeReg m (Reg.EVQ_CFG q) 4 v = (s.writeEvqCfg q v) := by
  have plain : ∀ (q : QueueId), Plain (Reg.EVQ_CFG q) := by unfold Plain; decide
  have found : ∀ (q : QueueId), (regAt (Reg.EVQ_CFG q)).map (fun x => (x.1.base, x.2)) = some ((Reg.EVQ_CFG 0), [q.val]) := by decide
  have w := State.writeReg_hook (base := (Reg.EVQ_CFG 0)) (is := [q.val]) h (plain q) (found q) (by decide) rfl v
  simpa only [List.getD_cons_zero, List.getD_cons_succ, fin8_val] using w

theorem State.write_EVQ_CONS {s : State} {m : Master} (q : QueueId) (h : s.serves m (Reg.EVQ_CONS q)) (v : Nat) :
    s.writeReg m (Reg.EVQ_CONS q) 4 v = (s.writeCons q v) := by
  have plain : ∀ (q : QueueId), Plain (Reg.EVQ_CONS q) := by unfold Plain; decide
  have found : ∀ (q : QueueId), (regAt (Reg.EVQ_CONS q)).map (fun x => (x.1.base, x.2)) = some ((Reg.EVQ_CONS 0), [q.val]) := by decide
  have w := State.writeReg_hook (base := (Reg.EVQ_CONS 0)) (is := [q.val]) h (plain q) (found q) (by decide) rfl v
  simpa only [List.getD_cons_zero, List.getD_cons_succ, fin8_val] using w

theorem State.write_EVQ_CTL {s : State} {m : Master} (q : QueueId) (h : s.serves m (Reg.EVQ_CTL q)) (v : Nat) :
    s.writeReg m (Reg.EVQ_CTL q) 4 v = (if bitAt v 0 then s.writeArm q else s) := by
  have plain : ∀ (q : QueueId), Plain (Reg.EVQ_CTL q) := by unfold Plain; decide
  have found : ∀ (q : QueueId), (regAt (Reg.EVQ_CTL q)).map (fun x => (x.1.base, x.2)) = some ((Reg.EVQ_CTL 0), [q.val]) := by decide
  have w := State.writeReg_hook (base := (Reg.EVQ_CTL 0)) (is := [q.val]) h (plain q) (found q) (by decide) rfl v
  simpa only [List.getD_cons_zero, List.getD_cons_succ, fin8_val] using w

theorem State.write_EVQ_STAT {s : State} {m : Master} (q : QueueId) (h : s.serves m (Reg.EVQ_STAT q)) (v : Nat) :
    s.writeReg m (Reg.EVQ_STAT q) 4 v = (s.writeEvqStat q v) := by
  have plain : ∀ (q : QueueId), Plain (Reg.EVQ_STAT q) := by unfold Plain; decide
  have found : ∀ (q : QueueId), (regAt (Reg.EVQ_STAT q)).map (fun x => (x.1.base, x.2)) = some ((Reg.EVQ_STAT 0), [q.val]) := by decide
  have w := State.writeReg_hook (base := (Reg.EVQ_STAT 0)) (is := [q.val]) h (plain q) (found q) (by decide) rfl v
  simpa only [List.getD_cons_zero, List.getD_cons_succ, fin8_val] using w

theorem State.write_LANE_PWR {s : State} {m : Master} (n : TileId) (h : s.serves m (Reg.TL_LANE_PWR n)) (v : Nat) :
    s.writeReg m (Reg.TL_LANE_PWR n) 4 v = (s.writeLanePwr n v) := by
  have plain : ∀ (n : TileId), Plain (Reg.TL_LANE_PWR n) := by unfold Plain; decide
  have found : ∀ (n : TileId), (regAt (Reg.TL_LANE_PWR n)).map (fun x => (x.1.base, x.2)) = some ((Reg.TL_LANE_PWR 0), [n.val]) := by decide
  have w := State.writeReg_hook (base := (Reg.TL_LANE_PWR 0)) (is := [n.val]) h (plain n) (found n) (by decide) rfl v
  simpa only [List.getD_cons_zero, List.getD_cons_succ, tileAt_val] using w

theorem State.write_DIAG_CTL {s : State} {m : Master} (n : TileId) (h : s.serves m (Reg.TL_DIAG_CTL n)) (v : Nat) :
    s.writeReg m (Reg.TL_DIAG_CTL n) 4 v = (s.writeDiagCtl n v) := by
  have plain : ∀ (n : TileId), Plain (Reg.TL_DIAG_CTL n) := by unfold Plain; decide
  have found : ∀ (n : TileId), (regAt (Reg.TL_DIAG_CTL n)).map (fun x => (x.1.base, x.2)) = some ((Reg.TL_DIAG_CTL 0), [n.val]) := by decide
  have w := State.writeReg_hook (base := (Reg.TL_DIAG_CTL 0)) (is := [n.val]) h (plain n) (found n) (by decide) rfl v
  simpa only [List.getD_cons_zero, List.getD_cons_succ, tileAt_val] using w

theorem State.write_TRC_CTL {s : State} {m : Master} (c : Fin 4) (h : s.serves m (Reg.CTL_TRC_CTL c)) (v : Nat) :
    s.writeReg m (Reg.CTL_TRC_CTL c) 4 v = (s.writeTraceCtl c v) := by
  have plain : ∀ (c : Fin 4), Plain (Reg.CTL_TRC_CTL c) := by unfold Plain; decide
  have found : ∀ (c : Fin 4), (regAt (Reg.CTL_TRC_CTL c)).map (fun x => (x.1.base, x.2)) = some ((Reg.CTL_TRC_CTL 0), [c.val]) := by decide
  have w := State.writeReg_hook (base := (Reg.CTL_TRC_CTL 0)) (is := [c.val]) h (plain c) (found c) (by decide) rfl v
  simpa only [List.getD_cons_zero, List.getD_cons_succ, fin4_val] using w

theorem State.write_CAL_CTL {s : State} {m : Master} (h : s.serves m Reg.HK_CAL_CTL) (v : Nat) :
    s.writeReg m Reg.HK_CAL_CTL 4 v = (s.writeCalCtl v) :=
  State.writeReg_hook (base := Reg.HK_CAL_CTL) (is := []) h (by unfold Plain; decide) (by decide) (by decide) rfl v

theorem State.write_CH_FADE {s : State} {m : Master} (c : Fin 48) (h : s.serves m (Reg.ACC_CH_FADE c)) (v : Nat) :
    s.writeReg m (Reg.ACC_CH_FADE c) 4 v = (s.writeFade c v) := by
  have plain : ∀ (c : Fin 48), Plain (Reg.ACC_CH_FADE c) := by unfold Plain; decide
  have found : ∀ (c : Fin 48), (regAt (Reg.ACC_CH_FADE c)).map (fun x => (x.1.base, x.2)) = some ((Reg.ACC_CH_FADE 0), [c.val]) := by decide
  have w := State.writeReg_hook (base := (Reg.ACC_CH_FADE 0)) (is := [c.val]) h (plain c) (found c) (by decide) rfl v
  simpa only [List.getD_cons_zero, c.isLt, dite_true] using w

theorem State.write_MCTL {s : State} {m : Master} (h : s.serves m Reg.ACC_MCTL) (v : Nat) :
    s.writeReg m Reg.ACC_MCTL 4 v = (if bitAt v 0 then s.onAccent fun a => { a with mswap := true } else s) :=
  State.writeReg_hook (base := Reg.ACC_MCTL) (is := []) h (by unfold Plain; decide) (by decide) (by decide) rfl v

theorem State.write_CH_CTL {s : State} {m : Master} (c : Fin 48) (h : s.serves m (Reg.ACC_CH_CTL c)) (v : Nat) :
    s.writeReg m (Reg.ACC_CH_CTL c) 4 v = (s.writeAccCtl c v) := by
  have plain : ∀ (c : Fin 48), Plain (Reg.ACC_CH_CTL c) := by unfold Plain; decide
  have found : ∀ (c : Fin 48), (regAt (Reg.ACC_CH_CTL c)).map (fun x => (x.1.base, x.2)) = some ((Reg.ACC_CH_CTL 0), [c.val]) := by decide
  have w := State.writeReg_hook (base := (Reg.ACC_CH_CTL 0)) (is := [c.val]) h (plain c) (found c) (by decide) rfl v
  simpa only [List.getD_cons_zero, c.isLt, dite_true] using w

end Sys2Proof.Machine
end

