-- ==== Sys2Proof/Laws/Memory.lean ====
section
/-! SUPPORT. Sparse maps and memories: a read after a write, and the canonical form that every operation keeps. -/

namespace Sys2Proof.Machine

open Sys2Proof

/-! ### Sparse maps -/

theorem Sparse.above_mono {α : Type} {j k : Nat} (h : j ≤ k) :
    ∀ {m : List (Nat × α)}, Sparse.above k m = true → Sparse.above j m = true
  | [], _ => rfl
  | (a, v) :: m, hm => by
    simp only [Sparse.above, Bool.and_eq_true, decide_eq_true_eq] at hm ⊢
    exact ⟨by omega, hm.2⟩

theorem Sparse.above_erase {α : Type} (k : Nat) :
    ∀ {m : List (Nat × α)} {j : Nat}, Sparse.above j m = true → Sparse.above j (Sparse.erase k m) = true
  | [], _, _ => rfl
  | (a, v) :: m, j, hm => by
    simp only [Sparse.above, Bool.and_eq_true, decide_eq_true_eq] at hm
    simp only [Sparse.erase]
    split
    · exact Sparse.above_erase k (Sparse.above_mono (Nat.le_of_lt hm.1) hm.2)
    · simp only [Sparse.above, Bool.and_eq_true, decide_eq_true_eq]
      exact ⟨hm.1, Sparse.above_erase k hm.2⟩

theorem Sparse.above_put {α : Type} (k : Nat) (v : α) :
    ∀ {m : List (Nat × α)} {j : Nat}, j < k → Sparse.above j m = true → Sparse.above j (Sparse.put k v m) = true
  | [], _, hj, _ => by simp [Sparse.put, Sparse.above, hj]
  | (a, w) :: m, j, hj, hm => by
    simp only [Sparse.above, Bool.and_eq_true, decide_eq_true_eq] at hm
    simp only [Sparse.put]
    split
    · simp only [Sparse.above, Bool.and_eq_true, decide_eq_true_eq]
      exact ⟨hj, ‹k < a›, hm.2⟩
    · split
      · rename_i h1 h2
        subst h2
        simp only [Sparse.above, Bool.and_eq_true, decide_eq_true_eq]
        exact ⟨hm.1, hm.2⟩
      · rename_i h1 h2
        simp only [Sparse.above, Bool.and_eq_true, decide_eq_true_eq]
        exact ⟨hm.1, Sparse.above_put k v (by omega) hm.2⟩

/-- No entry equals its default. -/
def Sparse.proper {α : Type} [DecidableEq α] (d : Nat → α) (m : List (Nat × α)) : Bool :=
  m.all fun e => !decide (e.2 = d e.1)

theorem Sparse.wf_cons {α : Type} [DecidableEq α] (d : Nat → α) (a : Nat) (v : α) (m : List (Nat × α)) :
    Sparse.wf d ((a, v) :: m) = true ↔ v ≠ d a ∧ Sparse.above a m = true ∧ Sparse.proper d m = true := by
  simp [Sparse.wf, Sparse.proper, and_assoc]

theorem Sparse.proper_erase {α : Type} [DecidableEq α] (d : Nat → α) (k : Nat) :
    ∀ {m : List (Nat × α)}, Sparse.proper d m = true → Sparse.proper d (Sparse.erase k m) = true
  | [], _ => rfl
  | (a, v) :: m, hm => by
    simp only [Sparse.proper, List.all_cons, Bool.and_eq_true] at hm
    simp only [Sparse.erase]
    split
    · exact Sparse.proper_erase d k hm.2
    · simp only [Sparse.proper, List.all_cons, Bool.and_eq_true]
      exact ⟨hm.1, Sparse.proper_erase d k hm.2⟩

theorem Sparse.proper_put {α : Type} [DecidableEq α] (d : Nat → α) (k : Nat) (v : α) (hv : v ≠ d k) :
    ∀ {m : List (Nat × α)}, Sparse.proper d m = true → Sparse.proper d (Sparse.put k v m) = true
  | [], _ => by simp [Sparse.put, Sparse.proper, hv]
  | (a, w) :: m, hm => by
    have hm' := hm
    simp only [Sparse.proper, List.all_cons, Bool.and_eq_true] at hm
    simp only [Sparse.put]
    split
    · simp only [Sparse.proper, List.all_cons, Bool.and_eq_true]
      exact ⟨by simp [hv], hm⟩
    · split
      · simp only [Sparse.proper, List.all_cons, Bool.and_eq_true]
        exact ⟨by simp [hv], hm.2⟩
      · simp only [Sparse.proper, List.all_cons, Bool.and_eq_true]
        exact ⟨hm.1, Sparse.proper_put d k v hv hm.2⟩

theorem Sparse.wf_above {α : Type} [DecidableEq α] (d : Nat → α) {a : Nat} {m : List (Nat × α)}
    (h : Sparse.above a m = true) (p : Sparse.proper d m = true) : Sparse.wf d m = true := by
  cases m with
  | nil => rfl
  | cons e m =>
    obtain ⟨b, v⟩ := e
    simp only [Sparse.above, Bool.and_eq_true] at h
    simp only [Sparse.proper, List.all_cons, Bool.and_eq_true] at p
    exact (Sparse.wf_cons d b v m).2 ⟨by simpa using p.1, h.2, p.2⟩

/-- Setting a key keeps the canonical form. -/
theorem Sparse.wf_set {α : Type} [DecidableEq α] (d : Nat → α) (k : Nat) (v : α) {m : List (Nat × α)}
    (h : Sparse.wf d m = true) : Sparse.wf d (Sparse.set d m k v) = true := by
  cases m with
  | nil =>
    unfold Sparse.set
    split
    · rfl
    · simp [Sparse.put, Sparse.wf, Sparse.above, *]
  | cons e m =>
    obtain ⟨a, w⟩ := e
    obtain ⟨hw, ha, hp⟩ := (Sparse.wf_cons d a w m).1 h
    unfold Sparse.set
    split
    · simp only [Sparse.erase]
      split
      · exact Sparse.wf_above d (Sparse.above_erase k ha) (Sparse.proper_erase d k hp)
      · exact (Sparse.wf_cons d a w _).2 ⟨hw, Sparse.above_erase k ha, Sparse.proper_erase d k hp⟩
    · rename_i hv
      simp only [Sparse.put]
      split
      · rename_i hk
        refine (Sparse.wf_cons d k v _).2 ⟨hv, ?_, ?_⟩
        · simp only [Sparse.above, Bool.and_eq_true, decide_eq_true_eq]
          exact ⟨hk, ha⟩
        · simp only [Sparse.proper, List.all_cons, Bool.and_eq_true]
          exact ⟨by simp [hw], hp⟩
      · split
        · rename_i hk
          subst hk
          exact (Sparse.wf_cons d a v _).2 ⟨hv, ha, hp⟩
        · refine (Sparse.wf_cons d a w _).2 ⟨hw, Sparse.above_put k v (by omega) ha, Sparse.proper_put d k v hv hp⟩

theorem Sparse.get_above {α : Type} (d : Nat → α) :
    ∀ {m : List (Nat × α)} {k : Nat}, Sparse.above k m = true → Sparse.get d m k = d k
  | [], _, _ => rfl
  | (a, v) :: m, k, h => by
    simp only [Sparse.above, Bool.and_eq_true, decide_eq_true_eq] at h
    have hn : a ≠ k := by omega
    simp only [Sparse.get, hn, if_false]
    exact Sparse.get_above d (Sparse.above_mono (Nat.le_of_lt h.1) h.2)

theorem Sparse.get_put_self {α : Type} (d : Nat → α) (k : Nat) (v : α) :
    ∀ (m : List (Nat × α)), Sparse.get d (Sparse.put k v m) k = v
  | [] => by simp [Sparse.put, Sparse.get]
  | (a, w) :: m => by
    simp only [Sparse.put]
    split
    · simp [Sparse.get]
    · split
      · simp [Sparse.get]
      · rename_i h
        simp only [Sparse.get, h, if_false]
        exact Sparse.get_put_self d k v m

theorem Sparse.get_put_other {α : Type} (d : Nat → α) (k : Nat) (v : α) {j : Nat} (hj : j ≠ k) :
    ∀ (m : List (Nat × α)), Sparse.get d (Sparse.put k v m) j = Sparse.get d m j
  | [] => by simp [Sparse.put, Sparse.get, Ne.symm hj]
  | (a, w) :: m => by
    simp only [Sparse.put]
    split
    · simp [Sparse.get, Ne.symm hj]
    · split
      · rename_i h
        subst h
        simp [Sparse.get, Ne.symm hj]
      · simp only [Sparse.get]
        split
        · rfl
        · exact Sparse.get_put_other d k v hj m

theorem Sparse.get_erase_other {α : Type} (d : Nat → α) (k : Nat) {j : Nat} (hj : j ≠ k) :
    ∀ (m : List (Nat × α)), Sparse.get d (Sparse.erase k m) j = Sparse.get d m j
  | [] => rfl
  | (a, w) :: m => by
    have ih := Sparse.get_erase_other d k hj m
    simp only [Sparse.erase]
    split
    · rename_i h
      subst h
      simp [Sparse.get, Ne.symm hj, ih]
    · simp only [Sparse.get, ih]

theorem Sparse.get_erase_self {α : Type} (d : Nat → α) (k : Nat) :
    ∀ (m : List (Nat × α)), Sparse.get d (Sparse.erase k m) k = d k
  | [] => rfl
  | (b, w) :: m => by
    simp only [Sparse.erase]
    split
    · exact Sparse.get_erase_self d k m
    · rename_i e
      simp only [Sparse.get, e, if_false]
      exact Sparse.get_erase_self d k m

theorem Sparse.wf_tail {α : Type} [DecidableEq α] (d : Nat → α) (e : Nat × α) (m : List (Nat × α))
    (h : Sparse.wf d (e :: m) = true) : Sparse.above e.1 m = true := by
  obtain ⟨a, v⟩ := e
  exact ((Sparse.wf_cons d a v m).1 h).2.1

/-- A read of the key set gives the value set. -/
theorem Sparse.get_set_self {α : Type} [DecidableEq α] (d : Nat → α) (k : Nat) (v : α) (m : List (Nat × α)) :
    Sparse.get d (Sparse.set d m k v) k = v := by
  unfold Sparse.set
  split
  · rename_i hv
    rw [Sparse.get_erase_self d k m, hv]
  · exact Sparse.get_put_self d k v m

/-- A read of another key is unchanged. -/
theorem Sparse.get_set_other {α : Type} [DecidableEq α] (d : Nat → α) (k : Nat) (v : α) {j : Nat} (hj : j ≠ k)
    (m : List (Nat × α)) : Sparse.get d (Sparse.set d m k v) j = Sparse.get d m j := by
  unfold Sparse.set
  split
  · exact Sparse.get_erase_other d k hj m
  · exact Sparse.get_put_other d k v hj m

/-! ### Memories -/

/-- A write keeps the canonical form. -/
theorem Memory.wf_write : ∀ {m : List Host.Cell} (a : Nat) (b : Bytes), Memory.wf m = true → Memory.wf (Memory.write m a b) = true
  | _, _, [], h => h
  | m, a, v :: bs, h => Memory.wf_write (a + 1) bs (Sparse.wf_set dramFill a v h)

theorem Sparse.above_filter {α : Type} (p : Nat × α → Bool) :
    ∀ {m : List (Nat × α)} {j : Nat}, Sparse.above j m = true → Sparse.above j (m.filter p) = true
  | [], _, _ => rfl
  | e :: m, j, h => by
    obtain ⟨a, v⟩ := e
    simp only [Sparse.above, Bool.and_eq_true, decide_eq_true_eq] at h
    simp only [List.filter]
    split
    · simp only [Sparse.above, Bool.and_eq_true, decide_eq_true_eq]
      exact ⟨h.1, Sparse.above_filter p h.2⟩
    · exact Sparse.above_mono (Nat.le_of_lt h.1) (Sparse.above_filter p h.2)

theorem Sparse.proper_filter {α : Type} [DecidableEq α] (d : Nat → α) (p : Nat × α → Bool) :
    ∀ {m : List (Nat × α)}, Sparse.proper d m = true → Sparse.proper d (m.filter p) = true
  | [], _ => rfl
  | e :: m, h => by
    simp only [Sparse.proper, List.all_cons, Bool.and_eq_true] at h
    simp only [List.filter]
    split
    · simp only [Sparse.proper, List.all_cons, Bool.and_eq_true]
      exact ⟨h.1, Sparse.proper_filter d p h.2⟩
    · exact Sparse.proper_filter d p h.2

/-- A wipe keeps the canonical form. -/
theorem Memory.wf_wipe {m : List Host.Cell} (a n : Nat) (h : Memory.wf m = true) : Memory.wf (Memory.wipe m a n) = true := by
  cases m with
  | nil => rfl
  | cons e m =>
    obtain ⟨k, v⟩ := e
    obtain ⟨hv, ha, hp⟩ := (Sparse.wf_cons dramFill k v m).1 h
    unfold Memory.wipe
    simp only [List.filter]
    split
    · exact (Sparse.wf_cons dramFill k v _).2 ⟨hv, Sparse.above_filter _ ha, Sparse.proper_filter dramFill _ hp⟩
    · exact Sparse.wf_above dramFill (Sparse.above_filter _ ha) (Sparse.proper_filter dramFill _ hp)

/-- A byte outside the bytes written reads as before. -/
theorem Memory.get_write_other {j : Nat} : ∀ (m : List Host.Cell) (a : Nat) (b : Bytes), ¬ (a ≤ j ∧ j < a + b.length) →
    Sparse.get dramFill (Memory.write m a b) j = Sparse.get dramFill m j
  | _, _, [], _ => rfl
  | m, a, v :: bs, h => by
    have hl : (v :: bs).length = bs.length + 1 := rfl
    rw [hl] at h
    show Sparse.get dramFill (Memory.write (Sparse.set dramFill m a v) (a + 1) bs) j = _
    rw [Memory.get_write_other _ (a + 1) bs (by omega), Sparse.get_set_other dramFill a v (by omega)]

/-- A read of the bytes written gives them. -/
theorem Memory.read_write_self : ∀ (m : List Host.Cell) (a : Nat) (b : Bytes), Memory.read (Memory.write m a b) a b.length = b
  | _, _, [] => rfl
  | m, a, v :: bs => by
    show Sparse.get dramFill (Memory.write (Sparse.set dramFill m a v) (a + 1) bs) a ::
      Memory.read (Memory.write (Sparse.set dramFill m a v) (a + 1) bs) (a + 1) bs.length = v :: bs
    rw [Memory.get_write_other _ (a + 1) bs (by omega), Sparse.get_set_self dramFill a v m, Memory.read_write_self _ (a + 1) bs]

/-- A filter by key hides every key it drops, and no other. -/
theorem Sparse.get_filter {α : Type} (d : Nat → α) (p : Nat → Bool) (k : Nat) : ∀ m : List (Nat × α),
    Sparse.get d (m.filter fun e => p e.1) k = if p k then Sparse.get d m k else d k
  | [] => by simp [Sparse.get]
  | (a, v) :: m => by
    have ih := Sparse.get_filter d p k m
    by_cases h : p a
    · rw [List.filter_cons_of_pos (by simpa using h)]
      simp only [Sparse.get]
      by_cases e : a = k
      · subst e; simp [h]
      · simp [e, ih]
    · rw [List.filter_cons_of_neg (by simpa using h), ih]
      by_cases e : a = k
      · subst e; simp [h]
      · simp [Sparse.get, e]
theorem Sparse.get_filter_out {α : Type} (d : Nat → α) (k : Nat) (p : Nat → Bool) (h : p k = false) (m : List (Nat × α)) :
    Sparse.get d (m.filter fun e => p e.1) k = d k := by
  rw [Sparse.get_filter, h]; rfl

/-- A register keeps reading what was written to it. -/
theorem State.reg_setReg (s : State) (off : Nat) (w : Word) : (s.setReg off w).reg off = w :=
  Sparse.get_set_self resetWord off w s.regs

/-- Any other register reads as before. -/
theorem State.reg_setReg_other (s : State) (off : Nat) (w : Word) {j : Nat} (hj : j ≠ off) :
    (s.setReg off w).reg j = s.reg j := Sparse.get_set_other resetWord off w hj s.regs

end Sys2Proof.Machine
end

