-- ==== Sys2Proof/Laws/Bits.lean ====
section
/-! SUPPORT. Fields of register words: what a field reads after it, or another, is put in place. -/

namespace Sys2Proof.Machine

open Sys2Proof

/-- A number is its part above a field, the field, and its part below. -/
theorem split_field (n L K : Nat) : n = L * K * (n / (L * K)) + L * (n / L % K) + n % L := by
  have h1 := Nat.div_add_mod n L
  have h2 := Nat.div_add_mod (n / L) K
  rw [Nat.div_div_eq_div_mul] at h2
  have h3 : L * (n / L) = L * K * (n / (L * K)) + L * (n / L % K) := by
    conv_lhs => rw [← h2]
    rw [Nat.mul_add, Nat.mul_assoc]
  omega

/-- The word with a field replaced, as the sum of its parts. -/
theorem putBits_toNat (w : Word) (hi lo v : Nat) (h : lo ≤ hi) (h32 : hi < 32) :
    (putBits w hi lo v).toNat = 2 ^ lo * 2 ^ (hi + 1 - lo) * (w.toNat / (2 ^ lo * 2 ^ (hi + 1 - lo))) +
      2 ^ lo * (v % 2 ^ (hi + 1 - lo)) + w.toNat % 2 ^ lo := by
  have hs := split_field w.toNat (2 ^ lo) (2 ^ (hi + 1 - lo))
  have hf : bitsOf w.toNat hi lo = w.toNat / 2 ^ lo % 2 ^ (hi + 1 - lo) := by
    unfold bitsOf
    rw [Nat.shiftRight_eq_div_pow]
  unfold putBits
  rw [BitVec.toNat_ofNat, hf]
  have hL : 0 < 2 ^ lo := Nat.two_pow_pos lo
  have hK : 0 < 2 ^ (hi + 1 - lo) := Nat.two_pow_pos _
  have hp : 2 ^ lo * 2 ^ (hi + 1 - lo) = 2 ^ (hi + 1) := by rw [← Nat.pow_add]; congr 1; omega
  have hv : v % 2 ^ (hi + 1 - lo) < 2 ^ (hi + 1 - lo) := Nat.mod_lt _ hK
  have hb : w.toNat % 2 ^ lo < 2 ^ lo := Nat.mod_lt _ hL
  have hw : w.toNat < 2 ^ 32 := w.isLt
  have hA : w.toNat / 2 ^ (hi + 1) < 2 ^ (31 - hi) := by
    apply Nat.div_lt_of_lt_mul
    rw [← Nat.pow_add]
    have : hi + 1 + (31 - hi) = 32 := by omega
    rw [this]; exact hw
  rw [hp] at hs ⊢
  have e : w.toNat - w.toNat / 2 ^ lo % 2 ^ (hi + 1 - lo) * 2 ^ lo + v % 2 ^ (hi + 1 - lo) * 2 ^ lo =
      2 ^ (hi + 1) * (w.toNat / 2 ^ (hi + 1)) + 2 ^ lo * (v % 2 ^ (hi + 1 - lo)) + w.toNat % 2 ^ lo := by
    rw [Nat.mul_comm (w.toNat / 2 ^ lo % 2 ^ (hi + 1 - lo)), Nat.mul_comm (v % 2 ^ (hi + 1 - lo))]
    omega
  rw [e]
  apply Nat.mod_eq_of_lt
  have h1 : 2 ^ lo * (v % 2 ^ (hi + 1 - lo)) + 2 ^ lo ≤ 2 ^ (hi + 1) := by
    rw [← hp, ← Nat.mul_succ]
    exact Nat.mul_le_mul_left _ hv
  have h2 : 2 ^ (hi + 1) * (w.toNat / 2 ^ (hi + 1)) + 2 ^ (hi + 1) ≤ 2 ^ 32 := by
    rw [← Nat.mul_succ]
    have : 2 ^ 32 = 2 ^ (hi + 1) * 2 ^ (31 - hi) := by rw [← Nat.pow_add]; congr 1; omega
    rw [this]
    exact Nat.mul_le_mul_left _ hA
  omega

/-- A field replaced reads the low bits of what was put there. -/
theorem bitsOf_putBits_self (w : Word) (hi lo v : Nat) (h : lo ≤ hi) (h32 : hi < 32) :
    bitsOf (putBits w hi lo v).toNat hi lo = v % 2 ^ (hi + 1 - lo) := by
  unfold bitsOf
  rw [putBits_toNat w hi lo v h h32, Nat.shiftRight_eq_div_pow]
  have hL : 0 < 2 ^ lo := Nat.two_pow_pos lo
  have e : (2 ^ lo * 2 ^ (hi + 1 - lo) * (w.toNat / (2 ^ lo * 2 ^ (hi + 1 - lo))) + 2 ^ lo * (v % 2 ^ (hi + 1 - lo)) + w.toNat % 2 ^ lo) / 2 ^ lo =
      2 ^ (hi + 1 - lo) * (w.toNat / (2 ^ lo * 2 ^ (hi + 1 - lo))) + v % 2 ^ (hi + 1 - lo) := by
    rw [Nat.mul_assoc, ← Nat.mul_add, Nat.mul_add_div hL, Nat.div_eq_of_lt (Nat.mod_lt _ hL), Nat.add_zero]
  rw [e, Nat.mul_add_mod, Nat.mod_mod]

/-- A field apart from the one replaced reads as before. -/
theorem bitsOf_putBits_other (w : Word) (hi lo v hi' lo' : Nat) (h : lo ≤ hi) (h32 : hi < 32) (h' : lo' ≤ hi')
    (hd : hi < lo' ∨ hi' < lo) : bitsOf (putBits w hi lo v).toNat hi' lo' = bitsOf w.toNat hi' lo' := by
  unfold bitsOf
  rw [putBits_toNat w hi lo v h h32, Nat.shiftRight_eq_div_pow, Nat.shiftRight_eq_div_pow]
  have hL : 0 < 2 ^ lo := Nat.two_pow_pos lo
  have hK : 0 < 2 ^ (hi + 1 - lo) := Nat.two_pow_pos _
  have hp : 2 ^ lo * 2 ^ (hi + 1 - lo) = 2 ^ (hi + 1) := by rw [← Nat.pow_add]; congr 1; omega
  have hv : v % 2 ^ (hi + 1 - lo) < 2 ^ (hi + 1 - lo) := Nat.mod_lt _ hK
  have hb : w.toNat % 2 ^ lo < 2 ^ lo := Nat.mod_lt _ hL
  rcases hd with hd | hd
  · have q : 2 ^ lo' = 2 ^ (hi + 1) * 2 ^ (lo' - (hi + 1)) := by rw [← Nat.pow_add]; congr 1; omega
    have h1 : 2 ^ lo * (v % 2 ^ (hi + 1 - lo)) + 2 ^ lo ≤ 2 ^ (hi + 1) := by
      rw [← hp, ← Nat.mul_succ]
      exact Nat.mul_le_mul_left _ hv
    have h2 : 2 ^ lo * (v % 2 ^ (hi + 1 - lo)) + w.toNat % 2 ^ lo < 2 ^ (hi + 1) := by omega
    have e : (2 ^ (hi + 1) * (w.toNat / 2 ^ (hi + 1)) + 2 ^ lo * (v % 2 ^ (hi + 1 - lo)) + w.toNat % 2 ^ lo) / 2 ^ (hi + 1) =
        w.toNat / 2 ^ (hi + 1) := by
      rw [Nat.add_assoc, Nat.mul_add_div (Nat.two_pow_pos _), Nat.div_eq_of_lt h2, Nat.add_zero]
    rw [hp, q, ← Nat.div_div_eq_div_mul, e, Nat.div_div_eq_div_mul]
  · have q : 2 ^ lo = 2 ^ lo' * 2 ^ (hi' + 1 - lo') * 2 ^ (lo - (hi' + 1)) := by
      rw [← Nat.pow_add, ← Nat.pow_add]; congr 1; omega
    have k (x : Nat) : (2 ^ lo * x + w.toNat % 2 ^ lo) / 2 ^ lo' % 2 ^ (hi' + 1 - lo') = w.toNat / 2 ^ lo' % 2 ^ (hi' + 1 - lo') := by
      rw [← Nat.mod_mul_right_div_self, ← Nat.mod_mul_right_div_self]
      congr 1
      rw [q, Nat.mul_assoc (2 ^ lo' * _), Nat.mul_add_mod]
      exact Nat.mod_mul_right_mod _ _ _
    rw [Nat.mul_assoc, ← Nat.mul_add]
    exact k _

end Sys2Proof.Machine
end

