-- ==== Sys2Proof/Laws/Dealer.lean ====
section
/-! SUPPORT. What the Dealer does with a submission that passes steps 1 to 4. -/

namespace Sys2Proof.Machine

open Sys2Proof

theorem vector_get_set {α : Type} {n : Nat} (v : Vector α n) (i j : Fin n) (x : α) :
    (v.set i x).get j = if i = j then x else v.get j := by
  simp only [Vector.get, Vector.set, Fin.ext_iff]
  exact Array.getElem_set _ _

@[simp] theorem State.ring_onRing_self (r : RingId) (f : Ring → Ring) (s : State) : (s.onRing r f).ring r = f (s.ring r) := by
  simp [State.ring, State.onRing, vector_get_set]
theorem State.ring_onRing_other {r r' : RingId} (h : r ≠ r') (f : Ring → Ring) (s : State) : (s.onRing r f).ring r' = s.ring r' := by
  simp [State.ring, State.onRing, vector_get_set, h]
theorem State.ring_onRing (r r' : RingId) (f : Ring → Ring) (s : State) :
    (s.onRing r f).ring r' = if r = r' then f (s.ring r) else s.ring r' := by
  by_cases h : r = r'
  · subst h; simp
  · rw [State.ring_onRing_other h, if_neg h]

/-- Reading a command changes no ring but in its SQ_HEAD. -/
theorem State.ring_fetched (q : Submission) (s : State) (r : RingId) :
    (s.fetched q).ring r = { s.ring r with
      sqHead := if q.ring = r then ((s.ring r).sqHead + 1) % (s.ring r).entries else (s.ring r).sqHead } := by
  unfold State.fetched
  rw [State.ring_onRing]
  by_cases h : q.ring = r
  · subst h; rw [if_pos rfl, if_pos rfl]; rfl
  · rw [if_neg h, if_neg h]; rfl

theorem State.waitsMet_fetched (q : Submission) (s : State) (r : RingId) (c : Cmd) : (s.fetched q).waitsMet r c = s.waitsMet r c := by
  simp only [State.waitsMet, State.ring_fetched]
theorem State.waitTagKnown_fetched (q : Submission) (s : State) (c : Cmd) : (s.fetched q).waitTagKnown c = s.waitTagKnown c := by
  simp only [State.waitTagKnown, State.ring_fetched]

/-- A command that is read goes to the Dealer's steps with its number and its place in the queue. -/
theorem State.dealerRun_readable (op : Nat) (q : Submission) (body : Body) (s : State) (h : s.readable op q) :
    s.dealerRun op q body = (s.fetched q).dealerSteps op q.cmd (s.refOf op q) body := by
  obtain ⟨h1, h2, h3⟩ := h
  unfold State.dealerRun
  cases hl : (s.ring q.ring).isLocal
  · simp [h1, hl, h2 hl, State.fetched, State.refOf]
  · simp [h1, hl, (h3 hl).1, (h3 hl).2, State.fetched, State.refOf]

/-- A command that clears steps 1 to 3 comes to step 4. -/
theorem State.dealerSteps_clears (op : Nat) (q : Submission) (body : Body) (s : State) (h : s.clears op q) :
    (s.fetched q).dealerSteps op q.cmd (s.refOf op q) body = (s.fetched q).dealerCheck op q.cmd (s.refOf op q) body := by
  obtain ⟨h1, h2, h3, h4⟩ := h
  unfold State.dealerSteps
  have hw : ((s.fetched q).ring (s.refOf op q).ring).window.find? (fun w => w.cmd.tag = q.cmd.tag) = none := by
    rw [State.ring_fetched]
    exact List.find?_eq_none.mpr fun w hw => by simpa using h2 w hw
  simp only [h1, hw, State.waitsMet_fetched, State.waitTagKnown_fetched]
  have h5 : s.waitsMet (s.refOf op q).ring q.cmd = true := h4
  cases he : waitEn q.cmd
  · simp [h5]
  · simp [h3 he, h5]

/-- A command that passes steps 1 to 4 comes to its own checks and action. -/
theorem State.dealerRun_passes (op : Nat) (q : Submission) (body : Body) (s : State) (h : s.passes op q) :
    s.dealerRun op q body =
      (let t := body q.cmd (s.refOf op q) (s.taken op q)
       if s.lockedPrimary && primaryOnly op q.cmd && decide ((t.ring q.ring).acceptedCount ≠ (s.ring q.ring).acceptedCount)
         then t.emit (.partner (.command op q.cmd)) else t) := by
  obtain ⟨h1, h2, h3, h4, h5⟩ := h
  rw [State.dealerRun_readable op q body s h1, State.dealerSteps_clears op q body s h2]
  have e : (s.fetched q).enterWindow op q.cmd (s.refOf op q) = s.taken op q := rfl
  have l : legalIn op (s.taken op q).dev.state = true := h3
  have p : (s.taken op q).lockedSecondary = s.lockedSecondary := rfl
  have p' : (s.taken op q).lockedPrimary = s.lockedPrimary := rfl
  have a : ((s.taken op q).ring q.ring).acceptedCount = (s.ring q.ring).acceptedCount := by
    simp [State.taken, State.ring_fetched]
  have n : (namesTile op && decide (15 < par q.cmd 8 1)) = false := by
    cases hn : namesTile op
    · rfl
    · have := h5 hn
      simp only [Bool.true_and, decide_eq_false_iff_not]
      omega
  have k : (s.lockedSecondary && primaryOnly op q.cmd) = false := by
    cases hk : s.lockedSecondary
    · rfl
    · simp [h4 hk]
  have r : (s.refOf op q).ring = q.ring := rfl
  unfold State.dealerCheck
  rw [e]
  simp only [l, p, p', a, n, k, r, Bool.not_true, Bool.false_eq_true, if_false]

/-- Acceptance counts one command more. -/
theorem count_moves (n : Nat) : (n + 1) % 2 ^ 32 ≠ n := by omega

/-- A command whose action accepts it: the partner is told where R334 says so. -/
theorem State.dealerRun_accepts (op : Nat) (q : Submission) (body : Body) (s t : State) (h : s.passes op q)
    (ht : body q.cmd (s.refOf op q) (s.taken op q) = t)
    (ha : (t.ring q.ring).acceptedCount = ((s.accepted op q).ring q.ring).acceptedCount) :
    s.dealerRun op q body = s.told op q t := by
  rw [State.dealerRun_passes op q body s h]
  have c : ((s.accepted op q).ring q.ring).acceptedCount = ((s.ring q.ring).acceptedCount + 1) % 2 ^ 32 := by
    simp [State.accepted, State.taken, State.ring_fetched]
  simp only [ht, ha, c, State.told, count_moves, ne_eq, not_false_eq_true, decide_true, Bool.and_true]

/-- Steps 5 and 6 pass: no stray byte, no failing check. -/
theorem checked_ok (used : List (Nat × Nat)) (checks : List (Bool × Status × Nat)) (q : Submission) (ref : CmdRef)
    (ok : State → State) (s : State) (h : tidy q used) (k : firstFail checks = none) : checked used checks q.cmd ref ok s = ok s := by
  have h' : unusedByte used q.cmd = none := h
  simp only [checked, h', k]

end Sys2Proof.Machine
end

