-- ==== Sys2Proof/Laws/Events.lean ====
section
/-! SUPPORT. What posting a record can do: it changes the interrupt controller, the emissions, the memory of the core rings
and the host's pending bits, and nothing else. -/

namespace Sys2Proof.Machine

open Sys2Proof

/-- Nothing outside the event path differs, and the core rings' memory keeps its canonical form. -/
def Posts (s t : State) : Prop := t.outside = s.outside ∧ (Memory.wf s.coreMem = true → Memory.wf t.coreMem = true)

theorem Posts.refl (s : State) : Posts s s := ⟨rfl, id⟩
theorem Posts.trans {s t u : State} (h : Posts s t) (k : Posts t u) : Posts s u := ⟨k.1.trans h.1, fun w => k.2 (h.2 w)⟩
theorem Posts.ite {p : Prop} [Decidable p] {s t u : State} (h : Posts s t) (k : Posts s u) : Posts s (if p then t else u) := by
  split <;> assumption
theorem Posts.foldl {α : Type} {f : State → α → State} (h : ∀ s a, Posts s (f s a)) (l : List α) (s : State) :
    Posts s (l.foldl f s) := by
  induction l generalizing s with
  | nil => exact Posts.refl s
  | cons a l ih => exact (h s a).trans (ih (f s a))
theorem Posts.each {α : Type} {f : α → State → State} (h : ∀ a s, Posts s (f a s)) (l : List α) (s : State) :
    Posts s (forEach l f s) := Posts.foldl (fun s a => h a s) l s

theorem posts_onIntc (f : Intc → Intc) (s : State) : Posts s (s.onIntc f) := ⟨rfl, id⟩
theorem posts_onEvq (q : QueueId) (f : Evq → Evq) (s : State) : Posts s (s.onEvq q f) := ⟨rfl, id⟩
theorem posts_onCore (h : Fin 2) (f : CoreHand → CoreHand) (s : State) : Posts s (s.onCore h f) := ⟨rfl, id⟩
theorem posts_emit (e : Emission) (s : State) : Posts s (s.emit e) := ⟨rfl, id⟩

theorem posts_writeRecord (q : QueueId) (ev : Event) (a b : Bool) (s : State) : Posts s (s.writeRecord q ev a b) := by
  unfold State.writeRecord
  refine Posts.trans ?_ ((posts_onEvq _ _ _).trans (posts_onIntc _ _))
  split
  · exact posts_emit _ _
  · exact ⟨rfl, fun h => Memory.wf_write _ _ h⟩

theorem posts_markLost (q : QueueId) (s : State) : Posts s (s.markLost q).1 := posts_onEvq _ _ _

theorem Posts.fst_ite {β : Type} {p : Prop} [Decidable p] {s : State} {a b : State × β} (h : Posts s a.1) (k : Posts s b.1) :
    Posts s (if p then a else b).1 := by
  split <;> assumption

theorem posts_markAll : ∀ (l : List QueueId) (s : State) (fs : List FollowUp),
    Posts s (l.foldl (fun (acc : State × List FollowUp) q => ((acc.1.markLost q).1, acc.2 ++ (acc.1.markLost q).2)) (s, fs)).1
  | [], s, _ => Posts.refl s
  | q :: l, s, _ => (posts_markLost q s).trans (posts_markAll l _ _)

theorem posts_stage (ev : Event) (h : Option Nat) (c : Bool) (s : State) : Posts s (s.stage ev h c).1 := by
  unfold State.stage
  refine Posts.fst_ite (Posts.fst_ite ?_ ?_) ?_
  · exact (posts_onIntc _ _).trans (posts_onIntc _ _)
  · exact posts_onIntc _ _
  · exact (posts_onIntc (fun i => { i with lost := satAdd 0xFFFF i.lost 1 }) s).trans (posts_markAll _ _ [])

theorem posts_sendMessage (q : QueueId) (s : State) : Posts s (s.sendMessage q) := by
  unfold State.sendMessage
  dsimp only
  split
  · exact (posts_onEvq _ _ _).trans ⟨rfl, id⟩
  · exact (posts_onEvq _ _ _).trans (posts_emit _ _)

theorem posts_tryMessage (q : QueueId) (s : State) : Posts s (s.tryMessage q) := by
  unfold State.tryMessage
  dsimp only
  split
  · exact posts_sendMessage q s
  · exact Posts.refl s

theorem posts_signalPme (q : QueueId) (s : State) : Posts s (s.signalPme q) := Posts.ite ⟨rfl, id⟩ (Posts.refl s)

theorem posts_stall (c : Bool) (q : QueueId) (f : Evq → Evq) (s : State) : Posts s (if c = true then s.onEvq q f else s) :=
  Posts.ite (posts_onEvq q f s) (Posts.refl s)

theorem posts_land (h : Nat) (ev : Event) (g : Bool) (s : State) : Posts s (s.land h ev g).1 := by
  unfold State.land
  dsimp only
  split
  · exact posts_writeRecord _ _ _ _ _
  · split
    · exact (posts_onEvq _ _ _).trans (posts_stage _ _ _ _)
    · split
      · exact (posts_onEvq _ _ _).trans ((posts_signalPme _ _).trans (posts_stage _ _ _ _))
      · exact (posts_stall _ _ _ _).trans ((posts_signalPme _ _).trans (posts_stage _ _ _ _))

theorem posts_notify (h src : Nat) (s : State) : Posts s (s.notify h src) := by
  unfold State.notify
  split
  · exact posts_onCore _ _ _
  · exact (posts_onEvq _ _ _).trans (posts_tryMessage _ _)

theorem posts_notifyPrivileged (h src : Nat) (s : State) : Posts s (s.notifyPrivileged h src) := by
  unfold State.notifyPrivileged
  dsimp only
  split
  · exact posts_onIntc _ _
  · exact (posts_notify h src s).trans (posts_onIntc _ _)

theorem posts_closeWindow (src : Nat) (tell : Bool) (s : State) : Posts s (s.closeWindow src tell) := by
  unfold State.closeWindow
  split
  · exact Posts.refl s
  · dsimp only
    split
    · exact (posts_onIntc _ _).trans (posts_notify _ _ _)
    · exact posts_onIntc _ _

theorem posts_setLastHand (src h : Nat) (s : State) : Posts s (s.setLastHand src h) := ⟨rfl, id⟩

theorem posts_route (ev : Event) (g : Bool) (s : State) (r : State × List FollowUp) (h : s.route ev g = some r) : Posts s r.1 := by
  unfold State.route at h
  split at h
  · split at h
    · cases h
      exact Posts.fst_ite (((posts_onIntc _ _).trans (posts_land _ _ _ _)).trans (posts_closeWindow _ _ _))
        ((posts_onIntc _ _).trans (posts_land _ _ _ _))
    · split at h
      · cases h
      · cases h
        exact Posts.fst_ite
          (((posts_setLastHand _ _ _).trans ((posts_onIntc _ _).trans (posts_land _ _ _ _))).trans (posts_closeWindow _ _ _))
          ((posts_setLastHand _ _ _).trans ((posts_onIntc _ _).trans (posts_land _ _ _ _)))
  · split at h
    · cases h
    · cases h
      exact (posts_setLastHand _ _ _).trans ((posts_land _ _ _ _).trans (posts_notifyPrivileged _ _ _))

theorem posts_discardRecord (s : State) : Posts s s.discardRecord := posts_onIntc _ _

theorem posts_postOne (ev : Event) (s : State) : Posts s (s.postOne ev).1 := by
  unfold State.postOne
  split
  · split
    · exact posts_stage _ _ _ _
    · exact posts_discardRecord s
  · split
    · exact posts_route _ _ _ _ ‹_›
    · split
      · exact posts_discardRecord s
      · exact posts_stage _ _ _ _

theorem posts_postDeep : ∀ (k : Nat) (f : FollowUp) (s : State), Posts s (s.postDeep k f)
  | 0, _, s => Posts.refl s
  | k + 1, f, s => by
    unfold State.postDeep
    exact (posts_postOne _ s).trans (Posts.foldl (fun s f => posts_postDeep k f s) _ _)

/-- Posting a record changes the event path alone. -/
theorem posts_post (type src : Nat) (p : Bytes) (s : State) : Posts s (s.post type src p) := posts_postDeep 16 _ s

theorem posts_writeFails (q : QueueId) (s : State) : Posts s (s.writeFails q) := by
  unfold State.writeFails
  exact (posts_onEvq _ _ _).trans (posts_post _ _ _ _)

theorem posts_drainQueue (q : QueueId) : ∀ (k : Nat) (s : State), Posts s (s.drainQueue q k)
  | 0, s => Posts.refl s
  | k + 1, s => by
    unfold State.drainQueue
    split
    · exact posts_onEvq _ _ _
    · dsimp only
      split
      · exact (posts_onIntc _ _).trans ((posts_writeRecord _ _ _ _ _).trans (posts_drainQueue q k _))
      · exact Posts.ite (posts_writeFails q s) (posts_onEvq _ _ _)

theorem posts_drainAll (s : State) : Posts s s.drainAll := Posts.each (fun q s => posts_drainQueue q _ s) _ s

theorem posts_routeStaged (s : State) : Posts s s.routeStaged := by
  unfold State.routeStaged
  refine Posts.foldl (fun s r => ?_) _ s
  split
  · exact Posts.refl s
  · dsimp only
    split
    · exact ((posts_onIntc _ _).trans (posts_route _ _ _ _ ‹_›)).trans (Posts.foldl (fun s f => posts_post _ _ _ s) _ _)
    · exact Posts.refl s

theorem posts_refillLowWater (s : State) : Posts s s.refillLowWater := by
  unfold State.refillLowWater
  split
  · exact posts_onIntc _ _
  · exact Posts.refl s

theorem posts_arbitrateAll (s : State) : Posts s s.arbitrateAll := by
  unfold State.arbitrateAll
  refine Posts.each (fun h s => ?_) _ s
  split
  · exact Posts.refl s
  · unfold State.arbitrate
    split
    · exact Posts.refl s
    · dsimp only
      split
      · exact Posts.refl s
      · exact posts_onCore _ _ _

theorem posts_closeLostWindows (s : State) : Posts s s.closeLostWindows := by
  unfold State.closeLostWindows
  refine Posts.foldl (fun s w => ?_) _ s
  split
  · exact Posts.refl s
  · exact posts_closeWindow _ _ _

/-! ### Raises -/

/-- Nothing beyond the event path, the fault collector and the audit status differs. -/
def Follows (s t : State) : Prop :=
  t.beyond = s.beyond ∧ SameRegs s t ∧ (Memory.wf s.coreMem = true → Memory.wf t.coreMem = true)

theorem Follows.refl (s : State) : Follows s s := ⟨rfl, fun _ _ => rfl, id⟩
theorem Follows.trans {s t u : State} (h : Follows s t) (k : Follows t u) : Follows s u :=
  ⟨k.1.trans h.1, fun o n => (k.2.1 o n).trans (h.2.1 o n), fun w => k.2.2 (h.2.2 w)⟩
theorem Posts.follows {s t : State} (h : Posts s t) : Follows s t := by
  have e := h.1
  have r0 := congrArg (fun x : State => x.regs) e
  have r : t.regs = s.regs := r0
  have d0 := congrArg (fun x : State => x.dev) e
  have d : t.dev = s.dev := d0
  refine ⟨?_, fun o _ => ?_, h.2⟩
  · unfold State.beyond
    rw [e, d]
  · unfold State.reg
    rw [r]
theorem follows_onFaults (f : Faults → Faults) (s : State) : Follows s (s.onFaults f) := ⟨rfl, fun _ _ => rfl, id⟩
theorem Follows.each {α : Type} {f : α → State → State} (h : ∀ a s, Follows s (f a s)) (l : List α) (s : State) :
    Follows s (forEach l f s) := by
  unfold forEach
  induction l generalizing s with
  | nil => exact Follows.refl s
  | cons a l ih => exact (h a s).trans (ih (f a s))

theorem follows_latch (e : FirstErr) (s : State) : Follows s (s.latch e).1 := by
  unfold State.latch
  split
  · exact follows_onFaults _ _
  · split <;> exact follows_onFaults _ _

theorem follows_startTimer (s : State) : Follows s s.startTimer := follows_onFaults _ _

theorem Follows.ite {p : Prop} [Decidable p] {s t u : State} (h : Follows s t) (k : Follows s u) :
    Follows s (if p then t else u) := by
  split <;> assumption
theorem Follows.fst_ite {β : Type} {p : Prop} [Decidable p] {s : State} {a b : State × β} (h : Follows s a.1)
    (k : Follows s b.1) : Follows s (if p then a else b).1 := by
  split <;> assumption

theorem follows_raiseAs (i c d : Nat) (a b : Bool) (s : State) : Follows s (s.raiseAs i c d a b) := by
  unfold State.raiseAs
  exact (((follows_onFaults _ s).trans (Follows.fst_ite (follows_latch _ _) (Follows.refl _))).trans
    (Follows.ite (posts_post _ _ _ _).follows (Follows.refl _))).trans (Follows.ite (follows_startTimer _) (Follows.refl _))

/-- A raise changes the event path and the fault collector alone. -/
theorem follows_raise (i d : Nat) (s : State) : Follows s (s.raise i d) := by
  unfold State.raise
  dsimp only
  split
  · exact Follows.refl s
  · exact follows_raiseAs _ _ _ _ _ s

end Sys2Proof.Machine
end

