-- ==== Sys2Proof/Laws/Settle.lean ====
section
/-! SUPPORT. What the end of a command can do: where no entry to SAFE_LIGHT or FATAL stands due, it changes the event path,
the fault collector and the audit status alone. -/

namespace Sys2Proof.Machine

open Sys2Proof

theorem follows_setAuditStat (w : Word) (s : State) : Follows s (s.setReg Reg.DEV_AUDIT_STAT w) :=
  ⟨rfl, fun _ h => State.reg_setReg_other s _ w h, id⟩

theorem follows_setFlag (bit : Nat) (s : State) : Follows s (s.setFlag Reg.DEV_AUDIT_STAT bit) := follows_setAuditStat _ s
theorem follows_addSat (hi lo k : Nat) (s : State) : Follows s (s.addSat Reg.DEV_AUDIT_STAT hi lo k) := follows_setAuditStat _ s
theorem follows_reported (r : Nat × Nat) (s : State) : Follows s (s.onDev fun d => { d with reported := r :: d.reported }) :=
  ⟨rfl, fun _ _ => rfl, id⟩

theorem follows_audit (kind i : Nat) (ok : Bool) (s : State) : Follows s (s.audit kind i ok) := by
  unfold State.audit
  split
  · exact Follows.refl s
  · dsimp only
    refine Follows.trans ?_ (follows_raise _ _ _)
    refine Follows.trans ?_ (follows_reported _ _)
    exact (follows_setFlag kind s).trans (follows_addSat _ _ _ _)

theorem follows_evqAudits (s : State) : Follows s s.evqAudits := by
  unfold State.evqAudits
  exact ((posts_onIntc _ s).follows).trans (Follows.each (fun q s => follows_audit _ _ _ s) _ _)

theorem follows_drivePins (s : State) : Follows s s.drivePins := by
  unfold State.drivePins
  dsimp only
  split
  · exact Follows.refl s
  · exact (follows_onFaults _ s).trans (posts_emit _ _).follows

/-- No entry due: taking the due entries leaves the state as it is. -/
theorem dueEntries_quiet (s : State) (h : s.quiet) : s.dueEntries = s.onFaults fun f => { f with fatalDue := none, safeDue := none } := by
  unfold State.dueEntries
  simp only [h.1, h.2, ite_self]

/-- The end of a command, where no entry stands due. -/
theorem follows_settle (s : State) (h : s.quiet) : Follows s s.settle := by
  unfold State.settle
  rw [dueEntries_quiet s h]
  exact (follows_onFaults _ s).trans (((((((posts_closeLostWindows _).trans (posts_routeStaged _)).trans (posts_drainAll _)).trans
    (posts_refillLowWater _)).follows.trans (follows_evqAudits _)).trans (posts_arbitrateAll _).follows).trans (follows_drivePins _))

/-- The pins follow at the end of every command (14 R322). -/
theorem drivePins_follow (s : State) : s.drivePins.pinsFollow := by
  unfold State.drivePins State.pinsFollow
  dsimp only
  split
  · next h => exact h.symm
  · rfl

theorem settle_pinsFollow (s : State) : s.settle.pinsFollow := drivePins_follow _

/-! ### What a raise makes due (14 R318) -/

theorem latch_due (e : FirstErr) (s : State) : (s.latch e).1.faults.safeDue = s.faults.safeDue ∧
    (s.latch e).1.faults.fatalDue = s.faults.fatalDue := by
  unfold State.latch
  split
  · exact ⟨rfl, rfl⟩
  · split <;> exact ⟨rfl, rfl⟩

/-- A raise makes no entry to SAFE_LIGHT due, and an entry to FATAL only where its class is F. -/
theorem raiseAs_due (i c d : Nat) (a b : Bool) (s : State) : (s.raiseAs i c d a b).faults.safeDue = s.faults.safeDue ∧
    (c ≠ 4 → (s.raiseAs i c d a b).faults.fatalDue = s.faults.fatalDue) := by
  let x := s.onFaults fun f => { f with
    pend := if 2 ≤ c then f.pend ||| (1#128 <<< i) else f.pend
    real := if 2 ≤ c ∧ ¬a then f.real ||| (1#128 <<< i) else f.real
    cntC := if c = 1 then satAdd 0xFFFF f.cntC 1 else f.cntC
    cntD := if c = 2 then satAdd 0xFFFF f.cntD 1 else f.cntD
    localNext := if localInput i ∧ s.dev.state = .safeLight then f.localNext ||| (1#4 <<< ((i - 48) / 16)) else f.localNext
    fatalDue := if c = 4 ∧ ¬a ∧ f.fatalDue.isNone then some 0x0C else f.fatalDue }
  let r := if (decide (c ≠ 1) || x.bit Reg.FLT_CFG 10) = true then x.latch ⟨i, c, d, b, a, x.lamp, false⟩ else (x, false)
  let y := if (decide (c ≠ 1) || r.1.bit Reg.FLT_CFG 11) = true then r.1.faultRecord i c d r.2 a b else r.1
  have e : s.raiseAs i c d a b = if ¬a ∧ s.faults.urgent = 0 ∧ y.faults.urgent ≠ 0 then y.startTimer else y := rfl
  have hr : r.1.faults.safeDue = x.faults.safeDue ∧ r.1.faults.fatalDue = x.faults.fatalDue := by
    show (if _ then _ else _ : State × Bool).1.faults.safeDue = _ ∧ (if _ then _ else _ : State × Bool).1.faults.fatalDue = _
    split
    · exact latch_due _ _
    · exact ⟨rfl, rfl⟩
  have hy : y.faults = r.1.faults := by
    show (if _ then _ else _ : State).faults = _
    split
    · have z := congrArg (fun z : State => z.faults) (posts_post 0x90 (15 + c) (le 1 i ++ le 1 (c + 32 * b2n r.2 + 64 * b2n a + 128 * b2n b) ++
        le 2 d ++ le 1 (countClass r.1.faults.pend 3) ++ zeros 3 ++ le 8 (r.1.lamp % 2 ^ 64)) r.1).1
      exact z
    · rfl
  have ht : (if ¬a ∧ s.faults.urgent = 0 ∧ y.faults.urgent ≠ 0 then y.startTimer else y).faults.safeDue = y.faults.safeDue ∧
      (if ¬a ∧ s.faults.urgent = 0 ∧ y.faults.urgent ≠ 0 then y.startTimer else y).faults.fatalDue = y.faults.fatalDue := by
    split <;> exact ⟨rfl, rfl⟩
  rw [e, ht.1, ht.2, hy, hr.1, hr.2]
  refine ⟨rfl, fun hc => ?_⟩
  show (if c = 4 ∧ ¬a ∧ s.faults.fatalDue.isNone then some 0x0C else s.faults.fatalDue) = _
  rw [if_neg (fun h => hc h.1)]

/-- A raise of an input whose class is not F leaves a quiet state quiet. -/
theorem raise_quiet (i d : Nat) (s : State) (hc : faultClass i ≠ 4) (q : s.quiet) : (s.raise i d).quiet := by
  unfold State.raise
  dsimp only
  split
  · exact q
  · have h := raiseAs_due i (faultClass i) (d % 65536) false false s
    exact ⟨(h.2 hc).trans q.1, h.1.trans q.2⟩

/-! ### Reading a frame -/

/-- A reading that no step of a loop changes is the same after the loop. -/
theorem forEach_keeps {α β : Type} (g : State → β) {f : α → State → State} (h : ∀ a s, g (f a s) = g s) (l : List α) (s : State) :
    g (forEach l f s) = g s := by
  unfold forEach
  induction l generalizing s with
  | nil => rfl
  | cons a l ih => exact (ih _).trans (h a s)

/-- A reading of what lies beyond the events is the same after what follows a command. -/
theorem follows_field {β : Type} (g : State → β) {s t : State} (h : Follows s t) (hg : ∀ s : State, g s = g s.beyond := by intro _; rfl) :
    g t = g s := by
  rw [hg t, hg s, h.1]

/-- The same for a reading of what posting a record leaves alone. -/
theorem posts_field {β : Type} (g : State → β) {s t : State} (h : Posts s t) (hg : ∀ s : State, g s = g s.outside := by intro _; rfl) :
    g t = g s := by
  rw [hg t, hg s, h.1]

/-- A reading beyond the events is the same in the state that a command ends in. -/
theorem settle_field {β : Type} (g : State → β) {s : State} (q : s.quiet) (hg : ∀ s : State, g s = g s.beyond := by intro _; rfl) :
    g s.settle = g s := follows_field g (follows_settle s q) hg

/-- A register but the audit status reads the same in the state that a command ends in. -/
theorem settle_reg {s : State} (q : s.quiet) {off : Nat} (h : off ≠ Reg.DEV_AUDIT_STAT) : s.settle.reg off = s.reg off :=
  (follows_settle s q).2.1 off h

/-- A command that the device takes in every state but OFF. -/
theorem finish_on {s : State} (h : s.on) (f : State → State) : finish (s.alive f) = .next (State.settle (f s)) := by
  unfold finish State.alive
  rw [if_neg h]

end Sys2Proof.Machine
end

