-- ==== Sys2Proof/Laws/Frames.lean ====
section
/-! SUPPORT. What completing a command, following the power domains and restarting the cores leave alone. -/

namespace Sys2Proof.Machine

open Sys2Proof

/-! ### Completions (03 R64) -/

/-- The state apart from what answering a command can change: what posting changes, the rings, and the memory of a ring
in DRAM. -/
def State.unanswered (s : State) : State := { s.outside with rings := State.reset.rings, dram := [], dramBad := [] }

/-- Nothing but answers differs. -/
def Answers (s t : State) : Prop := t.unanswered = s.unanswered

theorem Answers.refl (s : State) : Answers s s := rfl
theorem Answers.trans {s t u : State} (h : Answers s t) (k : Answers t u) : Answers s u := Eq.trans k h
theorem Posts.answers {s t : State} (h : Posts s t) : Answers s t := by
  unfold Answers State.unanswered
  rw [h.1]
theorem answers_onRing (r : RingId) (f : Ring → Ring) (s : State) : Answers s (s.onRing r f) := rfl
theorem answers_dramWrite (a : Nat) (b : Bytes) (s : State) : Answers s (s.dramWrite a b) := rfl
theorem answers_emit (e : Emission) (s : State) : Answers s (s.emit e) := rfl
theorem Answers.ite {p : Prop} [Decidable p] {s t u : State} (h : Answers s t) (k : Answers s u) : Answers s (if p then t else u) := by
  split <;> assumption

theorem answers_ringError (r : RingId) (a b c d : Bool) (s : State) : Answers s (s.ringError r a b c d) := by
  unfold State.ringError
  dsimp only
  split
  · exact answers_onRing _ _ _
  · exact (answers_onRing _ _ _).trans (posts_post _ _ _ _).answers

theorem answers_writeCompletion (r : RingId) (c : Completion) (h : Bool) (s : State) : Answers s (s.writeCompletion r c h) := by
  unfold State.writeCompletion
  have k : Answers s (if (s.ring r).isLocal = true
      then s.dramWrite ((s.ring r).base + 64 * (s.ring r).entries + 16 * (s.ring r).cqTail) (c.bytes (s.ring r).phase h)
      else s.emit (.hostWrite ((s.ring r).base + 64 * (s.ring r).entries + 16 * (s.ring r).cqTail) (c.bytes (s.ring r).phase h))) :=
    Answers.ite (answers_dramWrite _ _ _) (answers_emit _ _)
  dsimp only
  split
  · exact k.trans (answers_onRing _ _ _)
  · exact (k.trans (answers_onRing _ _ _)).trans (posts_post _ _ _ _).answers

theorem answers_postCompletion (r : RingId) (c : Completion) (s : State) : Answers s (s.postCompletion r c) := by
  unfold State.postCompletion State.holdCompletion
  dsimp only
  split
  · exact answers_onRing _ _ _
  · split
    · exact (answers_ringError _ _ _ _ _ _).trans (answers_onRing _ _ _)
    · split
      · exact answers_onRing _ _ _
      · exact answers_writeCompletion _ _ _ _

theorem Answers.foldl {α : Type} {f : State → α → State} (h : ∀ s a, Answers s (f s a)) (l : List α) (s : State) :
    Answers s (l.foldl f s) := by
  induction l generalizing s with
  | nil => exact Answers.refl s
  | cons a l ih => exact (h s a).trans (ih (f s a))

/-- Completing a command answers it, and does nothing else. -/
theorem answers_complete (ref : CmdRef) (st : Status) (d r : Nat) (s : State) : Answers s (s.complete ref st d r) := by
  unfold State.complete
  dsimp only
  exact ((answers_onRing _ _ s).trans (answers_postCompletion _ _ _)).trans (Answers.foldl (fun s _ => answers_postCompletion _ _ s) _ _)

theorem answers_flushHeld (r : RingId) : ∀ (k : Nat) (s : State), Answers s (s.flushHeld r k)
  | 0, s => Answers.refl s
  | k + 1, s => by
    unfold State.flushHeld
    dsimp only
    split
    · exact Answers.refl s
    · split
      · exact ((answers_onRing _ _ _).trans (answers_writeCompletion _ _ _ _)).trans (answers_flushHeld r k _)
      · exact Answers.refl s

/-- A reading that answers do not touch. -/
theorem answers_field {β : Type} (g : State → β) {s t : State} (h : Answers s t)
    (hg : ∀ s : State, g s = g s.unanswered := by intro _; rfl) : g t = g s := by
  rw [hg t, hg s]
  exact congrArg g h

/-! ### Power domains (17 R385, R386) -/

/-- The state apart from what a group's domains can change when they are switched off, and from what posting changes. -/
def State.undomained (s : State) : State :=
  { s.outside with churns := State.reset.churns, phots := State.reset.phots, ports := State.reset.ports, diags := State.reset.diags
                   regs := [], rws := [] }

theorem undomained_posts {s t : State} (h : Posts s t) : t.undomained = s.undomained := by
  unfold State.undomained
  rw [h.1]
theorem undomained_ite {p : Prop} [Decidable p] {s t u : State} (h : t.undomained = s.undomained) (k : u.undomained = s.undomained) :
    (if p then t else u).undomained = s.undomained := by
  split <;> assumption
theorem undomained_onPort (n : TileId) (f : Port → Port) (s : State) : (s.onPort n f).undomained = s.undomained := rfl
theorem undomained_resetLedger (n : TileId) (s : State) : (s.resetLedger n).undomained = s.undomained := by
  unfold State.resetLedger State.laneRecord
  exact undomained_ite ((undomained_posts (posts_post _ _ _ _)).trans (undomained_onPort _ _ _)) (undomained_onPort _ _ _)
theorem undomained_churnOff (g : Nat) (s : State) : (s.churnOff g).undomained = s.undomained := by
  unfold State.churnOff
  refine forEach_keeps State.undomained (fun n s => ?_) _ s
  rfl
theorem undomained_linkDomainOff (g : Nat) (s : State) : (s.linkDomainOff g).undomained = s.undomained := by
  unfold State.linkDomainOff
  refine forEach_keeps State.undomained (fun n s => ?_) _ s
  exact (undomained_resetLedger _ _).trans rfl

/-- Where the host's domain stays on, following the domains leaves all but the groups' state, and READY. -/
theorem undomained_applyDomains (s : State) (h : bitAt s.domainsOn 2 = true) :
    s.applyDomains.undomained = { s with power := { s.power with ready := s.power.ready &&& BitVec.ofNat 15 s.domainsOn } }.undomained := by
  unfold State.applyDomains
  simp only [h, Bool.true_or, if_true]
  refine Eq.trans (forEach_keeps State.undomained (fun g s => ?_) _ _) rfl
  exact undomained_ite (undomained_ite rfl (undomained_churnOff g s))
    ((undomained_linkDomainOff g _).trans (undomained_ite rfl (undomained_churnOff g s)))

/-- A reading that switching groups off does not touch. -/
theorem undomained_field {β : Type} (g : State → β) {s t : State} (h : t.undomained = s.undomained)
    (hg : ∀ s : State, g s = g s.undomained := by intro _; rfl) : g t = g s := by
  rw [hg t, hg s]
  exact congrArg g h

/-! ### A core restart (17 R387, R399; 15 R433) -/

theorem posts_stagePost (ev : Event) (s : State) : Posts s (s.stagePost ev) := by
  unfold State.stagePost
  exact (posts_stage _ _ _ _).trans (Posts.foldl (fun s f => posts_post _ _ _ s) _ _)

theorem posts_rerouteQueue (q : QueueId) (s : State) : Posts s (s.rerouteQueue q) := by
  unfold State.rerouteQueue
  refine (((posts_closeLostWindows _).trans (posts_onIntc _ _)).trans (posts_onEvq _ _ _)).trans (Posts.foldl (fun s r => ?_) _ _)
  split
  · split
    · exact posts_stagePost _ _
    · exact posts_discardRecord s
  · split
    · exact (posts_route _ _ _ _ ‹_›).trans (Posts.foldl (fun s f => posts_post _ _ _ s) _ _)
    · split
      · exact posts_discardRecord s
      · exact posts_stagePost _ _

/-- The state apart from the register words and what posting changes. -/
def State.unwritten (s : State) : State := { s.outside with regs := [], rws := [] }
theorem unwritten_posts {s t : State} (h : Posts s t) : t.unwritten = s.unwritten := by
  unfold State.unwritten
  rw [h.1]
theorem unwritten_onIntc (f : Intc → Intc) (s : State) : (s.onIntc f).unwritten = s.unwritten := rfl
theorem unwritten_setReg (off : Nat) (w : Word) (s : State) : (s.setReg off w).unwritten = s.unwritten := rfl
theorem unwritten_setFld (off hi lo v : Nat) (s : State) : (s.setFld off hi lo v).unwritten = s.unwritten := rfl

theorem restartHand_frame (h : Fin 2) (s : State) :
    ((s.setFld (Reg.INTC_HAND_CFG h) 0 0 0).onCore h fun c => { completeErr := c.completeErr }).unwritten = s.unwritten ∧
    ∀ off, off ≠ Reg.INTC_HAND_CFG h →
      ((s.setFld (Reg.INTC_HAND_CFG h) 0 0 0).onCore h fun c => { completeErr := c.completeErr }).reg off = s.reg off :=
  ⟨rfl, fun _ hh => State.reg_setReg_other s _ _ hh⟩
theorem restartQueue_frame (q : QueueId) (s : State) : ((s.setFld (Reg.EVQ_CFG q) 8 8 0).rerouteQueue q).unwritten = s.unwritten ∧
    ∀ off, off ≠ Reg.EVQ_CFG q → ((s.setFld (Reg.EVQ_CFG q) 8 8 0).rerouteQueue q).reg off = s.reg off :=
  ⟨(unwritten_posts (posts_rerouteQueue q _)).trans (unwritten_setFld _ _ _ _ s),
   fun off hq => (posts_field (·.reg off) (posts_rerouteQueue q _)).trans (State.reg_setReg_other _ _ _ hq)⟩

/-- The core hands' restart changes no register but the enables of hands 0 and 1 and of the core rings. -/
theorem coreHandsRestart_frame (s : State) : s.coreHandsRestart.unwritten = s.unwritten ∧
    ∀ off, off ≠ Reg.INTC_HAND_CFG 0 → off ≠ Reg.INTC_HAND_CFG 1 → off ≠ Reg.EVQ_CFG 6 → off ≠ Reg.EVQ_CFG 7 →
      s.coreHandsRestart.reg off = s.reg off := by
  let a := (s.setFld (Reg.INTC_HAND_CFG 0) 0 0 0).onCore 0 fun c => { completeErr := c.completeErr }
  let b := (a.setFld (Reg.INTC_HAND_CFG 1) 0 0 0).onCore 1 fun c => { completeErr := c.completeErr }
  let c := b.onIntc fun i => { i with windows := i.windows.filter fun w => 2 ≤ w.hand }
  let d := (c.setFld (Reg.EVQ_CFG 6) 8 8 0).rerouteQueue 6
  have e : s.coreHandsRestart = (d.setFld (Reg.EVQ_CFG 7) 8 8 0).rerouteQueue 7 := rfl
  have c0 : c.unwritten = b.unwritten := unwritten_onIntc _ b
  rw [e]
  refine ⟨(restartQueue_frame 7 d).1.trans ((restartQueue_frame 6 c).1.trans (c0.trans ((restartHand_frame 1 a).1.trans (restartHand_frame 0 s).1))),
    fun off h0 h1 h6 h7 => ?_⟩
  have c1 : c.reg off = b.reg off := rfl
  exact ((restartQueue_frame 7 d).2 off h7).trans (((restartQueue_frame 6 c).2 off h6).trans (c1.trans
    (((restartHand_frame 1 a).2 off h1).trans ((restartHand_frame 0 s).2 off h0))))

/-- The power block after a core restart. -/
def State.restartPower (s : State) (next : Option Nat) : Power := { s.power with
  stage := none, fuseJobs := s.power.fuseJobs.filter (·.begun), abortAtAlive := s.power.abortAtAlive ++ s.heldByFirmware
  absent := true, absentSince := if s.power.absent then s.power.absentSince else s.lamp, version := 0, started := none
  startDue := true, nextSlot := next, wdogSince := s.lamp }

/-- A core restart changes PWR's firmware state, the images that wait, the core hands' and rings' enables, and PWR_WDOG_CFG;
it may use a free value. -/
theorem coreRestart_frame (cause : Nat) (next : Option Nat) (s : State) :
    (s.coreRestart cause next).unwritten = { s with
      power := s.restartPower next, deal := { s.deal with jobs := [] }, freeSeq := (s.coreRestart cause next).freeSeq }.unwritten ∧
    (s.coreRestart cause next).reg Reg.PWR_WDOG_CFG = resetWord Reg.PWR_WDOG_CFG := by
  let x : State := { s with power := s.restartPower next, deal := { s.deal with jobs := [] }, coreMem := [] }
  let y := (x.resetRegs Reg.PWR_WDOG_CFG (Reg.PWR_WDOG_CFG + 4)).coreHandsRestart
  have hy : y.unwritten = x.unwritten := (coreHandsRestart_frame _).1
  have ry : y.reg Reg.PWR_WDOG_CFG = resetWord Reg.PWR_WDOG_CFG := by
    refine ((coreHandsRestart_frame _).2 _ (by decide) (by decide) (by decide) (by decide)).trans ?_
    exact Sparse.get_filter_out _ _ (fun e => !(decide (Reg.PWR_WDOG_CFG ≤ e) && decide (e < Reg.PWR_WDOG_CFG + 4))) (by decide) _
  have e : s.coreRestart cause next = (match (match next with | some n => some n | none => y.power.laterSlot) with
    | some n => y.post 0xB1 338 (le 1 cause ++ le 1 n)
    | none => (y.post 0xB1 338 (le 1 cause ++ le 1 y.free)).useFree) := rfl
  rw [e]
  have go (t : State) (h : Posts y t) (f : Nat) : ({ t with freeSeq := f } : State).unwritten = ({ x with freeSeq := f } : State).unwritten ∧
      ({ t with freeSeq := f } : State).reg Reg.PWR_WDOG_CFG = resetWord Reg.PWR_WDOG_CFG := by
    constructor
    · have h1 : t.unwritten = x.unwritten := (unwritten_posts h).trans hy
      exact congrArg (fun z : State => ({ z with freeSeq := f } : State)) h1
    · exact (posts_field (·.reg Reg.PWR_WDOG_CFG) h).trans ry
  split
  · exact go _ (posts_post _ _ _ _) _
  · exact go _ (posts_post _ _ _ _) _

end Sys2Proof.Machine
end

