-- ==== Sys2Proof/Laws/Entries.lean ====
section
/-! SUPPORT. What an entry to SAFE_LIGHT or FATAL leaves of the device state and of the entries due: the transition itself,
and nothing that aborting commands could add to it. -/

namespace Sys2Proof.Machine

open Sys2Proof

/-- The device state, how it came about, and the entries due. -/
def State.vitals (s : State) : DevState × Nat × Nat × Option Nat × Option Nat :=
  (s.dev.state, s.dev.prev, s.dev.cause, s.faults.safeDue, s.faults.fatalDue)

theorem vitals_posts {s t : State} (h : Posts s t) : t.vitals = s.vitals := posts_field State.vitals h
theorem vitals_answers {s t : State} (h : Answers s t) : t.vitals = s.vitals := answers_field State.vitals h
theorem vitals_ite {p : Prop} [Decidable p] {s t u : State} (h : t.vitals = s.vitals) (k : u.vitals = s.vitals) :
    (if p then t else u).vitals = s.vitals := by split <;> assumption
theorem vitals_complete (ref : CmdRef) (st : Status) (d r : Nat) (s : State) : (s.complete ref st d r).vitals = s.vitals :=
  vitals_answers (answers_complete ref st d r s)
theorem vitals_completeWith (ref : CmdRef) (st : Status) (s : State) : (s.completeWith ref st).vitals = s.vitals :=
  vitals_complete ref st _ _ s

/-- A raise leaves the device state, and makes an entry due only in class F. -/
theorem vitals_raise (i d : Nat) (hc : faultClass i ≠ 4) (s : State) : (s.raise i d).vitals = s.vitals := by
  have hd := follows_field (fun s : State => (s.dev.state, s.dev.prev, s.dev.cause)) (follows_raise i d s)
  have hf : (s.raise i d).faults.safeDue = s.faults.safeDue ∧ (s.raise i d).faults.fatalDue = s.faults.fatalDue := by
    unfold State.raise
    dsimp only
    split
    · exact ⟨rfl, rfl⟩
    · have h := raiseAs_due i (faultClass i) (d % 65536) false false s
      exact ⟨h.1, h.2 hc⟩
  simp only [Prod.mk.injEq] at hd
  simp only [State.vitals, hd.1, hd.2.1, hd.2.2, hf.1, hf.2]

theorem vitals_newParcel (n : TileId) (ty a g : Nat) (b : Bytes) (fr : Nat) (l : Option Nat) (s : State) :
    (s.newParcel n ty a g b fr l).vitals = s.vitals := by
  unfold State.newParcel
  dsimp only
  split
  · rfl
  · split <;> rfl

theorem vitals_dropRetime (s : State) : s.dropRetime.vitals = s.vitals := by
  unfold State.dropRetime
  split
  · rfl
  · exact forEach_keeps State.vitals (fun n s => vitals_newParcel _ _ _ _ _ _ _ s) _ s

theorem vitals_dropSwap (ref : CmdRef) (s : State) : (s.dropSwap ref).vitals = s.vitals :=
  forEach_keeps State.vitals (fun _ _ => by split <;> rfl) _ s

theorem vitals_eachPort (f : Port → Port) (s : State) : (forEach tileIds (fun n s => s.onPort n f) s).vitals = s.vitals :=
  forEach_keeps State.vitals (f := fun n s => s.onPort n f) (fun _ _ => rfl) tileIds s
theorem vitals_eachPhot (f : Phot → Phot) (g : Port → Port) (s : State) :
    (forEach tileIds (fun n s => (s.onPhot n f).onPort n g) s).vitals = s.vitals :=
  forEach_keeps State.vitals (f := fun n s => (s.onPhot n f).onPort n g) (fun _ _ => rfl) tileIds s
theorem vitals_eachLoop (f : LoopSt → LoopSt) (s : State) : (forEach loopIds (fun l s => s.onLoop l f) s).vitals = s.vitals :=
  forEach_keeps State.vitals (f := fun l s => s.onLoop l f) (fun _ _ => rfl) loopIds s

theorem vitals_joinEnds (st : Status) (s : State) : (s.joinEnds st).vitals = s.vitals := by
  unfold State.joinEnds State.partnerRecord
  exact (vitals_posts (posts_post _ _ _ _)).trans rfl

theorem vitals_dropCommand (ref : CmdRef) (s : State) : (s.dropCommand ref).vitals = s.vitals := by
  unfold State.dropCommand
  dsimp only
  split
  case h_7 => exact vitals_dropRetime s
  case h_11 => exact vitals_eachPort _ s
  case h_12 => exact vitals_eachPort _ s
  case h_13 => exact vitals_eachPhot _ _ s
  case h_14 => exact vitals_eachPort _ s
  case h_15 => exact vitals_eachPort _ s
  case h_16 => exact vitals_eachLoop _ s
  case h_17 =>
    have h : ∀ s : State, (s.onCtl fun k => { k with emptySwaps := k.emptySwaps.filter fun r => !decide (r.id = ref.id) }).vitals = s.vitals :=
      fun _ => rfl
    exact (h _).trans (vitals_dropSwap ref s)
  case h_18 => exact vitals_eachLoop _ s
  case h_22 => exact vitals_ite (vitals_joinEnds _ s) rfl
  all_goals rfl

theorem vitals_retire (n : TileId) (sl : Fin 8) (L : Layer) (r : Nat) (s : State) : (s.retire n sl L r).vitals = s.vitals := by
  unfold State.retire
  split
  · rfl
  · exact (vitals_posts (posts_post _ _ _ _)).trans rfl

theorem vitals_abortSlotOp (n : TileId) (sl : Fin 8) (r : Nat) (s : State) : (s.abortSlotOp n sl r).vitals = s.vitals := by
  unfold State.abortSlotOp
  split
  · rfl
  · next o _ =>
    dsimp only
    have h := vitals_completeWith o.ref .aborted (s.onChurn n fun c => { c.setOp sl none with staged := if sl = 0 then none else c.staged })
    split
    · exact (vitals_ite (s := State.completeWith o.ref .aborted (s.onChurn n fun c =>
        { c.setOp sl none with staged := if sl = 0 then none else c.staged })) rfl (vitals_retire _ _ _ _ _)).trans h
    · exact h

theorem vitals_abortCommand (ref : CmdRef) (s : State) : (s.abortCommand ref).vitals = s.vitals := by
  unfold State.abortCommand
  split
  · split
    · exact vitals_abortSlotOp _ _ _ s
    · rfl
  · split
    · split
      · exact vitals_completeWith _ _ _
      · rfl
    · exact (vitals_completeWith _ _ _).trans (vitals_dropCommand ref s)

theorem vitals_abortIllegal (s : State) : s.abortIllegal.vitals = s.vitals :=
  forEach_keeps State.vitals vitals_abortCommand _ s

theorem vitals_abortLoop (l : LoopId) (s : State) : (s.abortLoop l).vitals = s.vitals := by
  let x := match (s.loop l).load with
    | some (ref, _) => s.completeWith ref .aborted
    | none => s
  let y := match (s.loop l).modeCmd with
    | some (ref, _) => x.completeWith ref .aborted
    | none => x
  let z := match (s.loop l).swap with
    | some ref => (y.dropSwap ref).completeWith ref .aborted
    | none => y
  have hx : x.vitals = s.vitals := by
    show State.vitals (match (s.loop l).load with
      | some (ref, _) => s.completeWith ref .aborted
      | none => s) = _
    split
    · exact vitals_completeWith _ _ _
    · rfl
  have hy : y.vitals = x.vitals := by
    show State.vitals (match (s.loop l).modeCmd with
      | some (ref, _) => x.completeWith ref .aborted
      | none => x) = _
    split
    · exact vitals_completeWith _ _ _
    · rfl
  have hz : z.vitals = y.vitals := by
    show State.vitals (match (s.loop l).swap with
      | some ref => (y.dropSwap ref).completeWith ref .aborted
      | none => y) = _
    split
    · exact (vitals_completeWith _ _ _).trans (vitals_dropSwap _ _)
    · rfl
  have e : s.abortLoop l = z.onLoop l fun lp => { lp with load := none, swap := none, modeCmd := none } := rfl
  rw [e]
  exact (hz.trans hy).trans hx

theorem vitals_setDevState (new : DevState) (c : Nat) (s : State) :
    (s.setDevState new c).vitals = (new, s.dev.state.code, c, s.faults.safeDue, s.faults.fatalDue) := by
  have h : ∀ (p : Prop) [Decidable p] (f : Faults → Faults) (d : Dev → Dev), (∀ x, (f x).safeDue = x.safeDue ∧ (f x).fatalDue = x.fatalDue) →
      (∀ x, (d x).state = new ∧ (d x).prev = s.dev.state.code ∧ (d x).cause = c) →
      ((if p then s.onFaults f else s).onDev d).vitals = (new, s.dev.state.code, c, s.faults.safeDue, s.faults.fatalDue) := by
    intro p _ f d hf hd
    split <;> simp [State.vitals, hf, hd]
  unfold State.setDevState
  exact (vitals_posts (posts_post _ _ _ _)).trans (h _ _ _ (fun _ => ⟨rfl, rfl⟩) fun _ => ⟨rfl, rfl, rfl⟩)

theorem vitals_eachChurn (f : Churn → Churn) (s : State) : (forEach tileIds (fun n s => s.onChurn n f) s).vitals = s.vitals :=
  forEach_keeps State.vitals (f := fun n s => s.onChurn n f) (fun _ _ => rfl) tileIds s

theorem vitals_told (p : Prop) [Decidable p] (e : Emission) (z : State) : (if p then z.emit e else z).vitals = z.vitals := by
  split <;> rfl

/-- The state that the entry to SAFE_LIGHT ends in, but for telling the partner. -/
theorem enterSafeLight_eq (c : Nat) (s : State) (h : s.dev.state = .lit ∨ s.dev.state = .hold) : ∃ z : State,
    z.vitals = ((s.setDevState .safeLight c).abortIllegal).vitals ∧
    s.enterSafeLight c = if z.partner.state = 2 ∧ c ≠ 0x10 then z.emit (.partner .safeLight) else z := by
  let y := forEach tileIds (fun n s => s.onChurn n fun c => { c with drained := c.composing }) (s.setDevState .safeLight c).abortIllegal
  refine ⟨y.onFaults fun f => { f with localNext := y.entryLocal }, ?_, ?_⟩
  · have h : ∀ (y : State) (m : BitVec 4), (y.onFaults fun f => { f with localNext := m }).vitals = y.vitals := fun _ _ => rfl
    rw [h]
    exact vitals_eachChurn (fun c => { c with drained := c.composing }) (s.setDevState .safeLight c).abortIllegal
  · unfold State.enterSafeLight
    rw [if_neg (by rcases h with h | h <;> simp [h])]

/-- The entry to SAFE_LIGHT is the transition, and makes nothing due. -/
theorem vitals_enterSafeLight (c : Nat) (s : State) (h : s.dev.state = .lit ∨ s.dev.state = .hold) :
    (s.enterSafeLight c).vitals = (.safeLight, s.dev.state.code, c, s.faults.safeDue, s.faults.fatalDue) := by
  obtain ⟨z, hz, e⟩ := enterSafeLight_eq c s h
  rw [e, vitals_told, hz, vitals_abortIllegal, vitals_setDevState]

/-- The state that the entry to FATAL ends in, but for the partner. -/
theorem enterFatal_eq (c : Nat) (s : State) : ∃ x z : State, x.dev = s.dev ∧ x.faults = s.faults ∧
    z.vitals = (x.setDevState .fatal c).vitals ∧
    s.enterFatal c = if z.role = 0 then z
      else (if z.partner.laneLock ≠ 0 then z.emit (.partner .fatal) else z).onPartner fun p => { p with lanesOff := true } := by
  let x := s.onPower fun p => { p with
    fatalAt := some (s.lamp, s.frame, s.dev.state.code, s.faults.firstWord, (s.faults.first.map (·.time)).getD 0)
    dumpDone := false, dumpNone := s.power.absent || s.theDeal.isNone, dumpSince := s.lamp }
  let z := forEach tileIds (fun n s => s.onChurn n fun c => { c with composing := false })
    (forEach loopIds State.abortLoop (x.setDevState .fatal c).abortIllegal)
  have hz : z.vitals = (x.setDevState .fatal c).vitals := by
    show (forEach tileIds (fun n s => s.onChurn n fun c => { c with composing := false })
      (forEach loopIds State.abortLoop (x.setDevState .fatal c).abortIllegal)).vitals = _
    rw [vitals_eachChurn, forEach_keeps State.vitals vitals_abortLoop, vitals_abortIllegal]
  refine ⟨x, z, rfl, rfl, hz, ?_⟩
  unfold State.enterFatal
  rfl

/-- The entry to FATAL is the transition, and makes nothing due. -/
theorem vitals_enterFatal (c : Nat) (s : State) :
    (s.enterFatal c).vitals = (.fatal, s.dev.state.code, c, s.faults.safeDue, s.faults.fatalDue) := by
  obtain ⟨x, z, hd, hf, hz, e⟩ := enterFatal_eq c s
  have h : ∀ y : State, (y.onPartner fun p => { p with lanesOff := true }).vitals = y.vitals := fun _ => rfl
  rw [e, ← hd, ← hf, ← vitals_setDevState, ← hz]
  refine vitals_ite rfl ?_
  rw [h, vitals_told]

theorem vitals_setReg (off : Nat) (w : Word) (s : State) : (s.setReg off w).vitals = s.vitals := rfl

/-- An audit leaves the device state and makes nothing due: its inputs are of class U. -/
theorem vitals_audit (kind i : Nat) (hk : kind ≤ 4) (ok : Bool) (s : State) : (s.audit kind i ok).vitals = s.vitals := by
  have hc : faultClass kind ≠ 4 := by
    have : kind = 0 ∨ kind = 1 ∨ kind = 2 ∨ kind = 3 ∨ kind = 4 := by omega
    rcases this with h | h | h | h | h <;> subst h <;> decide
  unfold State.audit
  split
  · rfl
  · dsimp only
    rw [vitals_raise _ _ hc]
    have h1 : ∀ s : State, (s.onDev fun d => { d with reported := (kind, i) :: d.reported }).vitals = s.vitals := fun _ => rfl
    have h2 : ∀ s : State, (s.addSat Reg.DEV_AUDIT_STAT 31 16 1).vitals = s.vitals := fun s => vitals_setReg _ _ s
    have h3 : (s.setFlag Reg.DEV_AUDIT_STAT kind).vitals = s.vitals := vitals_setReg _ _ s
    rw [h1, h2, h3]

end Sys2Proof.Machine
end

