-- ==== Sys2Proof/Machine/Wire.lean ====
section
/-! DEFINITION. Parcels and return records as bytes on a lane, with their check values (09 R200, R201, R226, R227).
The commands and emissions of the block carry them by their fields; a copy or record whose CRC fails is a row of its own
(TILE_BAD_COPY, BAD_RETURN_RECORD), and none of its fields is acted on. -/

namespace Sys2Proof.Machine

open Sys2Proof

/-! ### Parcels (09 R200, R201) -/

/-- CTL: TYPE in bits 3:0, KITTY in bit 4, TRY in bits 6:5 (09 R200). -/
def parcelCtl (p : Parcel) : Nat := p.type.toNat + 16 * p.kitty.toNat + 32 * p.tryN.toNat
/-- The 8 header bytes of a parcel (09 R200). -/
def parcelHeader (p : Parcel) : Bytes :=
  le 1 (parcelCtl p) ++ le 1 p.frame.toNat ++ le 2 p.seq.toNat ++ le 2 p.addr.toNat ++ le 2 p.arg.toNat
/-- Header and payload: the 264 bytes that the CRC covers (09 R201). -/
def parcelBody (p : Parcel) : Bytes := parcelHeader p ++ padTo 256 p.payload
/-- The 268 bytes of a parcel: header, payload and CRC-32, least significant byte first (09 R200, R201). -/
def parcelWire (p : Parcel) : Bytes := parcelBody p ++ le 4 (crc32 (parcelBody p))

/-- What a receiver takes from 268 bytes: nothing where the CRC fails (09 R201). -/
def parcelRead (b : Bytes) : Option Parcel :=
  if b.length = 268 ∧ rd b 264 4 = crc32 (b.take 264) then
    let ctl := rd b 0 1
    some { type := BitVec.ofNat 4 ctl, kitty := decide (ctl / 16 % 2 = 1), tryN := BitVec.ofNat 2 (ctl / 32), frame := BitVec.ofNat 8 (rd b 1 1)
           seq := BitVec.ofNat 16 (rd b 2 2), addr := BitVec.ofNat 16 (rd b 4 2), arg := BitVec.ofNat 16 (rd b 6 2), payload := slice b 8 256 }
  else none

/-! ### Return records (09 R226, R227) -/

/-- KIND of a record (09 R227). -/
def recordKind : Record → Nat
  | .ack .. => 1 | .nak .. => 2 | .status .. => 3 | .sensor .. => 4
  | .vf .. => 5 | .ident .. => 6 | .event .. => 7 | .flashData .. => 8

/-- FRAME and RSEQ of a record. -/
def recordHdr : Record → RecHdr
  | .ack h _ | .nak h _ | .status h _ | .sensor h _ | .vf h _ | .ident h _ | .event h _ _ _ | .flashData h _ _ => h

/-- Bytes 4 on of a record, by its kind (09 R227). -/
def recordFields : Record → Bytes
  | .ack _ b => le 2 b.base.toNat ++ le 32 b.map.toNat ++ le 2 b.relA.toNat ++ le 2 b.relB.toNat ++ le 2 b.relK.toNat
  | .nak _ b => le 1 (match b.lane with
      | .a => 0
      | .b => 1) ++ le 1 (if b.runt then 2 else 1) ++ le 2 b.laneCount.toNat ++ le 2 b.seq.toNat
  | .status _ b =>
    le 1 b.state.toNat ++ le 1 b.lanes.toNat ++ le 1 b.holdCount.toNat ++ le 1 b.rate.toNat ++ le 4 b.shown.toNat ++ le 2 b.loaded.toNat ++
    le 2 b.kept.toNat ++ le 2 b.iRef.toNat ++ le 2 b.vHr.toNat ++ le 2 b.crcA.toNat ++ le 2 b.crcB.toNat ++ le 2 b.dup.toNat ++
    le 2 b.stale.toNat ++ le 2 b.probes.toNat ++ le 2 b.flags.toNat
  | .sensor _ b =>
    le 2 b.vfMean.toNat ++ le 2 b.tSink.toNat ++ le 2 b.light.toNat ++ le 2 b.vSupply.toNat ++ le 2 b.iSupply.toNat ++ le 1 b.index.toNat
  | .vf _ b => le 2 b.line.toNat ++ le 2 b.col.toNat ++ le 1 b.codes.length ++ le 1 b.probe.toNat ++ le 2 0 ++ padTo 48 b.codes
  | .ident _ b =>
    le 2 b.tileType.toNat ++ le 4 b.serial.toNat ++ le 2 b.arrayW.toNat ++ le 2 b.arrayH.toNat ++ le 1 b.lanes.toNat ++ le 1 b.caps.toNat ++
    le 2 b.vfBase.toNat ++ le 1 b.vfStep.toNat ++ le 1 0 ++ le 2 b.relK.toNat
  | .event _ code arg b =>
    le 1 code.toNat ++ le 1 arg.toNat ++ le 1 b.id.toNat ++ le 1 0 ++ le 2 b.relA.toNat ++ le 2 b.relB.toNat ++ le 2 b.relK.toNat ++ le 2 0 ++
    le 4 b.value.toNat
  | .flashData _ off data => le 4 off.toNat ++ padTo 48 data

/-- Bytes 0 to 59 of a record, which its CRC covers (09 R226). -/
def recordBody (r : Record) : Bytes :=
  le 1 (recordKind r) ++ le 1 (recordHdr r).frame.toNat ++ le 2 (recordHdr r).rseq.toNat ++ padTo 56 (recordFields r)
/-- The 64 bytes of a record (09 R226). -/
def recordWire (r : Record) : Bytes := recordBody r ++ le 4 (crc32 (recordBody r))
/-- The chip takes a record only where its CRC holds (09 R226). -/
def recordGood (b : Bytes) : Bool := decide (b.length = 64) && decide (rd b 60 4 = crc32 (b.take 60))

end Sys2Proof.Machine
end

