-- ==== Sys2Proof/Laws/Wire.lean ====
section
/-! SUPPORT. The byte forms of parcels and records (09 R200, R201, R226): their lengths, and that a receiver reads back the
parcel that was laid out. -/

namespace Sys2Proof.Machine

open Sys2Proof

theorem le_length (n v : Nat) : (le n v).length = n := by
  induction n generalizing v with
  | zero => rfl
  | succ n ih => exact congrArg (· + 1) (ih _)

theorem leVal_le (n v : Nat) : leVal (le n v) = v % 256 ^ n := by
  induction n generalizing v with
  | zero => exact (Nat.mod_one v).symm
  | succ n ih =>
    unfold le leVal
    rw [ih, BitVec.toNat_ofNat, show 256 ^ (n + 1) = 256 * 256 ^ n from Nat.pow_succ', Nat.mod_mul]

theorem padTo_length (n : Nat) (b : Bytes) : (padTo n b).length = n := by
  unfold padTo zeros
  simp only [List.length_append, List.length_take, List.length_replicate]
  omega

/-- A field laid out between other bytes reads back. -/
theorem rd_le (a b : Bytes) (off n v : Nat) (h : a.length = off) : rd (a ++ (le n v ++ b)) off n = v % 256 ^ n := by
  unfold rd slice
  rw [List.drop_left' h, List.take_left' (le_length n v), leVal_le]

theorem crcBitsR_lt (p k c : Nat) (hp : p < 2 ^ 32) (hc : c < 2 ^ 32) : crcBitsR p k c < 2 ^ 32 := by
  have half : c >>> 1 < 2 ^ 32 := by rw [Nat.shiftRight_eq_div_pow]; omega
  induction k generalizing c with
  | zero => exact hc
  | succ k ih =>
    have step : (if c % 2 = 1 then (c >>> 1) ^^^ p else c >>> 1) < 2 ^ 32 := by
      split
      · exact Nat.xor_lt_two_pow half hp
      · exact half
    refine ih _ step ?_
    rw [Nat.shiftRight_eq_div_pow]; omega

theorem crcR_lt (p c : Nat) (b : Bytes) (hp : p < 2 ^ 32) (hc : c < 2 ^ 32) : crcR p c b < 2 ^ 32 := by
  unfold crcR
  induction b generalizing c with
  | nil => exact hc
  | cons x b ih =>
    have hx : x.toNat < 2 ^ 32 := Nat.lt_trans x.isLt (by decide)
    exact ih _ (crcBitsR_lt _ _ _ hp (Nat.xor_lt_two_pow hc hx))

theorem crc32_lt (b : Bytes) : crc32 b < 2 ^ 32 :=
  Nat.xor_lt_two_pow (crcR_lt _ _ _ (by decide) (by decide)) (by decide)

theorem parcelHeader_length (p : Parcel) : (parcelHeader p).length = 8 := by
  unfold parcelHeader
  simp only [List.length_append, le_length]

theorem parcelBody_length (p : Parcel) : (parcelBody p).length = 264 := by
  unfold parcelBody
  rw [List.length_append, parcelHeader_length, padTo_length]

/-- A parcel is 268 bytes on its lane (09 R200). -/
theorem parcelWire_length (p : Parcel) : (parcelWire p).length = 268 := by
  unfold parcelWire
  rw [List.length_append, parcelBody_length, le_length]

/-- A record is 64 bytes on its lane (09 R226). -/
theorem recordWire_length (r : Record) : (recordWire r).length = 64 := by
  unfold recordWire recordBody
  simp only [List.length_append, le_length, padTo_length]

/-- What a sender lays out is good to a receiver (09 R226). -/
theorem recordGood_wire (r : Record) : recordGood (recordWire r) = true := by
  have hb : (recordBody r).length = 60 := by
    unfold recordBody
    simp only [List.length_append, le_length, padTo_length]
  unfold recordGood
  rw [recordWire_length]
  have h1 : (recordWire r).take 60 = recordBody r := List.take_left' hb
  have h2 : rd (recordWire r) 60 4 = crc32 (recordBody r) := by
    have := rd_le (recordBody r) [] 60 4 (crc32 (recordBody r)) hb
    have hc := crc32_lt (recordBody r)
    rw [List.append_nil, Nat.mod_eq_of_lt (by omega)] at this
    exact this
  simp [h1, h2]

/-- A receiver reads the parcel that was laid out, its payload padded to 256 bytes (09 R200, R201). -/
theorem parcelRead_wire (p : Parcel) : parcelRead (parcelWire p) = some { p with payload := padTo 256 p.payload } := by
  have h1 : (parcelWire p).take 264 = parcelBody p := List.take_left' (parcelBody_length p)
  have h2 : rd (parcelWire p) 264 4 = crc32 (parcelBody p) := by
    have := rd_le (parcelBody p) [] 264 4 (crc32 (parcelBody p)) (parcelBody_length p)
    have hc := crc32_lt (parcelBody p)
    rw [List.append_nil, Nat.mod_eq_of_lt (by omega)] at this
    exact this
  let tail : Bytes := padTo 256 p.payload ++ le 4 (crc32 (parcelBody p))
  have w : parcelWire p = le 1 (parcelCtl p) ++ (le 1 p.frame.toNat ++ (le 2 p.seq.toNat ++ (le 2 p.addr.toNat ++ (le 2 p.arg.toNat ++ tail)))) := by
    show parcelHeader p ++ padTo 256 p.payload ++ le 4 _ = _
    unfold parcelHeader
    simp only [List.append_assoc, tail]
  have e0 : rd (parcelWire p) 0 1 = parcelCtl p % 256 ^ 1 := w ▸ rd_le [] _ 0 1 _ rfl
  have e1 : rd (parcelWire p) 1 1 = p.frame.toNat % 256 ^ 1 := w ▸ rd_le (le 1 (parcelCtl p)) _ 1 1 _ (le_length _ _)
  have e2 : rd (parcelWire p) 2 2 = p.seq.toNat % 256 ^ 2 := by
    rw [w, ← List.append_assoc]
    exact rd_le _ _ 2 2 _ (by simp only [List.length_append, le_length])
  have e4 : rd (parcelWire p) 4 2 = p.addr.toNat % 256 ^ 2 := by
    rw [w, ← List.append_assoc, ← List.append_assoc]
    exact rd_le _ _ 4 2 _ (by simp only [List.length_append, le_length])
  have e6 : rd (parcelWire p) 6 2 = p.arg.toNat % 256 ^ 2 := by
    rw [w, ← List.append_assoc, ← List.append_assoc, ← List.append_assoc]
    exact rd_le _ _ 6 2 _ (by simp only [List.length_append, le_length])
  have e8 : slice (parcelWire p) 8 256 = padTo 256 p.payload := by
    unfold slice parcelWire parcelBody
    rw [List.append_assoc, List.drop_left' (parcelHeader_length p), List.take_left' (padTo_length _ _)]
  unfold parcelRead
  rw [if_pos ⟨parcelWire_length p, by rw [h2, h1]⟩]
  dsimp only
  rw [e0, e1, e2, e4, e6, e8]
  have t := p.type.isLt
  have y := p.tryN.isLt
  obtain ⟨ty, k, tr, fr, sq, ad, ar, pl⟩ := p
  simp only [Option.some.injEq, Parcel.mk.injEq, and_true]
  simp only at t y
  have hk : k.toNat ≤ 1 := by cases k <;> decide
  unfold parcelCtl
  refine ⟨?_, ?_, ?_, ?_, ?_, ?_, ?_⟩
  · apply BitVec.eq_of_toNat_eq; rw [BitVec.toNat_ofNat]; dsimp only; omega
  · cases k <;> simp only [Bool.toNat_true, Bool.toNat_false, decide_eq_true_eq, decide_eq_false_iff_not] <;> omega
  · apply BitVec.eq_of_toNat_eq; rw [BitVec.toNat_ofNat]; dsimp only; omega
  all_goals (apply BitVec.eq_of_toNat_eq; rw [BitVec.toNat_ofNat]; have := fr.isLt; have := sq.isLt; have := ad.isLt; have := ar.isLt; omega)

end Sys2Proof.Machine
end

