-- ==== Sys2Proof/Machine/Lanes.lean ====
section
/-! DEFINITION. Lanes as 64b/66b blocks: scrambling, block lock, runs, markers and packets (09 R193 to R199; 16 R366 to R369). -/

namespace Sys2Proof.Machine

open Sys2Proof

/-! ### Blocks and the scrambler (09 R193, R196) -/

/-- What the 2-bit sync header of a block says: 01 data, 10 control, 00 and 11 invalid (09 R196). -/
inductive Sync where
  | data | control | invalid
deriving DecidableEq, Repr

/-- The sync header of two bits, the first sent first (09 R196). -/
def syncOf : Bool → Bool → Sync
  | false, true => .data
  | true, false => .control
  | _, _ => .invalid

/-- A block of a lane: its header, and its 8 payload bytes as descrambled (09 R193, R196). -/
structure Block where
  sync : Sync
  bytes : Bytes
deriving DecidableEq, Repr

def dataBlock (b : Bytes) : Block := ⟨.data, padTo 8 b⟩
/-- A control block: its type, then bytes 1 to 7 (09 R196; 16 R366). -/
def controlBlock (type : Nat) (b : Bytes) : Block := ⟨.control, le 1 type ++ padTo 7 b⟩
/-- The type of a control block. -/
def Block.type (b : Block) : Nat := rd b.bytes 0 1
def Block.isControl (b : Block) (type : Nat) : Bool := decide (b.sync = .control) && decide (b.type = type)

/-- The scrambler's feedback: the bits sent 39 and 58 bits ago (09 R193). `past` holds the last 58, the newest first. -/
def scrambleTap (past : List Bool) : Bool := Bool.xor (past.getD 38 false) (past.getD 57 false)
/-- Scrambles the payload bits of a lane in the order sent (09 R193; 16 R366). -/
def scramble (past : List Bool) : List Bool → List Bool
  | [] => []
  | x :: xs => Bool.xor x (scrambleTap past) :: scramble ((Bool.xor x (scrambleTap past) :: past).take 58) xs
/-- Descrambles them: the far end's register holds the bits as received. -/
def descramble (past : List Bool) : List Bool → List Bool
  | [] => []
  | y :: ys => Bool.xor y (scrambleTap past) :: descramble ((y :: past).take 58) ys

/-! ### Block lock (09 R197; 16 R366) -/

/-- A receiver that hunts or is locked: consecutive valid headers of the candidate boundary, how far the boundary has moved,
and which of the last 64 headers of a locked lane were invalid, the newest first. -/
structure Hunt where
  locked : Bool := false
  valid : Nat := 0
  moved : Nat := 0
  last : List Bool := []
deriving DecidableEq, Repr

/-- The receiver takes a header at its boundary (09 R197). -/
def Hunt.header (h : Hunt) (s : Sync) : Hunt :=
  let bad := decide (s = .invalid)
  if h.locked then
    let last := (bad :: h.last).take 64
    if 16 ≤ last.count true then { moved := h.moved } else { h with last := last }
  else if bad then { h with valid := 0, moved := h.moved + 1 }
  else if h.valid + 1 = 64 then { locked := true, moved := h.moved }
  else { h with valid := h.valid + 1 }

/-! ### Blocks of a tile link (09 R196, R198, R199) -/

def idleBlock : Block := controlBlock 0x1E []
/-- TICK: the frame count after the tick, the rate in force, and NEW_RATE. -/
def tickBlock (frame rate : Nat) (newRate : Bool) : Block := controlBlock 0x2D (le 4 frame ++ le 1 rate ++ le 1 newRate.toNat)
/-- SOP of a transmit lane: stream bytes 0 to 3 in its bytes 4 to 7. -/
def sopBlock (b : Bytes) : Block := controlBlock 0x33 (zeros 3 ++ padTo 4 b)
def lpiBlock : Block := controlBlock 0x55 []
/-- TEST of lane 0 A, 1 B or 2 return. -/
def testBlock (lane : Nat) : Block := controlBlock 0x78 (le 1 lane)
/-- The control block types of a tile link; any other ends a run and counts as a block error. -/
def knownControl (type : Nat) : Bool := decide (type = 0x1E ∨ type = 0x2D ∨ type = 0x33 ∨ type = 0x55 ∨ type = 0x78)

/-- `n` data blocks that carry a stream, its last block padded with 0. -/
def dataBlocks : Nat → Bytes → List Block
  | 0, _ => []
  | n + 1, b => dataBlock (b.take 8) :: dataBlocks n (b.drop 8)

/-- A run of parcels: SOP with the first 4 bytes of the stream, then data blocks (09 R199). -/
def runBlocks (l : List Parcel) : List Block :=
  let stream := (l.map parcelWire).flatten
  sopBlock stream :: dataBlocks ((stream.length - 4 + 7) / 8) (stream.drop 4)
/-- A run of records: they start at the first data block after SOP (09 R199). -/
def recordBlocks (l : List Record) : List Block := controlBlock 0x33 [] :: dataBlocks (8 * l.length) (l.map recordWire).flatten

/-- The stream bytes of a run after its SOP: up to the first control block other than TICK, or an invalid header (09 R199). -/
def runStream : List Block → Bytes
  | [] => []
  | b :: bs => match b.sync with
    | .data => b.bytes ++ runStream bs
    | .control => if b.type = 0x2D then runStream bs else []
    | .invalid => []

/-- The whole pieces of `size` bytes of a stream, and what is left of it. -/
def pieces (size : Nat) : Nat → Bytes → List Bytes × Bytes
  | 0, b => ([], b)
  | k + 1, b =>
    if b.length < size then ([], b)
    else
      let r := pieces size k (b.drop size)
      (b.take size :: r.1, r.2)

/-- What a tile takes from the run that a SOP begins: the parcels, `none` for one whose CRC fails, and whether the stream
ends in a runt; the 4 pad bytes after a last parcel that ends halfway through a block are none (09 R199, R201). -/
def runRead (sop : Block) (rest : List Block) : List (Option Parcel) × Bool :=
  let stream := slice sop.bytes 4 4 ++ runStream rest
  let r := pieces 268 stream.length stream
  (r.1.map parcelRead, !(r.2.isEmpty || (!r.1.isEmpty && decide (r.2 = zeros 4))))

/-! ### Markers and packets of the feed, back-channel and partner lanes (16 R366 to R369) -/

/-- MARKER of a lane. -/
def markerBlock (lane mseq : Nat) : Block := controlBlock 0x4B (le 1 lane ++ le 2 mseq ++ le 1 (255 - lane))
/-- LANE and MSEQ of a well-formed MARKER. -/
def markerRead (b : Block) : Option (Nat × Nat) :=
  let lane := rd b.bytes 1 1
  if b.isControl 0x4B ∧ lane < 4 ∧ b = markerBlock lane (rd b.bytes 2 2) then some (lane, rd b.bytes 2 2) else none

/-- A receiver lane's marker lock: blocks since the last expected marker, its MSEQ, and expected markers missed in a row. -/
structure MarkerLock where
  locked : Bool := false
  /-- Blocks since the marker last taken or expected, and its MSEQ; `none` before the first. -/
  last : Option (Nat × Nat) := none
  missed : Nat := 0
deriving DecidableEq, Repr

/-- The lane takes a block (16 R367): locked after two markers 16,384 blocks apart with consecutive MSEQ, lost after 4
expected markers in a row are missing or malformed. A lane not locked starts over from a marker that does not follow. -/
def MarkerLock.block (m : MarkerLock) (b : Block) : MarkerLock :=
  let seen := markerRead b
  match m.last with
  | none => { last := seen.map fun x => (0, x.2) }
  | some (d, q) =>
    let next := (q + 1) % 65536
    if d + 1 < 16384 then
      if m.locked then { m with last := some (d + 1, q) }
      else { last := some ((seen.map fun x => (0, x.2)).getD (d + 1, q)) }
    else if seen.any fun x => x.2 = next then { locked := true, last := some (0, next) }
    else if m.locked then
      if m.missed + 1 = 4 then {} else { m with last := some (0, next), missed := m.missed + 1 }
    else { last := seen.map fun x => (0, x.2) }

/-- START and END of a packet. -/
def startBlock (type len : Nat) : Block := controlBlock 0x33 (le 1 type ++ le 2 len)
def endBlock (type : Nat) (payload : Bytes) : Block := controlBlock 0x87 (le 4 (crc32c payload) ++ le 1 type)
/-- A packet: START, ceil(LENGTH / 8) data blocks, END (16 R369). -/
def packetBlocks (type : Nat) (payload : Bytes) : List Block :=
  startBlock type payload.length :: dataBlocks ((payload.length + 7) / 8) payload ++ [endBlock type payload]

/-- What a receiver makes of the blocks from a START on, the markers removed: TYPE and payload of a good packet; a format
error where END does not follow exactly the expected data blocks or the TYPE bytes differ; a CRC error (16 R369). -/
def packetRead (blocks : List Block) : Except PacketError (Nat × Bytes) := match blocks with
  | [] => .error .format
  | start :: rest =>
    let type := rd start.bytes 1 1
    let len := rd start.bytes 2 2
    let n := (len + 7) / 8
    let body := rest.take n
    let payload := ((body.map (·.bytes)).flatten).take len
    if !start.isControl 0x33 || decide (16384 < len) || decide (body.length ≠ n) || body.any fun b => decide (b.sync ≠ .data) then .error .format
    else match rest.drop n with
      | [] => .error .format
      | e :: _ =>
        if !e.isControl 0x87 || decide (rd e.bytes 5 1 ≠ type) then .error .format
        else if rd e.bytes 1 4 ≠ crc32c payload then .error .crc
        else .ok (type, payload)

/-- The stream of the enabled lanes: blocks taken from each in turn, lane 0 first (16 R368). -/
def laneStream : Nat → List (List Block) → List Block
  | 0, _ => []
  | k + 1, lanes => lanes.filterMap List.head? ++ laneStream k (lanes.map List.tail)

end Sys2Proof.Machine
end

