-- ==== Sys2Proof/Laws/Lanes.lean ====
section
/-! SUPPORT. Lanes (09 R193 to R199; 16 R366 to R369): what the far end recovers is what was sent. -/

namespace Sys2Proof.Machine

open Sys2Proof

/-- Two scramblers that hold the same bits undo each other (09 R193). -/
theorem descramble_scramble (past xs : List Bool) : descramble past (scramble past xs) = xs := by
  induction xs generalizing past with
  | nil => rfl
  | cons x xs ih =>
    unfold scramble descramble
    rw [ih, Bool.xor_assoc, Bool.xor_self, Bool.xor_false]

theorem dataBlocks_length (n : Nat) (b : Bytes) : (dataBlocks n b).length = n := by
  induction n generalizing b with
  | zero => rfl
  | succ n ih => exact congrArg (· + 1) (ih _)

theorem dataBlocks_sync (n : Nat) (b : Bytes) : ∀ x ∈ dataBlocks n b, x.sync = .data := by
  induction n generalizing b with
  | zero => simp [dataBlocks]
  | succ n ih =>
    intro x hx
    cases List.mem_cons.mp hx with
    | inl h => rw [h]; rfl
    | inr h => exact ih _ x h

/-- Data blocks carry the stream, as far as they reach. -/
theorem dataBlocks_take (n : Nat) (b : Bytes) (h : b.length ≤ 8 * n) :
    (((dataBlocks n b).map (·.bytes)).flatten).take b.length = b := by
  induction n generalizing b with
  | zero => have := List.length_eq_zero_iff.mp (Nat.le_zero.mp h); rw [this]; rfl
  | succ n ih =>
    unfold dataBlocks dataBlock
    rw [List.map_cons, List.flatten_cons]
    dsimp only
    by_cases hl : b.length ≤ 8
    · rw [List.take_append_of_le_length (by rw [padTo_length]; exact hl), List.take_of_length_le hl]
      unfold padTo
      rw [List.take_of_length_le hl, List.take_append_of_le_length (Nat.le_refl _), List.take_length]
    · have e : padTo 8 (b.take 8) = b.take 8 := by
        unfold padTo zeros
        rw [List.take_take, Nat.min_self, show 8 - (b.take 8).length = 0 by rw [List.length_take]; omega]
        exact List.append_nil _
      have hd : (b.drop 8).length ≤ 8 * n := by rw [List.length_drop]; omega
      have t := ih (b.drop 8) hd
      have l8 : (b.take 8).length = 8 := by rw [List.length_take]; omega
      rw [List.length_drop] at t
      rw [e, List.take_append, l8, t, List.take_of_length_le (by omega), List.take_append_drop]

/-- The receiver takes the packet that was sent (16 R369). -/
theorem packetRead_packetBlocks (type : Nat) (p : Bytes) (ht : type < 256) (hp : p.length ≤ 16384) :
    packetRead (packetBlocks type p) = .ok (type, p) := by
  have hn : (dataBlocks ((p.length + 7) / 8) p).length = (p.length + 7) / 8 := dataBlocks_length _ _
  have t1 : rd (startBlock type p.length).bytes 1 1 = type := by
    have := rd_le (le 1 0x33) (le 2 p.length ++ zeros 4) 1 1 type rfl
    have e : (startBlock type p.length).bytes = le 1 0x33 ++ (le 1 type ++ (le 2 p.length ++ zeros 4)) := by
      simp [startBlock, controlBlock, padTo, le, zeros]
    rw [e, this]; omega
  have t2 : rd (startBlock type p.length).bytes 2 2 = p.length := by
    have := rd_le (le 1 0x33 ++ le 1 type) (zeros 4) 2 2 p.length rfl
    have e : (startBlock type p.length).bytes = le 1 0x33 ++ le 1 type ++ (le 2 p.length ++ zeros 4) := by
      simp [startBlock, controlBlock, padTo, le, zeros]
    rw [e, this]; omega
  have u1 : rd (endBlock type p).bytes 5 1 = type := by
    have := rd_le (le 1 0x87 ++ le 4 (crc32c p)) (zeros 2) 5 1 type rfl
    have e : (endBlock type p).bytes = le 1 0x87 ++ le 4 (crc32c p) ++ (le 1 type ++ zeros 2) := by
      simp [endBlock, controlBlock, padTo, le, zeros]
    rw [e, this]; omega
  have u2 : rd (endBlock type p).bytes 1 4 = crc32c p := by
    have := rd_le (le 1 0x87) (le 1 type ++ zeros 2) 1 4 (crc32c p) rfl
    have e : (endBlock type p).bytes = le 1 0x87 ++ (le 4 (crc32c p) ++ (le 1 type ++ zeros 2)) := by
      simp [endBlock, controlBlock, padTo, le, zeros]
    have hc : crc32c p < 2 ^ 32 := Nat.xor_lt_two_pow (crcR_lt _ _ _ (by decide) (by decide)) (by decide)
    rw [e, this]; omega
  have c1 : (startBlock type p.length).isControl 0x33 = true := rfl
  have c2 : (endBlock type p).isControl 0x87 = true := rfl
  unfold packetRead packetBlocks
  dsimp only [List.cons_append]
  rw [t1, t2, List.take_left' hn, List.drop_left' hn, dataBlocks_take _ _ (by omega)]
  simp [c1, c2, u1, u2, hn, show ¬ 16384 < p.length by omega]
  exact dataBlocks_sync _ _

end Sys2Proof.Machine
end

