-- ==== Sys2Proof/Machine/Tap.lean ====
section
/-! DEFINITION. The test access port (19 R427). No row of the table clocks it, so no command reaches these operations: they
say what a cycle of JTAG_TCK and a low JTAG_TRST_N do to State, and what the port then drives. The controller's graph is
that of IEEE 1149.1, which R427 names (PRESUMED, log 87). -/

namespace Sys2Proof.Machine

open Sys2Proof

/-- IDCODE as it reads (R427). -/
def tapIdcode : Nat := 0x13216A6B

/-- The controller at a rising edge of JTAG_TCK, by JTAG_TMS. -/
def TapCtl.next (tms : Bool) : TapCtl → TapCtl
  | .testLogicReset => if tms then .testLogicReset else .runTestIdle
  | .runTestIdle => if tms then .selectDr else .runTestIdle
  | .selectDr => if tms then .selectIr else .captureDr
  | .captureDr => if tms then .exit1Dr else .shiftDr
  | .shiftDr => if tms then .exit1Dr else .shiftDr
  | .exit1Dr => if tms then .updateDr else .pauseDr
  | .pauseDr => if tms then .exit2Dr else .pauseDr
  | .exit2Dr => if tms then .updateDr else .shiftDr
  | .updateDr => if tms then .selectDr else .runTestIdle
  | .selectIr => if tms then .testLogicReset else .captureIr
  | .captureIr => if tms then .exit1Ir else .shiftIr
  | .shiftIr => if tms then .exit1Ir else .shiftIr
  | .exit1Ir => if tms then .updateIr else .pauseIr
  | .pauseIr => if tms then .exit2Ir else .pauseIr
  | .exit2Ir => if tms then .updateIr else .shiftIr
  | .updateIr => if tms then .selectDr else .runTestIdle

/-- The instruction a pattern of the instruction register selects: BYPASS where it names no other. -/
def tapInstrOf (ir : List Bool) : TapInstr := match Config.tapSelect ir with
  | 1 => .idcode | 2 => .samplePreload | 3 => .extest | 4 => .clamp | 5 => .highz | _ => .bypass

/-- The instruction as it acts: EXTEST, CLAMP and HIGHZ act only while RST_N is low, and as BYPASS at any other time (R427). -/
def Pins.tapActs (p : Pins) : TapInstr := match p.tap.instr with
  | .extest => if p.rstN then .bypass else .extest
  | .clamp => if p.rstN then .bypass else .clamp
  | .highz => if p.rstN then .bypass else .highz
  | i => i

/-- The `n` low bits of a number, bit 0 first. -/
def bitList (n v : Nat) : List Bool := (List.range n).map fun i => bitAt v i

/-- What the data register of the instruction captures: IDCODE, a 0 for the bypass register, the pins for the boundary
register, which `seen` gives. -/
def tapCapture (i : TapInstr) (seen : Nat) : List Bool := match i with
  | .idcode => bitList 32 tapIdcode
  | .samplePreload | .extest => bitList Config.boundaryLength seen
  | .bypass | .clamp | .highz => [false]

/-- One shift: the stage nearest JTAG_TDO leaves, JTAG_TDI enters. -/
def shiftIn (tdi : Bool) (l : List Bool) : List Bool := l.drop 1 ++ [tdi]

/-- The port after a cycle of JTAG_TCK; `seen` are the pins as the boundary register samples them. Captures and shifts fall at
the rising edge, updates at the falling edge after it. -/
def Pins.tapEdge (tms tdi : Bool) (seen : Nat) (p : Pins) : Tap :=
  let t := p.tap
  let u : Tap := match t.ctl with
    | .captureDr => { t with dr := tapCapture p.tapActs seen }
    | .shiftDr => { t with dr := shiftIn tdi t.dr }
    | .captureIr => { t with ir := [true, false] ++ bitList (Config.tapIrLength - 2) seen }
    | .shiftIr => { t with ir := shiftIn tdi t.ir }
    | _ => t
  let u := { u with ctl := t.ctl.next tms }
  match u.ctl with
  | .testLogicReset => { u with instr := .idcode }
  | .updateDr => if p.tapActs = .samplePreload ∨ p.tapActs = .extest then { u with cells := u.dr } else u
  | .updateIr => { u with instr := tapInstrOf u.ir }
  | _ => u

/-- A cycle of JTAG_TCK. The pins sampled are a free value. -/
def State.tapClock (tms tdi : Bool) (s : State) : State :=
  if s.pins.tap.on then { s with pins := { s.pins with tap := s.pins.tapEdge tms tdi s.free } }.useFree else s

/-- JTAG_TRST_N is low: the controller is in its reset state, and IDCODE is the instruction. -/
def State.tapReset (s : State) : State :=
  if s.pins.tap.on then { s with pins := { s.pins with tap := { s.pins.tap with ctl := .testLogicReset, instr := .idcode } } } else s

/-- JTAG_TDO: high impedance except while shifting (19 R421). -/
def Pins.tdo (p : Pins) : Option Bool := match p.tap.on, p.tap.ctl with
  | true, .shiftDr => p.tap.dr.head?
  | true, .shiftIr => p.tap.ir.head?
  | _, _ => none

/-- What boundary scan makes of the pins it covers: nothing, the updated cells, or high impedance. -/
inductive Boundary where
  | off
  | cells (l : List Bool)
  | highz
deriving DecidableEq, Repr

/-- Boundary scan takes a pin only while RST_N is low (R427). -/
def Pins.boundary (p : Pins) : Boundary := match p.tapActs with
  | .extest | .clamp => if p.tap.on then .cells p.tap.cells else .off
  | .highz => if p.tap.on then .highz else .off
  | .bypass | .idcode | .samplePreload => .off

/-- Debug access to the management cores is open in MANUFACTURE and RETURN only (17 R391). -/
def State.debugOpen (s : State) : Bool := s.pins.tap.on && decide (s.power.efuseShown.lifecycle = 0 ∨ s.power.efuseShown.lifecycle = 3)

end Sys2Proof.Machine
end

