-- ==== Sys2Proof/Laws/Tap.lean ====
section
/-! SUPPORT. The test access port (19 R427): what its operations can do, and that boundary scan keeps off the pins while
RST_N is high. -/

namespace Sys2Proof.Machine

open Sys2Proof

/-- Five cycles with JTAG_TMS high reach Test-Logic-Reset from every state of the controller. -/
theorem tap_five_ones (c : TapCtl) : ((((c.next true).next true).next true).next true).next true = .testLogicReset := by
  cases c <;> rfl

/-- With RST_N high, EXTEST, CLAMP and HIGHZ act as BYPASS, and every other instruction as itself. -/
theorem tapActs_running (p : Pins) (h : p.rstN = true) :
    p.tapActs = match p.tap.instr with
      | .extest | .clamp | .highz => .bypass
      | i => i := by
  unfold Pins.tapActs
  rw [h]
  cases p.tap.instr <;> rfl

/-- Boundary scan takes no pin while RST_N is high. -/
theorem boundary_off (p : Pins) (h : p.rstN = true) : p.boundary = .off := by
  unfold Pins.boundary
  rw [tapActs_running p h]
  cases p.tap.instr <;> rfl

/-- A cycle of JTAG_TCK changes the port, and uses up a free value. -/
theorem tapClock_frame (tms tdi : Bool) (s : State) :
    ∃ t f, s.tapClock tms tdi = { s with pins := { s.pins with tap := t }, freeSeq := f } := by
  unfold State.tapClock
  split
  · exact ⟨_, _, rfl⟩
  · exact ⟨s.pins.tap, s.freeSeq, rfl⟩

/-- JTAG_TRST_N changes the port alone. -/
theorem tapReset_frame (s : State) : ∃ t, s.tapReset = { s with pins := { s.pins with tap := t } } := by
  unfold State.tapReset
  split
  · exact ⟨_, rfl⟩
  · exact ⟨s.pins.tap, rfl⟩

end Sys2Proof.Machine
end

