-- ==== Sys2Proof/Tests/Slice0.lean ====
section
/-! SUPPORT. Tests of the model, and for every obligation with hypotheses a state and operands that meet them. -/

namespace Sys2Proof.Tests

open Sys2Proof Sys2Proof.Machine

set_option exponentiation.threshold 1024

/-! ### Small states -/

/-- A Deal of one tile of 64 by 8 pixels, one video slot, one scaler, one loop, and a partition of each kind used here. -/
def deal : Deal where
  seq := 5
  secVer := 0
  keySlot := 0
  sectionCount := 8
  luminaireId := 1
  rateMask := 0x1F
  defaultRate := 2
  hostPresent := true
  dramMib := 2048
  tiles := [{ present := true, type := 1, width := 64, height := 8, serial := 7, holdFrames := 4, hotSwap := true, calPart := 2, fmapPart := 0xFF }]
  slots := [⟨0, 0, 1, 15, 64, 8, 0x3F, 0xFF, 1⟩, ⟨0, 1, 2, 15, 64, 8, 0x3F, 0, 1⟩, ⟨0, 2, 3, 15, 64, 8, 0x3F, 0xFF, 1⟩]
  scalers := [⟨0, 1, 2048, 8, 8⟩]
  loops := [⟨0, 1, 1, [0x0100, 0x0101], [0x1100]⟩]
  irqs := [⟨16, 5, 0xFF⟩]
  parts := [⟨1, 1, 0xFF, 0xF, 0x100000, 0x100000⟩, ⟨2, 2, 0, 3, 0x200000, 0x100000⟩, ⟨3, 3, 0, 3, 0x300000, 0x100000⟩,
    ⟨5, 5, 0xFF, 3, 0x1000000, 0x1000000⟩]
  domainEn := 0x7FFF
  accent := some ([1, 0, 0, 0], 0)
  role := 0
  lane := 0
  pairId := 0
  fallbacks := []
  pubkey := []
  matchDigest := 0

/-- A chip in a device state, its memory trained, its host link up, the firmware running, the Deal in force from DEALT on. -/
def chip (st : DevState) : State := { State.reset with
  dev := { state := st }
  deal := { inForce := match st with
    | .off | .pasteurise | .boot | .undealt => none
    | .dealt | .lit | .hold | .safeLight | .fatal => some deal }
  host := { linkUp := true, bme := true }
  memc := { trained := true, sizeGib := 2 }
  power := { ready := 0x7FFF, absent := false, started := some 0, startDue := false, firstStart := false }
  rings := State.reset.rings.set 0 { enable := true, sqTail := 1 }
  timing := { started := true, period := 416666 } }

/-- A command with a tag and parameter bytes as a number. -/
def cmd (params : Nat) : Cmd := ⟨0, 1, 0, 0, 0, BitVec.ofNat 448 params⟩
/-- The submission of a command on ring 0. -/
def sub (params : Nat) : Submission := ⟨0, cmd params⟩
/-- A reference to a command of ring 0. -/
def ref (op : Nat) : CmdRef := ⟨0, 1, op, 0, false, 0⟩

/-- The chip with one port changed. -/
def port (s : State) (p : Port) : State := { s with ports := s.ports.set 0 p }
/-- The chip with one tile end changed. -/
def tile (t : Tile) : State := { chip .lit with tiles := (chip .lit).tiles.set 0 t }
/-- The maker's data of a tile of 64 by 8 pixels. -/
def maker : TileMaker := ⟨1, 7, 64, 8, 3, 100, 1, false⟩

/-- A parameter value at a byte offset of a command. -/
def arg (off v : Nat) : Nat := v * 2 ^ (8 * (off - 8))

/-! ### Witnesses of the hypotheses: power and resets -/

theorem test_witness_PowerLossEntersOff : (chip .lit).on ∧ (chip .pasteurise).on := by unfold State.on; decide

theorem test_witness_PowerOnEntersPasteurise : (chip .off).dev.state = .off ∧ (chip .fatal).on := by unfold State.on; decide

/-- A job of LIFECYCLE_ADVANCE that the firmware has begun. -/
def fuseJob : FuseJob := ⟨ref 0x58, 1, [], true⟩
/-- Dumping is over and AUTO_RESET stands at 1 s. -/
def dumped : State := ({ chip .fatal with power := { (chip .fatal).power with dumpNone := true } }).setFld Reg.PWR_DUMP_CFG 7 0 1

theorem test_witness_ResetsEnterPasteurise :
    ((chip .lit).serves .host Reg.PWR_RESET ∧ (0x5EA50001 : Nat) % 2 = 1 ∧ bitsOf 0x5EA50001 31 16 = 0x5EA5) ∧
    (dumped.dev.state = .fatal ∧ dumped.fld Reg.PWR_DUMP_CFG 7 0 ≠ 0 ∧ dumped.dumping = false) ∧
    ({ chip .lit with power := { (chip .lit).power with fuseJobs := [fuseJob] } }.on ∧ fuseJob.begun = true) := by
  simp only [State.on, State.serves]; decide

theorem test_witness_PasteuriseEndsInBoot : (chip .pasteurise).dev.state = .pasteurise ∧ (chip .pasteurise).quiet := by
  unfold State.quiet; decide

theorem test_witness_BootWithoutDealIsUndealt : (chip .boot).dev.state = .boot ∧ (chip .boot).power.started.isSome = true ∧ (chip .boot).quiet ∧
    (chip .boot).judgeSlot [] ≠ .ok := by unfold State.quiet; decide

theorem test_witness_BootDealChosen : (chip .boot).dev.state = .boot ∧ (chip .boot).power.started.isSome = true := by decide

/-- The watchdog is on with the shortest period. -/
def watched : State := (chip .boot).setReg Reg.PWR_WDOG_CFG 0x10001#32
/-- An FW_SWITCH that has not failed. -/
def switching : SwitchJob := ⟨ref 0x51, 1, 0, 0, none⟩

theorem test_witness_CoreRestartRows : (watched.coresRun = true ∧ watched.quiet ∧ watched.bit Reg.PWR_WDOG_CFG 16 = true) ∧
    ({ chip .fatal with power := { (chip .fatal).power with switch := some switching } }.on ∧ switching.failed = none) := by
  simp only [State.on, State.quiet]; decide

theorem test_witness_FirmwareSlotChosen :
    (chip .boot).coresRun = true ∧ { (chip .boot).power with startDue := true }.startDue = true ∧ (chip .boot).power.switch = none := by decide

/-- The firmware is absent. -/
def absent (st : DevState) : State := { chip st with power := { (chip st).power with absent := true } }

theorem test_witness_FirmwareKeys : (chip .boot).serves .core Reg.PWR_WDOG_KICK ∧ (chip .boot).serves .core Reg.PWR_FW_ALIVE ∧
    (absent .boot).serves .core Reg.PWR_FW_ALIVE ∧ (absent .boot).power.absent = true ∧ (absent .boot).power.started.isSome = true ∧
    bitsOf 0xC0DE 15 0 = 0xC0DE ∧ bitsOf 0xA11E 15 0 = 0xA11E ∧ bitsOf 0xA11F 15 0 ≠ 0xA11E ∧ (chip .boot).host.d3hot = false := by
  simp only [State.serves]; decide

theorem test_witness_AbsenceReachesItsLimit : (absent .lit).coresRun = true ∧ (absent .lit).power.absent = true := by decide

/-- A chip on which every service job of 17 runs. -/
def serving : State := { chip .dealt with
  power := { (chip .dealt).power with stage := some ⟨ref 0x50, 1, 2, 0⟩, dumpDone := true, dumpSize := 64 }
  dealer := { fetches := [⟨ref 0x48, 0, 0, 64⟩], scans := Vector.replicate 2 (some ⟨ref 0x40, 1, 0, 1⟩), copies := [⟨ref 0x12, 0, 0x200000, 64, 0⟩]
              syncs := [⟨ref 0x02, 64, [], false, 0⟩] } }

theorem test_witness_ServiceJobsEnd : serving.on ∧ serving.power.stage.isSome = true ∧ serving.power.absent = false ∧ serving.hostReady = true ∧
    serving.dumpPart.isSome = true ∧ (chip .fatal).dumping = true ∧ (chip .fatal).dumpPart.isSome = true ∧ (chip .fatal).power.absent = false ∧
    serving.dramGood 0x1000000 64 = true ∧ (serving.dealer.scans.get 1).isSome = true ∧ serving.dramGood 0 1 = true := by
  simp only [State.on]; decide

theorem test_witness_ClockLossAndReadyDomains : (chip .boot).on ∧ bitAt (chip .boot).domainsOn 6 = true := by unfold State.on; decide

/-! ### Witnesses: the host port, registers, queues, memory -/

theorem test_witness_RingPointersMoveForward : (chip .lit).serves .host (Reg.DEV_RING_SQ_TAIL 3) ∧ (chip .lit).serves .core (Reg.DEV_RING_CQ_HEAD 0) := by
  simp only [State.serves]; decide

/-- Ring 1 with a completion held, or local in a partition that holds it. -/
def heldRing : Ring := { sizeLog2 := 4, held := [⟨1, .ok, false, 1, 0xFF, 0, 0, 0, false⟩] }

theorem test_witness_RingConfigured :
    let x := (chip .lit).ring 1
    (chip .lit).serves .host (Reg.DEV_RING_CFG 1) ∧ x.enable = false ∧ bitAt 0x104 8 = true ∧
    ¬(2 ^ heldRing.sizeLog2 - 1 < heldRing.held.length) ∧
    ((chip .undealt).theDeal.isNone = true ∧ bitAt 0x304 9 = true) ∧
    (((chip .lit).ring 0).enable = true ∧ bitAt 0x4 8 = false) ∧ bitAt 0x10004 16 = true ∧ (chip .lit).serves .host (Reg.DEV_RING_STAT 0) := by
  simp only [State.serves]; decide

/-- The host sleeps. -/
def asleep : State := { chip .lit with host := { linkUp := true, d3hot := true } }

theorem test_witness_HostLinkLostAndRegained : (chip .lit).on ∧ (chip .lit).host.linkUp = true ∧ (chip .lit).quiet ∧ (chip .lit).hostOn = true ∧
    (chip .lit).host.d3hot = false ∧ asleep.on ∧ asleep.quiet ∧ asleep.host.linkUp = true ∧ asleep.host.d3hot = true := by
  simp only [State.on, State.quiet]; decide

theorem test_witness_Bar2ReadsAndWritesDram :
    let s := chip .lit
    s.on ∧ s.quiet ∧ s.host.linkUp = true ∧ s.host.d3hot = false ∧ s.fld Reg.MEMC_BAR2_BASE 13 0 = 0 ∧
    (s.permitted 0x100000 1 0 = true ∧ s.dramGood 0x100000 1 = true ∧ s.permitted 0x100000 2 1 = true ∧
      (s.dramWrite 0x100000 [1, 2]).dramGood 0x100000 2 = true) ∧
    (s.permitted 0x7FFFFFF 1 0 = false ∧ s.permitted 0x7FFFFFF 1 1 = false) := by
  simp only [State.on, State.quiet]; decide

/-- A core hand that has selected a source it may claim, or may no longer claim. -/
def selecting : State := { ((chip .lit).setReg (Reg.INTC_SRC_CFG 16) 0x00010007#32).setReg (Reg.INTC_HAND_CFG 0) 1#32 with
  intc := { cores := Vector.replicate 2 { pend := 1#384 <<< 16, selected := 16, stack := [(17, 6), (18, 1)] } } }

theorem test_witness_MasterReadsRegisters : (chip .pasteurise).reaches .host = true ∧ (chip .pasteurise).asleep .host = false ∧
    (4 : Nat) ≠ Reg.INTC_HAND_CLAIM 0 ∧ selecting.on ∧ (selecting.intc.cores.get 0).selected ≠ 0 ∧
    (selecting.claimable 0 16 && !selecting.srcMasked 16 && bitAt (selecting.srcRoute 16) 0) = true ∧
    (selecting.claimable 1 16 && !selecting.srcMasked 16 && bitAt (selecting.srcRoute 16) 1) = false ∧
    ((chip .lit).intc.cores.get 0).selected = 0 ∧ (chip .boot).dev.state ≠ .pasteurise := by
  simp only [State.on]; decide

/-- A window and two hold-offs, one with a record that waits. -/
def held : State := { chip .lit with intc := {
  windows := [⟨1, 0, 1, 100, none⟩], holdoffs := [⟨1, 0, 5, none, []⟩, ⟨1, 1, 5, none, [16]⟩, ⟨3, 7, 5, none, [300]⟩] } }

theorem test_witness_InterruptHandsAndWindows : held.on ∧ (held.intc.windows.find? fun w => w.src = 1).isSome = true ∧
    (held.intc.holdoffs.find? fun o => o.group = 0 + 1 ∧ o.hand = 0) = some ⟨1, 0, 5, none, []⟩ ∧
    (held.intc.holdoffs.find? fun o => o.group = 0 + 1 ∧ o.hand = 1) = some ⟨1, 1, 5, none, [16]⟩ ∧
    (held.intc.holdoffs.find? fun o => o.group = 2 + 1 ∧ o.hand = 7) = some ⟨3, 7, 5, none, [300]⟩ ∧
    selecting.serves .core (Reg.INTC_HAND_CLAIM 1) ∧ (selecting.intc.cores.get 1).stack = [(17, 6), (18, 1)] ∧
    (17 : Nat) = bitsOf 17 9 0 ∧ (17 : Nat) ≠ bitsOf 18 9 0 ∧ selecting.serves .host (Reg.INTC_HAND_PEND 1 11) := by
  simp only [State.on, State.serves]; decide

theorem test_witness_SourceRoutingFields : (chip .lit).quiet ∧ reservedSource 360 = false ∧ reservedSource 1 = false ∧
    (chip .lit).serves .host (Reg.INTC_SRC_CFG 360) ∧ (chip .lit).serves .core (Reg.INTC_SRC_CFG 1) := by
  simp only [State.quiet, State.serves]; decide

/-- Queue 0 is enabled and has three records that are not consumed. -/
def queued : State := { ((chip .lit).setFld (Reg.EVQ_CFG 0) 8 8 1) with intc := { queues := Vector.replicate 8 { prod := 2, cons := 0xFFFFFFFF } } }

theorem test_witness_EventQueuesRun :
    ((chip .lit).serves .host (Reg.EVQ_CFG 5) ∧ (chip .lit).serves .core (Reg.EVQ_CFG 7) ∧ (chip .lit).evqEnabled 5 = false ∧ bitAt 0x106 8 = true) ∧
    (queued.serves .host (Reg.EVQ_CFG 0) ∧ queued.evqEnabled 0 = true ∧ bitAt 6 8 = false) ∧
    (queued.serves .host (Reg.EVQ_CONS 0) ∧ (2 + 2 ^ 32 - (queued.evq 0).cons) % 2 ^ 32 ≤ ((queued.evq 0).prod + 2 ^ 32 - (queued.evq 0).cons) % 2 ^ 32 ∧
      ¬(3 + 2 ^ 32 - (queued.evq 0).cons) % 2 ^ 32 ≤ ((queued.evq 0).prod + 2 ^ 32 - (queued.evq 0).cons) % 2 ^ 32) ∧
    queued.serves .host (Reg.EVQ_CTL 5) ∧ queued.serves .core (Reg.EVQ_STAT 7) := by
  refine ⟨?_, ?_, ?_, ?_⟩ <;> (try simp only [State.serves]) <;> decide

theorem test_witness_MemoryControllerRows :
    let s := (chip .lit).setReg Reg.MEMC_SR_CFG 0x00050201#32
    s.on ∧ s.memc.srSince = none ∧ s.memc.trained = true ∧ s.bit Reg.MEMC_SR_CFG 0 = true ∧ max 2 (s.fld Reg.MEMC_SR_CFG 15 8) ≤ 2 ∧
    { s with memc := { srSince := some 3 } }.memc.srSince = some 3 ∧ State.reset.memc.trained = false ∧ (chip .boot).dev.state = .boot ∧
    (s.setFld Reg.MEMC_SCRUB 0 0 1).bit Reg.MEMC_SCRUB 0 = true ∧ 0 < s.dataSpace := by
  simp only [State.on]; decide

/-! ### Witnesses: commands submitted to the Dealer -/

/-- Port 0 in a state, all lanes locked. -/
def linked (st : DevState) (k : Nat) : State := port (chip st) { state := k, lockA := true, lockB := true, retLock := true }

theorem test_witness_StateCommandsWaitForTheirCut :
    ((linked .dealt 2).passes 0x05 (sub (arg 8 1)) ∧ tidy (sub (arg 8 1)) [(8, 2)] ∧ par (cmd (arg 8 1)) 8 2 ≠ 0 ∧
      ∀ n : TileId, (par (cmd (arg 8 1)) 8 2).testBit n.val = true → ((linked .dealt 2).port n).state = 2) ∧
    ((chip .hold).passes 0x08 (sub 0) ∧ (chip .lit).passes 0x07 (sub 0) ∧ tidy (sub 0) []) ∧
    ((chip .safeLight).passes 0x08 (sub 0) ∧ countClass (chip .safeLight).faults.pend 3 = 0 ∧ countClass (chip .safeLight).faults.pend 4 = 0 ∧
      (chip .safeLight).house.therm.hottest < 1100) := by
  refine ⟨?_, ?_, ?_⟩ <;> simp only [State.passes, State.readable, State.clears, tidy] <;> decide

/-- Tile 0 is in the lit set. -/
def lit : State := { linked .lit 3 with dev := { state := .lit, litSet := 1 } }

theorem test_witness_StateCommandsWaitForTheirCut_darken : lit.passes 0x06 (sub (arg 8 1)) ∧
    ∀ n : TileId, (par (cmd (arg 8 1)) 8 2).testBit n.val = true → lit.inLit n = true := by
  simp only [State.passes, State.readable, State.clears]; decide

/-- The dump is done, with 64 bytes. -/
def dumpMade : State := { chip .fatal with power := { (chip .fatal).power with dumpDone := true, dumpSize := 64 } }

theorem test_witness_TransferCommandsAccepted :
    ((chip .undealt).passes 0x01 (sub 0) ∧ tidy (sub 0) []) ∧
    ((chip .lit).passes 0x02 (sub (arg 8 64 + arg 16 1)) ∧ tidy (sub (arg 8 64 + arg 16 1)) [(8, 8), (16, 1)]) ∧
    (let q := sub (arg 16 0x200000 + arg 24 64 + arg 28 2)
     (chip .lit).passes 0x12 q ∧ tidy q [(8, 8), (16, 8), (24, 4), (28, 1)] ∧ (chip .lit).partEntry (par q.cmd 28 1) = some ⟨2, 2, 0, 3, 0x200000, 0x100000⟩ ∧
     par q.cmd 24 4 = 64 ∧ par q.cmd 16 8 = 0x200000 ∧ (chip .lit).dealer.copies.length < 16) ∧
    (let q := sub (arg 20 64)
     dumpMade.passes 0x48 q ∧ tidy q [(8, 8), (16, 4), (20, 4)] ∧ par q.cmd 16 4 + par q.cmd 20 4 ≤ dumpMade.power.dumpSize ∧
     dumpMade.power.dumpDone = true ∧ dumpMade.power.dumpNone = false) ∧
    (let q := sub (arg 8 1 + arg 9 2 + arg 24 1)
     (chip .lit).passes 0x40 q ∧ tidy q [(8, 1), (9, 1), (16, 8), (24, 4)] ∧ par q.cmd 8 1 = 1 ∧ par q.cmd 24 4 = 1 ∧
     par q.cmd 16 8 + par q.cmd 24 4 ≤ (chip .lit).dataSpace ∧ (chip .lit).dealer.scans.get 1 = none) := by
  refine ⟨?_, ?_, ?_, ?_, ?_⟩ <;> simp only [State.passes, State.readable, State.clears, tidy] <;> decide

theorem test_witness_DealAndTimingCommandsAccepted :
    ((chip .undealt).passes 0x03 (sub (arg 16 64)) ∧ tidy (sub (arg 16 64)) [(8, 8), (16, 4)]) ∧
    (let q := sub (arg 20 3)
     (chip .lit).passes 0x04 q ∧ tidy q [(8, 8), (16, 4), (20, 1)] ∧ par q.cmd 20 1 ≤ 3 ∧ (chip .lit).deal.redeal = none ∧ (chip .lit).deal.jobs = []) ∧
    (let q := sub (arg 8 4 + arg 9 1)
     (chip .lit).passes 0x09 q ∧ tidy q [(8, 1), (9, 1)] ∧ par q.cmd 8 1 = 4 ∧ par q.cmd 9 1 = 1 ∧ (chip .lit).theDeal = some deal ∧
     deal.rateMask.testBit 4 = true ∧ (chip .lit).timing.retime = none) := by
  refine ⟨?_, ?_, ?_⟩ <;> simp only [State.passes, State.readable, State.clears, tidy] <;> decide

/-- Tile 0 has a trump set of 15 pages. -/
def trumped : State := { chip .lit with churns := (chip .lit).churns.set 0 { trump := some ⟨1, 15, []⟩ } }

theorem test_witness_SlotCommandsAccepted :
    (let q := sub (arg 9 1 + arg 16 0x100000)
     (chip .lit).passes 0x10 q ∧ par q.cmd 8 1 = 0 ∧ par q.cmd 9 1 = 1 ∧ (chip .lit).slotEntry 0 1 = some ⟨0, 1, 2, 15, 64, 8, 0x3F, 0, 1⟩ ∧
     tidy q [(8, 1), (9, 1), (10, 1), (11, 1), (12, 2), (14, 2), (16, 8), (24, 4), (28, 2), (32, 8), (40, 4), (44, 2), (46, 2)] ∧
     (chip .lit).dramGood 0x100000 64 = true) ∧
    (let q := sub (arg 16 0x100000)
     (chip .lit).passes 0x10 q ∧ par q.cmd 9 1 = 0 ∧ (chip .lit).slotEntry 0 0 = some ⟨0, 0, 1, 15, 64, 8, 0x3F, 0xFF, 1⟩ ∧
     (chip .lit).dramGood 0x100000 (rd ((chip .lit).dramRead 0x100000 64) 8 4) = true) ∧
    (let q := sub (arg 9 2)
     (chip .lit).passes 0x11 q ∧ tidy q [(8, 1), (9, 1)] ∧ par q.cmd 9 1 = 2 ∧ (chip .lit).declared 0 = true ∧ ((chip .lit).slotEntry 0 2).isSome = true) ∧
    (let q := sub (arg 8 1 + arg 10 15)
     trumped.passes 0x13 q ∧ tidy q [(8, 2), (10, 1)] ∧ ∀ k : TileId, (par q.cmd 8 2).testBit k.val = true → trumped.declared k = true ∧
       par q.cmd 10 1 ≤ ((trumped.churn k).trump.map (·.pageCount)).getD 0) := by
  refine ⟨?_, ?_, ?_, ?_⟩ <;> simp only [State.passes, State.readable, State.clears, tidy] <;> decide

/-- One floor zone of three vertices on tile 0. -/
def zoned : State := { chip .lit with dram := [(0x100002, 1), (0x100004, 1), (0x100006, 3)] }

theorem test_witness_SkimCommandsAccepted :
    (let q := sub (arg 8 0x100000 + arg 16 1)
     zoned.passes 0x18 q ∧ tidy q [(8, 8), (16, 1)] ∧ par q.cmd 16 1 = 1 ∧ par q.cmd 8 8 = 0x100000) ∧
    (zoned.openPart 0x100000 80 = true ∧ zoned.dramGood 0x100000 80 = true ∧
     (∀ i < 1, zoneOk (entryOf (zoned.dramRead 0x100000 80) 80 i) i = true) ∧
     ∀ e ∈ entriesOf (zoned.dramRead 0x100000 80) 80, ∀ k : TileId, (rd e 2 2).testBit k.val = true → zoned.declared k = true) ∧
    ((chip .lit).passes 0x18 (sub 0) ∧ tidy (sub 0) [(8, 8), (16, 1)]) ∧
    (let q := sub (arg 8 1 + arg 10 3600)
     (chip .lit).passes 0x19 q ∧ tidy q [(8, 2), (10, 2)] ∧ par q.cmd 10 2 = 3600 ∧
     ∀ k : TileId, (par q.cmd 8 2).testBit k.val = true → (chip .lit).declared k = true) := by
  refine ⟨?_, ?_, ?_, ?_⟩ <;> (try simp only [State.passes, State.readable, State.clears, tidy]) <;> decide

/-- The tile's own identity, with a flash and a return input. -/
def ident : IdentBody := ⟨1, 7, 64, 8, 3, 3, 100, 1, 8⟩
/-- Port 0 in a state with its identity; a sensor record at 25.0 degrees; the NV writes are permitted. -/
def equipped (st : DevState) (k : Nat) : State :=
  { port (chip st) { state := k, lockA := true, lockB := true, retLock := true, ident := some ident, sensor := some ⟨100, 250, 0, 0, 0, 0⟩ } with
    house := { (chip st).house with therm := { (chip st).house.therm with nvOpen := true } } }

theorem test_witness_TileCommandsAccepted :
    (let s := equipped .lit 1
     s.passes 0x20 (sub 0) ∧ tidy (sub 0) [(8, 1)] ∧ par (cmd 0) 8 1 = 0 ∧ s.portOn 0 = true ∧ (s.port 0).state = 1 ∧ (s.port 0).retLock = true ∧
     s.chipLanes.any (s.port 0).lock = true ∧ (s.tileEntry 0).hotSwap = true ∧ s.identWrong 0 = false ∧ s.capsWrong 0 = false ∧ (s.port 0).admission = none ∧
     (s.port 0).retirement = none) ∧
    (lit.passes 0x21 (sub 0) ∧ (lit.port 0).admitted = true ∧ lit.inLit 0 = true ∧ (lit.tileEntry 0).hotSwap = true) ∧
    (let s := equipped .lit 3
     let q := sub (arg 16 0x200000 + arg 24 336)
     s.passes 0x22 q ∧ tidy q [(8, 1), (9, 1), (16, 8), (24, 4)] ∧ par q.cmd 24 4 = calLength (s.tileEntry 0) ∧
     s.partEntry (s.tileEntry 0).calPart = some ⟨2, 2, 0, 3, 0x200000, 0x100000⟩ ∧ (s.phot 0).calJob = none) ∧
    (let s := equipped .lit 3
     let q := sub (arg 9 1 + arg 16 0x200000 + arg 24 64)
     s.passes 0x22 q ∧ tidy q [(8, 1), (9, 1), (16, 8), (24, 4)] ∧ par q.cmd 9 1 = 1 ∧ par q.cmd 24 4 = 64 ∧
     (s.port 0).ident = some ident ∧ ident.caps.toNat.testBit 1 = true ∧ s.flashThermal 0 = true ∧ (s.port 0).flash = none) ∧
    (let q := sub (arg 24 1)
     lit.passes 0x23 q ∧ tidy q [(8, 1), (16, 8), (24, 4)] ∧ par q.cmd 24 4 = 1 ∧ lit.declared 0 = true) ∧
    (let s := linked .lit 2
     let q := sub (arg 9 7 + arg 10 1)
     s.passes 0x28 q ∧ tidy q [(8, 1), (9, 1), (10, 2)] ∧ par q.cmd 9 1 = 7 ∧ par q.cmd 10 2 = 1 ∧ s.testMaskOk 0 7 = true ∧ (s.port 0).test = none) := by
  refine ⟨?_, ?_, ?_, ?_, ?_, ?_⟩ <;> simp only [State.passes, State.readable, State.clears, tidy] <;> decide

/-- Loop 0 with a bank, loop 63 with an image loaded and a mode asked for. -/
def looped : State := { chip .lit with ctl := { (chip .lit).ctl with
  loops := ((chip .lit).ctl.loops.set 0 { imgA := some [], imgB := some [] }).set 63 { load := some (ref 0x30, []), modeCmd := some (ref 0x32, 1, 0) } } }

theorem test_witness_LoopCommandsAccepted :
    (let q := sub (arg 16 0x100000 + arg 24 (bankLength 1))
     looped.passes 0x30 q ∧ tidy q [(8, 1), (16, 8), (24, 4)] ∧ par q.cmd 24 4 = bankLength 1 ∧ par q.cmd 16 8 = 0x100000) ∧
    (looped.loopEntry 0 = some ⟨0, 1, 1, [0x0100, 0x0101], [0x1100]⟩ ∧ looped.loopPart ⟨0, 1, 1, [0x0100, 0x0101], [0x1100]⟩ 0x100000 (bankLength 1) = true ∧
      looped.dramGood 0x100000 (bankLength 1) = true ∧ (looped.loop 0).load = none ∧ (looped.loop 0).swap = none) ∧
    (looped.on ∧ (looped.loop 63).load = some (ref 0x30, []) ∧ (looped.loop 63).modeCmd = some (ref 0x32, 1, 0)) ∧
    (looped.passes 0x31 (sub (arg 8 1)) ∧ tidy (sub (arg 8 1)) [(8, 8)] ∧ par (cmd (arg 8 1)) 8 8 = 1 ∧ (looped.loop 0).otherBank.isSome = true) ∧
    (looped.passes 0x32 (sub (arg 9 3)) ∧ tidy (sub (arg 9 3)) [(8, 1), (9, 1)] ∧ par (cmd (arg 9 3)) 9 1 = 3 ∧ (looped.loop 0).bank.isSome = true ∧
      (looped.loop 0).modeCmd = none) ∧
    ((chip .lit).passes 0x38 (sub (arg 8 0x07)) ∧ tidy (sub (arg 8 0x07)) [(8, 4)] ∧ par (cmd (arg 8 0x07)) 8 4 = 7 ∧ (chip .lit).theDeal = some deal ∧
      deal.accent = some ([1, 0, 0, 0], 0) ∧ (chip .lit).house.cal = none ∧ (chip .lit).house.entry = none ∧ (chip .lit).house.save = none ∧
      (chip .lit).house.restore = none) := by
  refine ⟨?_, ?_, ?_, ?_, ?_, ?_⟩ <;> (try simp only [State.passes, State.readable, State.clears, tidy, State.on]) <;> decide

/-- A chip in DEALT whose other firmware slot is valid, in a pair of role 1. -/
def paired : State := { chip .dealt with
  power := { (chip .dealt).power with slots := Vector.replicate 2 ⟨true, 1, 0⟩ }
  deal := { inForce := some { deal with role := 1 } } }

theorem test_witness_FirmwareAndPartnerCommandsAccepted :
    (let q := sub (arg 8 1)
     paired.passes 0x50 q ∧ tidy q [(8, 1), (16, 8), (24, 4)] ∧ par q.cmd 8 1 = 1 ∧ paired.power.active = 0 ∧ paired.power.stage = none ∧
     paired.power.switch = none ∧ paired.host.linkUp = true ∧ paired.hostReady = true) ∧
    (serving.on ∧ serving.power.stage.isSome = true ∧ serving.power.absent = false) ∧
    (paired.passes 0x51 (sub (arg 8 1)) ∧ tidy (sub (arg 8 1)) [(8, 1)] ∧ paired.power.valid 1 = true) ∧
    (let q := sub (arg 8 3 + arg 24 192)
     paired.passes 0x58 q ∧ tidy q [(8, 1), (16, 8), (24, 4)] ∧ par q.cmd 8 1 = 3 ∧ par q.cmd 24 4 = 192 ∧ par q.cmd 16 8 = 0) ∧
    (paired.passes 0x60 (sub 0) ∧ paired.passes 0x61 (sub 0) ∧ tidy (sub 0) [] ∧ paired.role ≠ 0 ∧ paired.partner.state = 0 ∧ paired.partner.leave = none) := by
  refine ⟨?_, ?_, ?_, ?_, ?_⟩ <;> simp only [State.passes, State.readable, State.clears, tidy, State.on] <;> decide

/-- A NOP waits on ring 0 with WAIT_EN for a tag of ring 0. -/
def waitingCmd : WaitingCmd := ⟨ref 0x01, ⟨0, 1, 9, 0x80, 0, 0⟩, 0, false⟩
/-- The tag it waits for is completed, or is not. -/
def awaited (done : Bool) : WindowEntry := ⟨5, ⟨0, 9, 0, 0, 0, 0⟩, 1, if done then some ⟨9, .ok, false, 1, 0xFF, 0, 0, 0, false⟩ else none⟩
/-- The chip with the waiting NOP. -/
def waiting (done : Bool) : State := { chip .lit with
  rings := (chip .lit).rings.set 0 { enable := true, sqTail := 1, waiting := some waitingCmd, window := [awaited done] } }

theorem test_witness_StepOneAndTheWaits :
    (chip .lit).readable 0xFE (sub 0) ∧ headerFault 0xFE (cmd 0) = some 0 ∧ (waiting true).on ∧ ((waiting true).ring 0).waiting = some waitingCmd ∧
    waitingCmd.reading = false ∧ (waiting true).waitsMet 0 waitingCmd.cmd = true ∧ legalIn 0x01 (waiting true).dev.state = true ∧ unusedByte [] waitingCmd.cmd = none ∧
    (waiting false).waitsMet 0 waitingCmd.cmd = false := by
  simp only [State.readable, State.on]; decide

theorem test_witness_JobsReachTheirEnd :
    serving.on ∧ serving.dealer.copies.length = 1 ∧ serving.hostReady = true ∧ serving.host.linkUp = true ∧ serving.dealer.syncs.length = 1 ∧
    serving.dealer.fetches.length = 1 ∧ serving.dumpPart.isSome = true ∧ (serving.dealer.scans.get 0).isSome = true ∧
    { serving with deal := { serving.deal with jobs := [⟨ref 0x03, none, 0, 64⟩] } }.deal.jobs = [⟨ref 0x03, none, 0, 64⟩] ∧ serving.power.absent = false := by
  simp only [State.on]; decide

/-! ### Witnesses: the frame, the feed port and the memory -/

/-- The chip with a change of its timing. -/
def timed (f : Timing → Timing) : State := { chip .lit with timing := f (chip .lit).timing }

theorem test_witness_TicksAndCutsInOrder : (chip .lit).on ∧ (chip .lit).timing.started = true ∧ (chip .lit).timing.nextSample ≤ 7 ∧
    (chip .lit).timing.fenced = false ∧ (chip .lit).timing.pastCut = false ∧ (timed fun t => { t with pastCut := true }).timing.pastHorizon = false := by
  simp only [State.on]; decide

theorem test_witness_FreeRunningTicksDoNotDrift :
    let s := timed fun t => { t with lastTick := 416666, m := 1, period := 416667, frame := 9 }
    s.timing.started = true ∧ s.follows = false ∧ s.partner.timing = none ∧
    s.timing.lastTick = tickAt s.timing.epoch (rateHz s.timing.rate) s.timing.m ∧ s.timing.period = s.timing.freePeriod ∧
    s.lamp ≤ s.timing.lastTick + s.timing.period ∧ s.timing.epoch ≤ s.timing.lastTick := by decide

/-- An undecided TIMING_SET, a verified re-deal that has not taken effect, and a checked calibration table. -/
def retiming : Retime := ⟨some (ref 0x09), 4, 0, some 3, 0, 0, none⟩
def redealing : Redeal := ⟨ref 0x04, 2, deal, 0, false, false⟩
def checked : CalJob := ⟨ref 0x22, 0x200000, 64, some ⟨0x200000, 64, 0, 0⟩, 0, false, false, false⟩
/-- The header of a surface of 64 by 8 pixels, and its layer. -/
def hdr : SurfHdr := ⟨0, true, false, 64, 8, 0x100040, 256, 0, 0, 2112⟩
def layer : Layer := { ring := 0, tag := 1, surface := 0x100000, gen := 1, hdr := hdr, blend := 0, x := 0, y := 0, alpha := 255, w := 64, h := 8 }
/-- A commit to slot 1 that waits for a fence. -/
def committing : SlotOp := ⟨ref 0x10, some layer, 1, 0x100000, 5, 0, none⟩
def working : State := { timed (fun t => { t with retime := some retiming }) with
  deal := { inForce := some deal, redeal := some redealing }
  churns := (chip .lit).churns.set 0 { ops := Vector.replicate 8 (some committing) }
  phots := (chip .lit).phots.set 0 { calJob := some checked }
  skim := { blind := false, maintEnd := Vector.replicate 16 (some 9) } }

theorem test_witness_EffectsOfTheComingCut : working.on ∧ working.timing.retime = some retiming ∧ retiming.decided = none ∧
    working.deal.redeal = some redealing ∧ redealing.taken = false ∧ (working.churn 0).op 1 = some committing ∧ committing.layer.isSome = true ∧
    committing.fenceAddr ≠ 0 ∧ (working.phot 0).persisted = false ∧ (working.phot 0).calJob = some checked ∧ checked.table.isSome = true ∧
    working.skim.blind = false ∧ (working.skim.maintEnd.get 0).isSome = true := by
  simp only [State.on]; decide

/-- The generator follows SYNC_IN in a state of its lock, with one edge seen at 0. -/
def following (k : Nat) : State := { timed (fun t => { t with syncSrc := true, lock := { state := k, lastEdge := some 0, measured := 416666 } }) with lamp := 416700 }

theorem test_witness_SyncInAndOut : (chip .lit).on ∧ (true ≠ (chip .lit).bit Reg.TICK_SYNC_CFG 2 ∧ false = (chip .lit).bit Reg.TICK_SYNC_CFG 2) ∧
    (chip .lit).follows = false ∧ ((timed fun t => { t with syncSrc := true }).follows = true ∧ (timed fun t => { t with syncSrc := true }).timing.lock.lastEdge = none) ∧
    ((following 2).follows = true ∧ (following 2).timing.lock.state = 2 ∧ (following 2).lamp ≤ (following 2).lockLimit ∧
      999 * ((following 2).syncDiv * (following 2).timing.period) ≤ 1000 * ((following 2).lamp - 0) ∧
      1000 * ((following 2).lamp - 0) ≤ 1001 * ((following 2).syncDiv * (following 2).timing.period)) ∧ 1 ≤ (following 1).timing.lock.state ∧
    ((chip .lit).dev.state.dealtOrLater = true ∧ ((chip .lit).setFld Reg.TICK_SYNC_CFG 8 8 1).bit Reg.TICK_SYNC_CFG 8 = true ∧
      (timed fun t => { t with frame := 0xFFFFFFFF }).nextFrame % 2 ^ (chip .lit).fld Reg.TICK_SYNC_CFG 10 9 = 0) ∧
    (timed fun t => { t with syncOut := true }).timing.syncOut = true ∧ (timed fun t => { t with rephaseEnd := some 7 }).timing.rephaseEnd = some 7 := by
  refine ⟨?_, ?_, ?_, ?_, ?_, ?_, ?_, ?_, ?_⟩ <;> (try simp only [State.on]) <;> decide

/-- A churn that composes, its setup running, and an unchecked table. -/
def setup : SkimSetup := ⟨1, 1, 0, false, false, Vector.replicate 16 {}⟩
def unchecked : CalJob := { checked with table := none }
def composing (drained : Bool) : State := { chip .lit with
  churns := (chip .lit).churns.set 0 { composing := true, line := some 6, drained := drained }
  skim := { setup := some setup }, phots := (chip .lit).phots.set 0 { calJob := some unchecked } }
/-- An OBJECT_LIST of one packet with no record; of one that names a record of kind 4; and of a length that is wrong. -/
def listPacket (n : Nat) (records : Bytes) : Bytes := le 2 5 ++ [0, 1] ++ le 2 n ++ le 1 n ++ zeros 9 ++ records
/-- The feed port is UP. -/
def fed (s : State) : State := { s with feed := { state := 2 } }

theorem test_witness_LinesSetupsAndTables : (∀ d : Bool, (composing d).on ∧ ((composing d).churn 0).composing = true ∧ (composing d).timing.pastCut = false ∧
      ((composing d).churn 0).line = some 6 ∧ 7 < ((composing d).tileEntry 0).height ∧ ((composing d).churn 0).drained = d) ∧
    ((composing false).skim.setup = some setup ∧ setup.done = false ∧
      ∀ n : TileId, (setup.tiles.get n).outOfField = false ∧ (setup.tiles.get n).merged = false) ∧
    (((composing false).phot 0).calJob = some unchecked ∧ unchecked.table = none ∧ (composing false).dramGood 0x200000 64 = true) ∧
    ((fed (chip .lit)).feed.state = 2 ∧ (listPacket 0 []).length = 16 ∧ rd (listPacket 0 []) 6 1 = 0 ∧ rd (listPacket 0 []) 3 1 = 1 ∧
      rd (listPacket 0 []) 2 1 = 0 ∧ (chip .lit).skim.asm = none ∧ (SkimAsm.mk 5 1 0 false [(0, listPacket 0 [])]).valid 391666 = true ∧
      (SkimAsm.mk 5 1 1 false [(0, listPacket 1 (4#8 :: zeros 63))]).valid 391666 = false ∧ (listPacket 1 []).length ≠ 16 + 64 * rd (listPacket 1 []) 6 1) := by
  refine ⟨?_, ?_, ?_, ?_⟩ <;> (try simp only [State.on]) <;> decide

/-- A VIDEO_LINE of 8 pixels' bytes with its fence word in the same partition. -/
def videoPacket (part : Nat) : Bytes := le 8 0x100040 ++ le 1 part ++ [1, 0, 0] ++ le 4 7 ++ le 8 0x100080 ++ zeros 8 ++ List.replicate 8 3#8

theorem test_witness_VideoLineWritesItsPixels : (fed (chip .lit)).on ∧ (fed (chip .lit)).quiet ∧ (fed (chip .lit)).feed.state = 2 ∧
    (videoHeaderOk (videoPacket 1) = true ∧ (fed (chip .lit)).videoDataOk (videoPacket 1) = true ∧ (fed (chip .lit)).videoFenceOk (videoPacket 1) = true ∧
      (fed (chip .lit)).videoOverlaps 0x100040 8 = false) ∧ (fed (chip .lit)).videoDataOk (videoPacket 2) = false := by
  simp only [State.on, State.quiet]; decide

theorem test_witness_FeedPortRows :
    ((chip .lit).setFld Reg.FEED_CFG 3 0 1).fld Reg.FEED_CFG 3 0 = 1 ∧ (fed (chip .lit)).feed.state = 2 ∧ ((7#8 : Byte) ≠ 1 ∧ (7#8 : Byte) ≠ 2 ∧ (7#8 : Byte) ≠ 4) ∧
    ((zeros 16).length = 16 ∧ (chip .lit).timing.tsBusyUntil ≤ (chip .lit).lamp ∧ ((chip .lit).setFld Reg.FEED_CFG 8 8 1).bit Reg.FEED_CFG 8 = true) ∧
    ((chip .lit).serves .host Reg.FEED_CFG ∧ (3 : Nat) ≠ (chip .lit).fld Reg.FEED_CFG 3 0 ∧ (chip .lit).serves .core (Reg.SCL_CFG 0)) ∧
    ((chip .lit).scalerCfgOk 0 0x4410 = true ∨ (chip .lit).scalerCfgOk 0 0x4400 = true) ∧ (chip .lit).scalerCfgOk 0 0 = false ∧
    ((chip .lit).serves .host (Reg.SCL_TABLE_CTL 0) ∧ ((chip .lit).scalerEntry 0).isSome = true ∧ (chip .lit).claims 0 1 = [] ∧ bitAt 0 0 = false) ∧
    { chip .lit with churns := (chip .lit).churns.set 0 { layers := Vector.replicate 8 (some layer) } }.claims 0 1 ≠ [] := by
  refine ⟨?_, ?_, ?_, ?_, ?_, ?_, ?_, ?_, ?_⟩ <;> (try simp only [State.serves]) <;> decide

/-! ### Witnesses: the tile link at the chip -/

/-- The chip lit with port 0 as given. -/
def ported (p : Port) : State := { port (chip .lit) p with dev := { state := .lit, litSet := 1 } }
/-- A return record's header, and an event. -/
def rec1 : RecHdr := ⟨0, 7⟩
def event1 : EventBody := ⟨5, 1, 1, 1, 3⟩
/-- A pixel parcel of the frame, as a track that has been sent once. -/
def pixelsParcel : Parcel := ⟨1, false, 0, 0, 5, 0, 0, zeros 8⟩
def sentTrack : Track := { parcel := pixelsParcel, frame := 0, line := some 0, copies := [(.a, 1)] }
/-- A port with all lanes locked that has sent the track, or owes its CLOSE. -/
def sending : State := ported { state := 3, lockA := true, lockB := true, retLock := true, tracks := [sentTrack], frameLit := true }

theorem test_witness_ParcelsAndAcknowledgements : sending.on ∧ (sending.portOn 0 = true ∧ (sending.openLanes 0).contains .b = true) ∧
    (sending.closeKind 0 = some (false, false) ∧ (sending.port 0).closeSent = false ∧ sending.lockedSecondary = false ∧
      { sending with timing := { sending.timing with pastHorizon := true } }.timing.pastHorizon = true) ∧
    ((sending.port 0).tracks.find? (fun t => t.seq = 5) = some sentTrack ∧ sentTrack.acked = false ∧ sentTrack.failed = false ∧ sentTrack.copies ≠ [] ∧
      sentTrack.due = [] ∧ (sending.port 0).blind = false ∧ sending.mayGo 0 sentTrack = true ∧ sentTrack.isClose = false ∧
      sentTrack.sentAt + sending.ackTimeout 0 < sending.horizonAt) ∧ (sending.port 0).retLock = true ∧ sending.served 0 = true := by
  simp only [State.on]; decide

theorem test_witness_ReportsOfTheTile : (sending.on ∧ (sending.port 0).retLock = true ∧ sending.served 0 = true) ∧
    (statusMove 3 4 false = true ∧ statusMove 3 2 false = false) ∧
    (let z := ported { state := 1, retLock := true, lockA := true, readmit := true }
     z.admissible 0 = true ∧ (z.port 0).readmit = true ∧ (z.port 0).state = 1) := by
  simp only [State.on]; decide

/-- An admission begun by a command, and a retirement at a stage. -/
def admitting (acked : Bool) : Admission := ⟨some (ref 0x20), 0, acked⟩
def retiring (k : Nat) : Retirement := ⟨some (ref 0x21), k, 16, false⟩
/-- A retime that has noticed tile 0. -/
def noticed : State := { sending with timing := { sending.timing with retime := some { retiming with noticed := 1 } } }

theorem test_witness_AdmissionsAndRetirementsEnd :
    let a := ported { state := 1, retLock := true, admission := some (admitting false) }
    let r := ported { state := 2, retLock := true, retirement := some (retiring 3) }
    (a.hears 0 event1 ∧ (a.port 0).admission = some (admitting false) ∧ (admitting false).acked = false) ∧
    (r.hears 0 event1 ∧ (r.port 0).retirement = some (retiring 3) ∧ 2 ≤ (retiring 3).stage ∧ 16 ≤ (retiring 3).frames) ∧
    (noticed.hears 0 event1 ∧ noticed.timing.retime = some { retiming with noticed := 1 } ∧ (1#16).getLsbD 0 = true ∧ retiming.decided = none) := by
  refine ⟨?_, ?_, ?_⟩ <;> simp only [State.hears, State.on] <;> decide

theorem test_witness_LanesGoDownAndComeBack : sending.hears 0 event1 ∧
    (let b := ported { state := 0, retLock := true, blind := true }; b.hears 0 event1 ∧ (b.port 0).blind = true) ∧
    (let u := ported {}; u.on ∧ (u.port 0).retLock = false ∧ u.declared 0 = true ∧ u.ready (11 + groupOf 0) = true) ∧
    ((ported { retLock := true, pwrRet := 2 }).port 0).pwrRet = 2 ∧
    ((sending.port 0).retLock = true ∧ (sending.port 0).pwrRet ≠ 2 ∧ (sending.port 0).testMask.testBit 2 = false ∧ (sending.port 0).admitted = true ∧
      sending.inLit 0 = true) ∧ ((ported { state := 6, retLock := true }).port 0).state = 6 ∧ ((ported { pwrB := 1 }).port 0).pwr .b = 1 := by
  refine ⟨?_, ?_, ?_, ?_, ?_, ?_, ?_⟩ <;> (try simp only [State.hears, State.on]) <;> decide

theorem test_witness_PortWatchesAndLaneSleep :
    (let x := ported { state := 2, unlockedFrames := 64 }; x.on ∧ (x.port 0).retLock = false ∧ (x.port 0).state ≠ 0 ∧ 64 ≤ (x.port 0).unlockedFrames) ∧
    (let x := ported { missingFrames := 64 }; x.declared 0 = true ∧ (x.port 0).state = 0 ∧ (x.port 0).missed = false ∧ 64 ≤ (x.port 0).missingFrames) ∧
    (let x := ported { state := 1, identFrames := 256 }; (x.port 0).state = 1 ∧ 256 ≤ (x.port 0).identFrames) ∧
    ((chip .lit).serves .host (Reg.TL_LANE_PWR 0) ∧ bitAt 1 0 = true ∧ bitAt 0 0 = false ∧ ((chip .lit).port 0).ls2 = 0) ∧
    ((chip .lit).serves .core (Reg.TL_LANE_PWR 15) ∧ ((ported { ls2 := 1 }).port 0).ls2 = 1 ∧ 2 ≤ ((ported { ls2 := 2 }).port 0).ls2) ∧
    (let x := ported { state := 6, retLock := true, ls2 := 1 }; x.hears 0 event1 ∧ (x.port 0).ls2 = 1) := by
  refine ⟨?_, ?_, ?_, ?_, ?_, ?_⟩ <;> (try simp only [State.serves, State.hears, State.on]) <;> decide

/-- A link test of all lanes after its last frame, and the jobs of the tile's flash. -/
def linkTest (running : Bool) : LinkTest := ⟨some (ref 0x28), 7, 4, running, 0, 0, 7⟩
def flashJob (done : Bool) : FlashJob := ⟨ref 0x22, 0, 64, 2, if done then some 9 else none⟩
def readJob : ReadJob := ⟨ref 0x23, 0x1000, 96, 0, 96, 1, [0], false⟩
def tested : State := ported { state := 2, retLock := true, test := some (linkTest true), flash := some (flashJob true), read := some readJob }

theorem test_witness_LinkTestsAndTileFlash : tested.hears 0 event1 ∧
    ((tested.port 0).test = some (linkTest true) ∧ (linkTest true).wait.testBit (laneNum .b) = true ∧ (linkTest true).left = 0) ∧
    ((tested.port 0).flash = some (flashJob true) ∧ (flashJob true).committed = some 9) ∧
    ((tested.port 0).read = some readJob ∧ readJob.at0 ≤ (48#32 : Word).toNat ∧ (48#32 : Word).toNat < readJob.upTo ∧
      ((48#32 : Word).toNat - readJob.at0) % 48 = 0 ∧ tested.host.linkUp = true ∧ tested.hostReady = true) ∧
    { tested with host := {} }.host.linkUp = false := by
  refine ⟨?_, ?_, ?_, ?_, ?_⟩ <;> (try simp only [State.hears, State.on]) <;> decide

/-! ### Witnesses: the tile ends -/

/-- A tile end that a Deal has configured, with lane A locked. -/
def tileCfg : TileCfg := ⟨64, 8, false, false, 0, 4, 2, 0, 5⟩
def tileEnd (k : Nat) : Tile := { made := some maker, state := k, lockA := true, retOn := true, cfg := some tileCfg, tickGap := 416666 }

theorem test_witness_CopiesOfParcels :
    let s := tile (tileEnd 2)
    let seen := tile { tileEnd 2 with window := [5] }
    s.quiet ∧ (s.tile 0).state ≠ 0 ∧ (s.tile 0).lock .a = true ∧ (seen.tile 0).window.contains pixelsParcel.seq.toNat = true ∧
    (s.tile 0).window.contains pixelsParcel.seq.toNat = false ∧ pixelsParcel.frame.toNat = (s.tile 0).frame % 256 ∧
    ({ pixelsParcel with frame := 1 } : Parcel).frame.toNat ≠ (s.tile 0).frame % 256 ∧ ((tile (tileEnd 6)).tile 0).admitted = false ∧
    (s.tile 0).admitted = true ∧ ((tile (tileEnd 1)).tile 0).state = 1 := by
  simp only [State.quiet]; decide

/-- A tile end of a pair, admitted on lane A alone. -/
def halfPaired (k : Nat) : Tile := { tileEnd k with made := some { maker with paired := true }, adm := 1#2, lockB := true }

theorem test_witness_CopiesOfParcels_admission :
    (knownType pixelsParcel = true ∧ knownType { pixelsParcel with type := 12 } = false) ∧
    ((tileEnd 2).lanesOf .b = 3#2 ∧ (tileEnd 1).adm &&& (tileEnd 1).lanesOf .a ≠ (tileEnd 1).lanesOf .a ∧ (tileEnd 1).state = 1) ∧
    ((halfPaired 2).adm &&& (halfPaired 2).lanesOf .a = (halfPaired 2).lanesOf .a ∧ (halfPaired 2).adm &&& (halfPaired 2).lanesOf .b ≠ (halfPaired 2).lanesOf .b ∧
      (halfPaired 2).admitted = true ∧ (halfPaired 2).adm &&& ~~~((halfPaired 2).lanesOf .a) = 0) ∧
    ({ halfPaired 3 with adm := 3#2 }.adm &&& ~~~((halfPaired 3).lanesOf .a) ≠ 0 ∧ (tileEnd 3).adm &&& ~~~((tileEnd 3).lanesOf .a) = 0) := by
  decide

/-- A CLOSE that shows the frame, and a tile end with it due. -/
def closeOf (dark : Bool) : CloseBody := ⟨[], 500, 100, 2, dark, false, 8, 0⟩
def swapping : State := tile { tileEnd 3 with dueClose := some (closeOf false), swapDue := true }

theorem test_witness_TileTicksAndFrames :
    (let x := (tile { tileEnd 3 with block := some (0, 4) }).tile 0
     x.state ≠ 0 ∧ x.lock .a = true ∧ x.block = some (0, 4) ∧ (4 : Nat) ≠ (5#32 : Word).toNat ∧ x.tickGap ≠ 0) ∧
    (let x := (tile (tileEnd 3)).tile 0; x.cfg = some tileCfg ∧ x.state ≠ 0 ∧ x.state ≠ 6 ∧ x.dueClose = none ∧ x.made = some maker ∧ x.admitted = true ∧ x.probed = []) ∧
    (let x := swapping.tile 0
     x.dueClose = some (closeOf false) ∧ x.made = some maker ∧ x.swapDue = true ∧ x.admitted = true ∧ x.rephaseEnd = none) ∧
    (let s := tile { tileEnd 3 with rephaseEnd := some 833333 }; max s.lamp ((s.tile 0).lastTick + tileCfg.phaseSlot * s.tilePeriod 0 / 64) < 833333) ∧
    (let x := (tile { tileEnd 4 with holdCount := 5 }).tile 0; x.cfg = some tileCfg ∧ tileCfg.holdFrames < x.holdCount ∧ x.state = 4) ∧
    (let x := (tile { tileEnd 1 with holdCount := 5, holdRuns := true }).tile 0; x.state = 1 ∧ x.holdRuns = true) := by
  refine ⟨?_, ?_, ?_, ?_, ?_⟩ <;> decide

theorem test_witness_TileRecordsAndLanes :
    (let x := (tile { tileEnd 1 with identSent := true }).tile 0; x.made = some maker ∧ x.state = 1 ∧ x.identSent = true) ∧
    (let x := (tile (tileEnd 1)).tile 0; x.made = some maker ∧ x.state = 1 ∧ x.identSent = false) ∧
    (let x := (tile (tileEnd 3)).tile 0; x.state ≠ 0 ∧ x.lock .a = true ∧ x.lock .b = false ∧ x.admitted = true) ∧
    (let x := (tile { tileEnd 5 with lockA := false }).tile 0; 2 ≤ x.state ∧ x.lockA = false ∧ x.lockB = false ∧ x.ls2 = false) := by
  refine ⟨?_, ?_, ?_, ?_⟩ <;> decide

/-! ### Witnesses: the engines -/

/-- Loop 63's trip: its bank in force has RES_LIM 1 and RES_N 0 for its input. -/
def tripBank : Bytes := zeros 128 ++ [1#8] ++ zeros 7
def tripping : State := { chip .lit with ctl := { (chip .lit).ctl with
  loops := (chip .lit).ctl.loops.set 0 { started := true, imgB := some tripBank }, traces := Vector.replicate 4 { armed := true, triggered := true } } }

theorem test_witness_DiagnosticsAndTraces :
    (let x := { ported { state := 3 } with timing := { (chip .lit).timing with frame := 63 }, diags := (chip .lit).diags.set 0 { initLeft := 1 } }
     x.on ∧ x.timing.started = true ∧ x.timing.pastCut = false ∧ x.visiting 0 = true ∧ x.timing.frame % 64 = 63 ∧ (x.diag 0).initLeft = 1) ∧
    ((chip .lit).serves .host (Reg.TL_DIAG_CTL 15) ∧ (chip .lit).serves .core (Reg.CTL_TRC_CTL 3)) ∧
    ((tripping.loop 0).left = 0 ∧ tripping.tripDue 0 0 = true ∧ (tripping.loop 0).bank = some tripBank) ∧
    ((tripping.ctl.traces.get 3).armed = true ∧ (tripping.ctl.traces.get 3).triggered = true ∧ (tripping.ctl.traces.get 3).postLeft = 0 ∧
      (tripping.setFld (Reg.CTL_TRC_CFG 3) 28 28 1).bit (Reg.CTL_TRC_CFG 3) 28 = true) := by
  refine ⟨?_, ?_, ?_, ?_⟩ <;> (try simp only [State.on, State.serves]) <;> decide

theorem test_witness_MilkAndThermalRows : (chip .lit).on ∧ (chip .lit).house.therm.evals ≤ (chip .lit).house.round ∧
    { (chip .lit).house with therm := { next := some (2, 12500) } }.therm.next = some (2, 12500) ∧ (chip .lit).house.therm.lT ≤ 2 ∧
    (let t : Therm := { lT := 2, cool := 7, warn := true, warnCool := 7 }; (t.judge 1000).lT = 1 ∧ (t.judge 1000).warn = false) := by
  simp only [State.on]; decide

/-- A run whose two measurements agree in item 0 and differ in item 1, an entry that has ended, and jobs of save and restore. -/
def calRun : CalRun := ⟨ref 0x38, 3, 100, 4, some (List.replicate 30 0), some (List.replicate 30 0)⟩
def calibrating : State := { chip .lit with house := { cal := some calRun, entry := some ⟨4, 1, 9⟩, round := 20, save := some 0x200000, restore := some 0x200040 } }

theorem test_witness_CalibrationRows :
    (calibrating.on ∧ calibrating.house.cal = some calRun ∧ calRun.run1 = some (List.replicate 30 0) ∧ calRun.run2 = some (List.replicate 30 0)) ∧
    (calibrating.house.entry = some ⟨4, 1, 9⟩ ∧ 4 + 16 ≤ calibrating.house.round) ∧
    (calibrating.serves .host Reg.HK_CAL_CTL ∧ calibrating.calSaveBusy = true ∧ (1#32 : Word).toNat % 4 = 1 ∧ (2#32 : Word).toNat % 4 = 2) ∧
    ((chip .lit).serves .core Reg.HK_CAL_CTL ∧ (chip .lit).house.cal = none ∧ (chip .lit).house.entry = none ∧ (chip .lit).house.save = none ∧
      (chip .lit).house.restore = none ∧ (chip .lit).calSaveOk 0 = false ∧ (chip .lit).calSaveOk 0x200000 = true) ∧
    (calibrating.house.save = some 0x200000 ∧ calibrating.house.restore = some 0x200040 ∧ calibrating.dramGood 0x200040 160 = true) := by
  refine ⟨?_, ?_, ?_, ?_, ?_⟩ <;> (try simp only [State.on, State.serves]) <;> decide

/-- The chip with a matrix, in a scan frame at its fourth slot, driven by MSYNC. -/
def scanning : State := { (chip .lit).setFld Reg.ACC_CFG 1 1 1 with
  deal := { inForce := some { deal with accent := some ([2, 0, 0, 0], 1) } }, accent := { scan := some (0, 100000, 3) } }

theorem test_witness_AccentRows : (chip .lit).on ∧ ((chip .lit).accRuns = true ∧ (chip .lit).matrixOn = false) ∧
    ((chip .lit).serves .host (Reg.ACC_CH_FADE 47) ∧ (chip .lit).serves .core (Reg.ACC_CH_CTL 0) ∧ (chip .lit).serves .host Reg.ACC_MCTL) ∧
    (let x : AccCh := { len := 2, k := 0, target := 9 }; 1 ≤ x.len ∧ x.k = 0) ∧
    (scanning.accent.scan = some (0, 100000, 3) ∧ 3 < 8 * (100000 / 50000) ∧ scanning.matrixOn = true ∧ scanning.accRuns = true ∧ scanning.msync = true) := by
  refine ⟨?_, ?_, ?_, ?_, ?_⟩ <;> (try simp only [State.on, State.serves]) <;> decide

/-! ### Witnesses: faults, the partner and the whole block -/

/-- A lit chip with a reaction timer, and entries due. -/
def reacting : State := { chip .lit with faults := { pend := 1, real := 1, timer := some ⟨0, 500⟩ } }

theorem test_witness_RaisesAndTheirEntries : (chip .lit).on ∧ (faultClass 23 = 0 ∧ faultClass 127 = 0 ∧ faultClass 112 = 1 ∧ faultClass 0 = 3) ∧
    ((chip .lit).serves .host Reg.FLT_INJECT ∧ (chip .lit).serves .core Reg.FLT_FIRST ∧ (chip .lit).serves .host (Reg.FLT_PEND 3)) ∧
    (bitAt 0x1000 12 = true ∧ bitAt 0xEFFF 12 = false) ∧
    (reacting.on ∧ reacting.faults.timer = some ⟨0, 500⟩ ∧ reacting.dev.state = .lit ∧ reacting.faults.safeDue = none ∧
      (chip .dealt).faults.safeDue = none ∧ reacting.faults.urgent ≠ 0 ∧ (chip .lit).faults.urgent = 0 ∧ reacting.faults.fatal = 0 ∧
      (let f : Faults := { pend := 1#128 <<< 13, real := 1#128 <<< 13 }; f.fatal ≠ 0)) ∧
    (let f : State := { chip .lit with lamp := 100004, faults := { brokenAt := [(112, 5)] } }
     (∃ b ∈ f.faults.brokenAt, b.1 = 112 ∧ f.lamp < b.2 + 100000) ∧ ∀ b ∈ f.faults.brokenAt, b.1 = 113 → b.2 + 100000 ≤ f.lamp) ∧
    (let f : State := { chip .lit with faults := { fatalDue := some 0x0C } }
     f.faults.fatalDue = some 0x0C ∧ f.dev.state ≠ .pasteurise ∧ f.dev.state ≠ .fatal) ∧
    (let f : State := { chip .hold with faults := { safeDue := some 9 } }; f.faults.fatalDue = none ∧ f.faults.safeDue = some 9 ∧ f.dev.state = .hold) := by
  refine ⟨?_, ?_, ?_, ?_, ?_, ?_, ?_⟩ <;> (try simp only [State.on, State.serves]) <;> decide

/-- A pair in a state of the partner block, with the role of the Deal. -/
def pair (k role : Nat) : State := { chip .lit with
  deal := { inForce := some { deal with role := role }, redeal := some redealing }
  partner := { state := k, laneLock := 3, waitFrames := some 64 } }

theorem test_witness_PartnerRows : (pair 0 1).on ∧ ((pair 0 1).partner.waitFrames = some 64 ∧ (chip .lit).partner.waitFrames = none) ∧
    ((chip .lit).role = 0 ∧ (pair 0 1).role ≠ 0 ∧ (pair 0 1).partner.join = none) ∧
    (let s := { pair 1 1 with partner := { (pair 1 1).partner with join := some (ref 0x60, 0), joinStep := 5, ownAdmitted := 1#16 } }
     s.partner.join = some (ref 0x60, 0) ∧ s.partner.joinStep = 5 ∧
       ∀ n : TileId, s.declared n = true → s.partner.ownAdmitted.getLsbD n.val = true ∧ (1#16).getLsbD n.val = true) ∧
    ((pair 2 1).deal.redeal = some redealing ∧ (pair 2 1).partner.state = 2 ∧ redealing.paired = false ∧ redealing.taken = false ∧ (pair 2 1).partner.held = []) ∧
    ((pair 3 1).partner.state ≠ 2 ∧ (pair 3 1).partner.laneLock ≠ 0 ∧ (chip .lit).partner.laneLock = 0) ∧
    ((pair 2 1).lockedSecondary = false ∧ (pair 2 2).lockedSecondary = true ∧ isStateCmd 0x05 = true ∧ (pair 2 2).timing.pastCut = false ∧
      (pair 2 2).dev.state = .lit ∧ (pair 2 2).faults.safeDue = none) := by
  refine ⟨?_, ?_, ?_, ?_, ?_, ?_, ?_⟩ <;> (try simp only [State.on]) <;> decide

theorem test_witness_RegisterWrites :
    ((chip .lit).on ∧ (chip .lit).host.linkUp = true ∧ (chip .lit).host.d3hot = false ∧ ((2 : Nat) ≠ 4 ∧ (2#24 : BitVec 24).toNat % 4 ≠ 0)) ∧
    ({ chip .lit with host := {} }.host.linkUp = false ∧ (chip .pasteurise).dev.state = .pasteurise ∧ asleep.host.d3hot = true) ∧
    ((chip .lit).quiet ∧ (chip .lit).serves .core Reg.TICK_SYNC_IN_OFS ∧ (regAt Reg.TICK_SYNC_IN_OFS).isSome = true ∧ findHook Reg.TICK_SYNC_IN_OFS = none) := by
  refine ⟨?_, ?_, ?_⟩ <;> (try simp only [State.on, State.quiet, State.serves]) <;> decide

theorem test_witness_ReservedOffsetsAndIdent : (chip .lit).on ∧ (chip .lit).host.linkUp = true ∧ (chip .lit).host.d3hot = false ∧
    regAt 0x001F00 = none ∧ regAt 0x3FFFFC = none ∧ 0x800000 ≤ (0xFFFFFF#24 : BitVec 24).toNat ∧ regAt 0x800000 = none := by
  simp only [State.on]; decide

/-- A hand's stack of two claims, nested. -/
theorem test_witness_ClaimsNest : ([(17, 6), (18, 1)].map (·.2)).Pairwise (· > ·) ∧ (∀ x ∈ [(17, 6), (18, 1)], 1 ≤ x.2 ∧ x.2 ≤ 15) ∧
    selecting.serves .core (Reg.INTC_HAND_CLAIM 0) ∧ (selecting.intc.cores.get 0).stack = (17, 6) :: [(18, 1)] ∧
    ((chip .lit).intc.cores.get 1).stack.head? = none ∧ ((chip .lit).intc.cores.get 0).selected = 0 ∧ selecting.on ∧
    selecting.claimable 0 16 = true := by
  simp only [State.serves, State.on]; decide

theorem test_witness_StepTakesTheFrontCommand : (chip .lit).pending = [] := by decide

theorem test_witness_EveryStepLeavesPinsAndEntriesInOrder : State.reset.pinsFollow ∧ State.reset.entriesTaken ∧
    { State.reset with pending := [Instr.cut] }.pending ≠ [] := by
  simp only [State.pinsFollow, State.entriesTaken]; decide

/-! ### Well-formedness: a command of each checked kind that is refused, and one that is not -/

set_option maxRecDepth 10000 in
/-- A return record's body and a TICK block's operands are from the tile; a parcel of another type is refused. -/
theorem test_ill_formed_commands : ∀ i ∈ [Instr.bar2Read 0 0, .bar2Read 0xFFFFFFF 2, .bar2Write 0 [], .bar2Write 0xFFFFFFF [1, 2],
    .registerWrite .host 0 3 0, .latchingPairRead .core 0 8, .churnLine 0 1024 ⟨0, 0, false, false, false, false⟩,
    .vf 0 rec1 ⟨0, 0, false, []⟩, .vf 0 rec1 ⟨0, 0, false, zeros 49⟩, .flashData 0 rec1 0 (zeros 47), .tileTickBlock 0 .a 0 256 false,
    .pixels 0 .a { pixelsParcel with type := 2 }, .probes 0 .a pixelsParcel, .close 0 .a pixelsParcel, .retime 0 .a pixelsParcel,
    .admitParcel 0 .a pixelsParcel, .retire 0 .a pixelsParcel, .fallback 0 .a pixelsParcel, .flash 0 .a pixelsParcel, .lane 0 .a pixelsParcel,
    .pixels 0 .a { pixelsParcel with payload := zeros 257 }, .milkRoundEnd [4096], .thermalEvaluation [0, 4096], .windowTimeout 0, .windowTimeout 384],
    i.wellFormed = false := by decide

theorem test_well_formed_commands : ∀ i ∈ [Instr.bar2Read 0 4, .registerWrite .host 0 4 0, .churnLine 0 1023 ⟨0, 0, false, false, false, false⟩,
    .vf 0 rec1 ⟨0, 0, false, zeros 48⟩, .pixels 0 .a pixelsParcel, .milkRoundEnd [4095], .windowTimeout 383, .cut], i.wellFormed = true := by decide

/-! ### Values the spec works out -/

/-- 18's table of the registers its names resolve to. -/
theorem test_register_names_resolve : Reg.CHN_SLOT_CFG 5 3 = 0x150160 ∧ Reg.TL_LANE_STAT 12 = 0x2C0008 ∧ Reg.CTL_LOOP_CFG 17 = 0x060540 ∧
    Reg.INTC_HAND_PEND 1 11 = 0x04016C := by decide

/-- 04: the ticks of the change from 240 Hz to 200 Hz. -/
theorem test_tick_placement : tickAt 0 (rateHz 2) 250624 = 104426666666 ∧ tickAt 0 (rateHz 2) 250625 = 104427083333 ∧
    tickAt 104427083333 (rateHz 1) 1 = 104427583333 := by decide

/-- 06: SCL2_CFG 0x660A, windowed sinc with 6 taps; output column 100 of 1,920 pixels scaled to 2,048 reads source columns 91 to 96. -/
theorem test_scaler_column : ((((chip .lit).setReg (Reg.SCL_CFG 0) 0x660A#32).scalerWindow 0 0 1920 2048 100).map (·.1)) = [91, 92, 93, 94, 95, 96] := by decide

/-- 08: the grant of a tile of 2,048 by 1,024 pixels with POT_CAP 0x4000. -/
theorem test_tile_grant : tileGrant { width := 2048, height := 1024, potCap := 0x4000 } = 2146959360 := by decide

/-- 08: the ledger of the example balances. -/
theorem test_ledger_balances : (((({} : PotLedger).book 2146959360 2400000000 18500000).book 2146959360 1854000000 18500000)).balanced = true ∧
    (((({} : PotLedger).book 2146959360 2400000000 18500000).book 2146959360 1854000000 18500000)).unspent = 2918720 := by decide

/-- 12: OFS and GAIN agree, and SOFS_3 does not. -/
theorem test_agreed_trims : agreedValue 0x02141802 0 (-11) (-12) = some (-11) ∧
    agreedValue 0x02141802 1 33001 32992 = some 32997 ∧ agreedValue 0x02141802 9 14 22 = none := by decide

/-- 12: the candidates of run 1. -/
theorem test_trim_candidates : (((chip .lit).house.candidates (List.replicate 88 0 ++ [11, 3671] ++ List.replicate 6 0) 0).take 2) = [-11, 33001] := by decide

set_option maxRecDepth 10000 in
/-- 13: entry 300 of the logarithmic fade table. -/
theorem test_fade_table : fadeLogReset 300 = 26 ∧ fadeLogReset 1023 = 65535 := by decide

set_option maxRecDepth 10000 in
/-- 17 R402: the check values of the digits 1 to 9, as published for these three algorithms. -/
theorem test_check_values : let b : Bytes := [0x31, 0x32, 0x33, 0x34, 0x35, 0x36, 0x37, 0x38, 0x39]
    checkValue 0 b = 0xCBF43926 ∧ checkValue 1 b = 0xE3069283 ∧ checkValue 2 b = 0x29B1 := by decide

/-- 09: the headers of the worked example, line 692, segment 1 with SEQ 0xB071 in its first send and its resend, and line 900, segment 5. -/
theorem test_parcel_headers :
    parcelHeader ⟨1, false, 0, 0, 0xB071, 0x06B4, 0, []⟩ = [0x01, 0x00, 0x71, 0xB0, 0xB4, 0x06, 0x00, 0x00] ∧
    parcelHeader ⟨1, false, 1, 0, 0xB071, 0x06B4, 0, []⟩ = [0x21, 0x00, 0x71, 0xB0, 0xB4, 0x06, 0x00, 0x00] ∧
    parcelHeader ⟨1, false, 1, 0, 0xBA35, 0x1784, 0, []⟩ = [0x21, 0x00, 0x35, 0xBA, 0x84, 0x17, 0x00, 0x00] := by decide

/-- 16: the START block of the worked example, and a packet of 4 bytes as its receiver reads it. -/
theorem test_packet_blocks : (startBlock 1 1056).bytes = [0x33, 0x01, 0x20, 0x04, 0, 0, 0, 0] ∧
    packetRead (packetBlocks 0x04 [1, 2, 3, 4]) = .ok (0x04, [1, 2, 3, 4]) ∧
    packetRead [startBlock 4 8, dataBlock [1]] = .error .format ∧ packetRead [startBlock 4 4, dataBlock [1], endBlock 4 []] = .error .crc :=
  ⟨by decide, packetRead_packetBlocks _ _ (by decide) (by decide), rfl, rfl⟩
/-- 09 R197: the 64th valid header in a row locks a lane, and the 16th invalid one of 64 unlocks it. -/
theorem test_block_lock : (Hunt.header { valid := 63 } .data).locked = true ∧ (Hunt.header { valid := 63 } .invalid).valid = 0 ∧
    (Hunt.header { locked := true, last := List.replicate 14 true } .invalid).locked = true ∧
    (Hunt.header { locked := true, last := List.replicate 15 true } .invalid).locked = false := by decide

/-- The port of a chip in its reset state after cycles of JTAG_TCK with these JTAG_TMS values. -/
def clocked (tms : List Bool) : State := tms.foldl (fun s m => s.tapClock m false) (chip .boot)
/-- 19 R427: after the port's reset IDCODE is selected, and its 32 bits shift out, bit 0 first. -/
theorem test_idcode_shifts_out :
    (clocked [false, true, false, false]).pins.tap.dr = bitList 32 0x13216A6B ∧ (clocked [false, true, false, false]).pins.tdo = some true := by decide

/-! ### One command each -/

/-- The state a command leaves. -/
def after (i : Instr) (s : State) : State := match exec i s with
  | .next t => t
  | .fault _ | .refused _ => s

/-- 03 R50: leaving OFF, the device enters PASTEURISE, and PASTEURISE ends in BOOT. -/
theorem test_power_on : (after (.powerOn 0) (chip .off)).dev.state = .pasteurise := by decide
set_option maxRecDepth 20000 in
theorem test_pasteurise_ends : (after .pasteuriseComplete (chip .pasteurise)).dev.state = .boot := by decide

/-- 14 R320, 03 R50: the timer expires in LIT, and the device enters SAFE_LIGHT with cause 0x09. -/
theorem test_reaction_timer : (after .reactionTimerExpiry reacting).dev.state = .safeLight ∧ (after .reactionTimerExpiry reacting).dev.cause = 9 := by decide

/-- 14 R319: a first input of class U latches, and the pins signal FAULT. -/
theorem test_fault_raise : (after (.faultInputRaise 0 0x1234) (chip .lit)).faults.pend = 1 ∧
    ((after (.faultInputRaise 0 0x1234) (chip .lit)).faults.first.map fun f => (f.input, f.detail)) = some (0, 0x1234) := by decide

/-- 16 R361: a BAR2 write is read back byte by byte. -/
theorem test_bar2_write : Sparse.get dramFill (after (.bar2Write 0x100001 [0xAB, 0xCD]) (chip .lit)).dram 0x100002 = 0xCD := by decide

/-- 00 R4: DEV_IDENT reads 0x51543216, little-endian. -/
theorem test_ident_read : (after (.latchingPairRead .host 0 4) (chip .lit)).outbox.head? = some (.regRead .host 0 [0x16, 0x32, 0x54, 0x51]) := by decide

set_option maxRecDepth 20000 in
/-- 03 R58, R66: the Dealer reads a NOP, and SQ_HEAD moves on. -/
theorem test_nop : ((after (.nop (sub 0)) (chip .lit)).rings.get 0).sqHead = 1 := by decide

set_option maxRecDepth 20000 in
/-- 01 R15: at 240 Hz from epoch 0 the first cut comes 250 µs before tick 1. -/
theorem test_cut : (after .cut (chip .dealt)).lamp = 391666 ∧ (after .cut (chip .dealt)).timing.cutCnt = 1 := by decide

/-- 09 R206: the first good ADMIT of a tile in TRAINING configures it. -/
def admitParcel1 : Parcel := ⟨5, true, 0, 0, 1, 0, 0, [0, 0, 64, 0, 8, 0, 1, 3, 4, 2, 0, 0, 5, 0, 0, 0]⟩
set_option maxRecDepth 20000 in
theorem test_admit : ((after (.admitParcel 0 .a admitParcel1) (tile { tileEnd 1 with lockB := true })).tile 0).state = 2 ∧
    ((after (.admitParcel 0 .a admitParcel1) (tile { tileEnd 1 with lockB := true })).tile 0).cfg = some ⟨64, 8, true, false, 3, 4, 2, 0, 5⟩ := by decide

/-- 16 R371: the VIDEO_LINE's fence word and pixels lie in DRAM. -/
theorem test_video_line : Sparse.get dramFill (after (.videoLine (videoPacket 1) true) (fed (chip .lit))).dram 0x100080 = 7 ∧
    Sparse.get dramFill (after (.videoLine (videoPacket 1) true) (fed (chip .lit))).dram 0x100047 = 3 := by decide

/-- 09 R210: a bad copy counts on its lane, and the tile answers NAK. -/
theorem test_bad_copy : ((after (.tileBadCopy 0 .a false 9) (tile (tileEnd 2))).tile 0).crcA = 1 := by decide

/-- 00 R57: a step takes the command in front. -/
theorem test_step_takes_front : (match step { chip .off with pending := [.powerOn 0, .cut] } with
    | .next t => (t.dev.state, t.pending)
    | .fault _ | .refused _ => (.fatal, [])) = (.pasteurise, [.cut]) := by decide

end Sys2Proof.Tests
end

section
/-! SUPPORT. Register accesses (00 R4, R7): who is served, what a write does to the fields of a register kept as such, and
that a REGISTER_WRITE of 32 bits is the same call as the command rows of registers. -/

namespace Sys2Proof.Machine

open Sys2Proof

/-! ### Who is served -/

@[simp] theorem State.asleep_core (s : State) : s.asleep .core = false := rfl
@[simp] theorem State.asleep_host (s : State) : s.asleep .host = s.host.d3hot := rfl

theorem State.reaches_iff (s : State) (m : Master) : s.reaches m = true ↔ s.on ∧ (m = .core ∨ s.host.linkUp = true) := by
  simp [State.reaches, State.on]

/-- An access of a core, or of a host whose link is up in D0, reaches the register map. -/
theorem State.reaches_awake {s : State} {m : Master} (on : s.on) (h : m = .host → s.host.linkUp = true ∧ s.host.d3hot = false) :
    s.reaches m = true ∧ s.asleep m = false := by
  cases m with
  | host => exact ⟨(s.reaches_iff _).2 ⟨on, .inr (h rfl).1⟩, (h rfl).2⟩
  | core => exact ⟨(s.reaches_iff _).2 ⟨on, .inl rfl⟩, rfl⟩

/-- REGISTER_WRITE is a write of its master, followed by what every command brings. -/
theorem exec_registerWrite {s : State} (on : s.on) (m : Master) (off : BitVec 24) (size : Nat) (value : Word) :
    exec (.registerWrite m off size value) s = .next (State.settle (s.writeReg m off.toNat size value.toNat)) := finish_on on _

/-- A write that does not reach the register map changes nothing. -/
theorem State.writeReg_unreached {s : State} {m : Master} (h : s.reaches m = false) (off size v : Nat) :
    s.writeReg m off size v = s := by
  simp [State.writeReg, h]

/-- A write in D3hot is an Unsupported Request (16 R365). -/
theorem State.writeReg_asleep {s : State} {m : Master} (h : s.reaches m = true) (d : s.asleep m = true) (off size v : Nat) :
    s.writeReg m off size v = s.emit .unsupported := by
  simp [State.writeReg, h, d]

/-- A write to a domain that is off changes nothing (16 R362). -/
theorem State.writeWord_unpowered {s : State} {off : Nat} (h : bitAt s.domainsOn (domainOf off) = false) (m : Master) (v : Nat) :
    s.writeWord m off v = s := by
  simp [State.writeWord, h]

/-- An awake master's write changes nothing, or is one of 32 bits, aligned, outside PASTEURISE and not kept from the host,
that goes to its word (00 R4; 17 R388, R398; 18 R411). -/
theorem State.writeReg_awake {s : State} {m : Master} (awake : s.asleep m = false) (off size v : Nat) : s.writeReg m off size v = s ∨
    ¬(s.dev.state = .pasteurise ∨ size ≠ 4 ∨ off % 4 ≠ 0 ∨ (m = .host ∧ hostDiscards off = true)) ∧
      s.writeReg m off size v = s.writeWord m off v := by
  unfold State.writeReg
  rw [awake, if_neg Bool.false_ne_true]
  split
  · exact .inl rfl
  · split
    · exact .inl rfl
    · exact .inr ⟨‹_›, rfl⟩

/-- What an awake master's write may not do changes nothing: any size but 32 bits, an unaligned offset, PASTEURISE, what the
host may not write, a domain that is off. -/
theorem State.writeReg_discarded {s : State} {m : Master} {off size : Nat} (awake : s.asleep m = false)
    (h : size ≠ 4 ∨ off % 4 ≠ 0 ∨ s.dev.state = .pasteurise ∨ (m = .host ∧ hostDiscards off = true) ∨
      bitAt s.domainsOn (domainOf off) = false) (v : Nat) : s.writeReg m off size v = s := by
  obtain discarded | ⟨permitted, word⟩ := State.writeReg_awake awake off size v
  · exact discarded
  · exact word.trans (State.writeWord_unpowered (by tauto) m v)

/-- A served write to a register without an action of its own acts on its fields. -/
theorem State.writeReg_fields {s : State} {m : Master} {off : Nat} {r : RegRow} {is : List Nat} (h : s.serves m off) (ha : Plain off)
    (hr : regAt off = some (r, is)) (hb : r.base ≠ Reg.INTC_HAND_CLAIM 0 ∧ r.base ≠ Reg.CHN_TC 0 0 0) (hf : findHook r.base = none)
    (v : Nat) : s.writeReg m off 4 v = s.writeFields off r.flds v := by
  obtain ⟨aligned, notMsix, notLog⟩ := ha
  obtain ⟨_, _, powered, _⟩ := id h
  rw [State.writeReg_serves h aligned]
  unfold State.writeWord
  rw [if_neg (by simp [powered]), if_neg notMsix, if_neg notLog, hr]
  simp only [hb.1, hb.2, if_false, hf]

/-! ### The fields of a register row -/

/-- The field lies within its word. -/
def Fld.Fits (f : Fld) : Prop := f.lo ≤ f.hi ∧ f.hi < 32

/-- Two fields share no bit. -/
def Fld.Apart (f g : Fld) : Prop := f.hi < g.lo ∨ g.hi < f.lo

/-- The fields lie within their word, and rise without overlap. -/
def FieldsRise (fs : List Fld) : Prop := (∀ f ∈ fs, f.Fits) ∧ fs.Pairwise fun f g => f.hi < g.lo

/-- The fields of every row of the register map rise. -/
theorem regBlock_fieldsRise (off : Nat) : ∀ r ∈ regBlock off, FieldsRise r.flds := by
  unfold regBlock FieldsRise Fld.Fits
  split
  · split <;> decide
  · decide
  · decide
  · split <;> decide
  · decide

/-- A row that an offset is found in is one of the rows searched. -/
theorem findRow_mem {rows : List RegRow} {off : Nat} {r : RegRow} {is : List Nat} (h : findRow rows off = some (r, is)) : r ∈ rows := by
  induction rows with
  | nil => cases h
  | cons a rows ih =>
    simp only [findRow] at h
    split at h
    · exact List.mem_cons_of_mem a (ih h)
    · split at h
      · cases h
        exact List.mem_cons_self
      · exact List.mem_cons_of_mem a (ih h)

theorem regAt_fieldsRise {off : Nat} {r : RegRow} {is : List Nat} (h : regAt off = some (r, is)) : FieldsRise r.flds := by
  unfold regAt at h
  split at h
  · cases h
  · exact regBlock_fieldsRise off r (findRow_mem h)

/-! ### A word whose fields are written in turn -/

/-- What a write of `v` does to one field of a word (00 R7): RW takes it, W1C clears, any other code leaves the field. -/
def Fld.written (v : Nat) (w : Word) (f : Fld) : Word := match f.acc with
  | .rw => takeField v f w
  | .w1c => putBits w f.hi f.lo (bitsOf w.toNat f.hi f.lo - (bitsOf w.toNat f.hi f.lo &&& bitsOf v f.hi f.lo))
  | .ro | .wo | .w1s | .rws => w

/-- What the field then reads, from what it read. -/
def Fld.afterWrite (v : Nat) (f : Fld) (old : Nat) : Nat := match f.acc with
  | .rw => bitsOf v f.hi f.lo
  | .w1c => old - (old &&& bitsOf v f.hi f.lo)
  | .ro | .wo | .w1s | .rws => old

/-- A field that is neither RW nor W1C keeps what it read. -/
theorem Fld.afterWrite_kept {f : Fld} (notRw : f.acc ≠ .rw) (notW1c : f.acc ≠ .w1c) (v old : Nat) : f.afterWrite v old = old := by
  unfold Fld.afterWrite
  split
  · exact absurd ‹_› notRw
  · exact absurd ‹_› notW1c
  all_goals rfl

/-- `p` changes a word's field `f` to `q f` of what it read, and no field apart from it. -/
def ActsByField (p : Word → Fld → Word) (q : Fld → Nat → Nat) : Prop := ∀ (w : Word) (f : Fld), f.Fits →
  bitsOf (p w f).toNat f.hi f.lo = q f (bitsOf w.toNat f.hi f.lo) ∧
  ∀ g : Fld, g.Fits → f.Apart g → bitsOf (p w f).toNat g.hi g.lo = bitsOf w.toNat g.hi g.lo

theorem bitsOf_lt (v hi lo : Nat) : bitsOf v hi lo < 2 ^ (hi + 1 - lo) := Nat.mod_lt _ (Nat.two_pow_pos _)

/-- Putting in place a value no wider than the field acts on that field alone. -/
theorem putBits_acts {w : Word} {f : Fld} (fits : f.Fits) {x : Nat} (hx : x < 2 ^ (f.hi + 1 - f.lo)) :
    bitsOf (putBits w f.hi f.lo x).toNat f.hi f.lo = x ∧
    ∀ g : Fld, g.Fits → f.Apart g → bitsOf (putBits w f.hi f.lo x).toNat g.hi g.lo = bitsOf w.toNat g.hi g.lo :=
  ⟨(bitsOf_putBits_self w _ _ x fits.1 fits.2).trans (Nat.mod_eq_of_lt hx),
   fun _ hg apart => bitsOf_putBits_other w _ _ x _ _ fits.1 fits.2 hg.1 apart⟩

theorem takeField_acts (v : Nat) : ActsByField (fun w f => takeField v f w) fun f _ => bitsOf v f.hi f.lo :=
  fun _ f fits => putBits_acts fits (bitsOf_lt v f.hi f.lo)

theorem written_acts (v : Nat) : ActsByField (Fld.written v) (Fld.afterWrite v) := fun w f fits => by
  unfold Fld.written Fld.afterWrite
  split
  · exact takeField_acts v w f fits
  · exact putBits_acts fits (Nat.lt_of_le_of_lt (Nat.sub_le _ _) (bitsOf_lt _ _ _))
  all_goals exact ⟨rfl, fun _ _ _ => rfl⟩

/-- A field apart from all that are written reads as before. -/
theorem foldl_field_apart {p : Word → Fld → Word} {q : Fld → Nat → Nat} (acts : ActsByField p q) {g : Fld} (hg : g.Fits) :
    ∀ {fs : List Fld} (w : Word), (∀ f ∈ fs, f.Fits ∧ f.Apart g) → bitsOf (fs.foldl p w).toNat g.hi g.lo = bitsOf w.toNat g.hi g.lo
  | [], _, _ => rfl
  | f :: fs, w, h => by
    obtain ⟨⟨fits, apart⟩, rest⟩ := List.forall_mem_cons.1 h
    exact (foldl_field_apart acts hg (p w f) rest).trans ((acts w f fits).2 g hg apart)

/-- Each of a row's fields ends as the write of that field alone leaves it. -/
theorem foldl_field {p : Word → Fld → Word} {q : Fld → Nat → Nat} (acts : ActsByField p q) :
    ∀ {fs : List Fld} (w : Word), FieldsRise fs → ∀ g ∈ fs, bitsOf (fs.foldl p w).toNat g.hi g.lo = q g (bitsOf w.toNat g.hi g.lo)
  | f :: fs, w, ⟨fit, rise⟩, g, hg => by
    obtain ⟨fits, fitRest⟩ := List.forall_mem_cons.1 fit
    obtain ⟨above, riseRest⟩ := List.pairwise_cons.1 rise
    rcases List.mem_cons.1 hg with first | rest
    · subst first
      exact (foldl_field_apart acts fits _ fun x hx => ⟨fitRest x hx, .inr (above x hx)⟩).trans (acts w g fits).1
    · have first := (acts w f fits).2 g (fitRest g rest) (.inl (above g rest))
      exact (foldl_field acts (p w f) ⟨fitRest, riseRest⟩ g rest).trans (congrArg (q g) first)

theorem FieldsRise.filter {fs : List Fld} (h : FieldsRise fs) (p : Fld → Bool) : FieldsRise (fs.filter p) :=
  ⟨fun f hf => h.1 f (List.mem_filter.1 hf).1, h.2.filter p⟩

/-! ### A register kept as such -/

theorem Sparse.find?_put_self {α : Type} (k : Nat) (v : α) : ∀ m : List (Nat × α), Sparse.find? (Sparse.put k v m) k = some v
  | [] => by simp [Sparse.put, Sparse.find?]
  | (a, w) :: m => by
    simp only [Sparse.put]
    split
    · simp [Sparse.find?]
    · split
      · simp [Sparse.find?]
      · next h => simpa only [Sparse.find?, h, if_false] using Sparse.find?_put_self k v m

theorem Sparse.find?_put_other {α : Type} (k : Nat) (v : α) {j : Nat} (hj : j ≠ k) :
    ∀ m : List (Nat × α), Sparse.find? (Sparse.put k v m) j = Sparse.find? m j
  | [] => by simp [Sparse.put, Sparse.find?, hj.symm]
  | (a, w) :: m => by
    simp only [Sparse.put]
    split
    · simp [Sparse.find?, hj.symm]
    · split
      · next h => simp [Sparse.find?, hj.symm, h]
      · simp only [Sparse.find?, Sparse.find?_put_other k v hj m]

/-- The word in force after a write of `v`. -/
def writtenWord (fs : List Fld) (v : Nat) (w : Word) : Word := fs.foldl (Fld.written v) w

/-- The word held pending after a write of `v`: its RWS fields are taken from the value. -/
def heldWord (fs : List Fld) (v : Nat) (w : Word) : Word := (fs.filter fun f => f.acc = .rws).foldl (fun w f => takeField v f w) w

/-- A write to a register kept as such: the word in force, and the word held pending where the register has RWS fields. -/
theorem State.writeFields_eq (off : Nat) (fs : List Fld) (v : Nat) (s : State) :
    s.writeFields off fs v = { s.setReg off (writtenWord fs v (s.reg off)) with
      rws := if fs.any fun f => f.acc = .rws
        then Sparse.put off (heldWord fs v ((s.setReg off (writtenWord fs v (s.reg off))).regPend off)) s.rws else s.rws } := by
  show (if _ then _ else _ : State) = _
  split <;> rfl

theorem State.writeFields_reg (off : Nat) (fs : List Fld) (v : Nat) (s : State) :
    (s.writeFields off fs v).reg off = writtenWord fs v (s.reg off) := by
  rw [State.writeFields_eq]
  exact State.reg_setReg s off _

theorem State.writeFields_reg_other (off : Nat) (fs : List Fld) (v : Nat) (s : State) {o : Nat} (ho : o ≠ off) :
    (s.writeFields off fs v).reg o = s.reg o := by
  rw [State.writeFields_eq]
  exact State.reg_setReg_other s off _ ho

/-- Another register's pending value is as before. -/
theorem State.writeFields_regPend_other (off : Nat) (fs : List Fld) (v : Nat) (s : State) {o : Nat} (ho : o ≠ off) :
    (s.writeFields off fs v).regPend o = s.regPend o := by
  have reg := State.writeFields_reg_other off fs v s ho
  unfold State.regPend
  rw [reg, State.writeFields_eq]
  split
  · rw [Sparse.find?_put_other off _ ho]
  · rfl

theorem State.writeFields_regPend (off : Nat) {fs : List Fld} (v : Nat) (s : State) (h : fs.any fun f => f.acc = .rws) :
    (s.writeFields off fs v).regPend off = heldWord fs v ((s.setReg off (writtenWord fs v (s.reg off))).regPend off) := by
  rw [State.writeFields_eq, if_pos h]
  conv_lhs => unfold State.regPend
  rw [Sparse.find?_put_self]
  rfl

/-- Nothing differs but the register words, in force and pending. -/
theorem State.writeFields_beyond (off : Nat) (fs : List Fld) (v : Nat) (s : State) :
    (s.writeFields off fs v).beyond = { s.beyond with rws := (s.writeFields off fs v).rws } := by
  rw [State.writeFields_eq]
  rfl

theorem State.writeFields_quiet (off : Nat) (fs : List Fld) (v : Nat) {s : State} (q : s.quiet) : (s.writeFields off fs v).quiet := by
  rw [State.writeFields_eq]
  exact q

/-- Each field in force reads what the write of that field alone leaves. -/
theorem State.writeFields_field (off : Nat) {fs : List Fld} (rise : FieldsRise fs) (v : Nat) (s : State) {f : Fld} (hf : f ∈ fs) :
    bitsOf ((s.writeFields off fs v).reg off).toNat f.hi f.lo = f.afterWrite v (bitsOf (s.reg off).toNat f.hi f.lo) := by
  rw [State.writeFields_reg]
  exact foldl_field (written_acts v) _ rise f hf

/-- An RWS field is held pending as written. -/
theorem State.writeFields_fieldPend (off : Nat) {fs : List Fld} (rise : FieldsRise fs) (v : Nat) (s : State) {f : Fld} (hf : f ∈ fs)
    (acc : f.acc = .rws) : bitsOf ((s.writeFields off fs v).regPend off).toNat f.hi f.lo = bitsOf v f.hi f.lo := by
  have someRws : (fs.any fun f => f.acc = .rws) = true := List.any_eq_true.2 ⟨f, hf, decide_eq_true acc⟩
  rw [State.writeFields_regPend off v s someRws]
  exact foldl_field (takeField_acts v) _ (rise.filter _) f (List.mem_filter.2 ⟨hf, decide_eq_true acc⟩)

/-- A pending value is the same in the state that a command ends in. -/
theorem settle_regPend {s : State} (q : s.quiet) {off : Nat} (h : off ≠ Reg.DEV_AUDIT_STAT) : s.settle.regPend off = s.regPend off := by
  unfold State.regPend
  rw [settle_field (·.rws) q, settle_reg q h]

/-- A register without an action of its own is not the audit status. -/
theorem ne_audit_of_no_hook {off : Nat} {r : RegRow} {is : List Nat} (hr : regAt off = some (r, is)) (hf : findHook r.base = none) :
    off ≠ Reg.DEV_AUDIT_STAT := by
  rintro rfl
  have row : (regAt Reg.DEV_AUDIT_STAT).map (·.1.base) = some Reg.DEV_AUDIT_STAT := by decide
  have hook : (findHook Reg.DEV_AUDIT_STAT).isSome = true := rfl
  rw [hr] at row
  rw [show r.base = Reg.DEV_AUDIT_STAT from Option.some.inj row] at hf
  simp [hf] at hook

/-- A served write to a register without an action of its own, as a command ends: its fields by their access codes, and
nothing else (00 R7). -/
theorem writeFields_settle {s : State} (q : s.quiet) {off : Nat} {fs : List Fld} (rise : FieldsRise fs) (hoff : off ≠ Reg.DEV_AUDIT_STAT)
    (v : Nat) :
    let t := (s.writeFields off fs v).settle
    (∀ f ∈ fs, bitsOf (t.reg off).toNat f.hi f.lo = f.afterWrite v (bitsOf (s.reg off).toNat f.hi f.lo) ∧
      (f.acc = .rws → bitsOf (t.regPend off).toNat f.hi f.lo = bitsOf v f.hi f.lo)) ∧
    (∀ o, o ≠ off → o ≠ Reg.DEV_AUDIT_STAT → t.reg o = s.reg o ∧ t.regPend o = s.regPend o) ∧
    t.beyond = { s.beyond with rws := t.rws } := by
  have q' := State.writeFields_quiet off fs v q
  refine ⟨fun f hf => ⟨?_, fun acc => ?_⟩, fun o ho haudit => ⟨?_, ?_⟩, ?_⟩
  · rw [settle_reg q' hoff]
    exact State.writeFields_field off rise v s hf
  · rw [settle_regPend q' hoff]
    exact State.writeFields_fieldPend off rise v s hf acc
  · rw [settle_reg q' haudit]
    exact State.writeFields_reg_other off fs v s ho
  · rw [settle_regPend q' haudit]
    exact State.writeFields_regPend_other off fs v s ho
  · rw [(follows_settle _ q').1, settle_field (·.rws) q']
    exact State.writeFields_beyond off fs v s

/-! ### Registers with a command row -/

/-- A REGISTER_WRITE of 32 bits is a write of its offset, as every command row of a register is. -/
theorem exec_registerWrite_word (m : Master) {off : Nat} (h : off < 2 ^ 24) (value : Word) (s : State) :
    exec (.registerWrite m (BitVec.ofNat 24 off) 4 value) s = finish (s.alive (·.writeReg m off 4 value.toNat)) := by
  show finish (s.alive (·.writeReg m (BitVec.ofNat 24 off).toNat 4 value.toNat)) = _
  rw [BitVec.toNat_ofNat, Nat.mod_eq_of_lt h]

end Sys2Proof.Machine
end

section
/-! SUPPORT. Register reads (00 R4, R6; 04 R86; 08 R191; 14 R340; 15 R349): what a served read answers and latches, and that a
reserved offset reads 0, latches nothing and keeps nothing. -/

namespace Sys2Proof.Machine

open Sys2Proof

/-! ### A served read -/

/-- A register read is a read of its master, followed by what every command brings. -/
theorem exec_latchingPairRead {s : State} (on : s.on) (m : Master) (off : BitVec 24) (size : Nat) :
    exec (.latchingPairRead m off size) s = .next (State.settle (s.readReg m off.toNat size)) := finish_on on _

/-- A served read of any register but INTC_HANDh_CLAIM answers its bytes, and latches what goes with it. -/
theorem State.readReg_plain {s : State} {m : Master} {off : Nat} (reaches : s.reaches m = true) (awake : s.asleep m = false)
    (h : ∀ h : Fin 2, off / 4 * 4 ≠ Reg.INTC_HAND_CLAIM h) (size : Nat) :
    s.readReg m off size = (s.latchRead (off / 4 * 4)).emit (.regRead m off (readBytes off size (s.readWord (off / 4 * 4)))) := by
  have other : ¬(off / 4 * 4 = Reg.INTC_HAND_CLAIM 0 ∨ off / 4 * 4 = Reg.INTC_HAND_CLAIM 1) := not_or.2 ⟨h 0, h 1⟩
  simp [State.readReg, reaches, awake, other]

/-- A read of a whole word answers its four bytes. -/
theorem readBytes_word {off : Nat} (aligned : off % 4 = 0) (w : Nat) : readBytes off 4 w = le 4 w := by
  simp [readBytes, padTo, zeros, le, aligned]

/-- A core's read of INTC_HANDh_CLAIM claims (15 R349). -/
theorem State.readReg_claim {s : State} (on : s.on) (h : Fin 2) :
    s.readReg .core (Reg.INTC_HAND_CLAIM h) 4 = (s.claim h).2.emit (.regRead .core (Reg.INTC_HAND_CLAIM h) (le 4 (s.claim h).1)) := by
  have reaches : s.reaches .core = true := (s.reaches_iff _).2 ⟨on, .inl rfl⟩
  have hand : ∀ h : Fin 2, (Reg.INTC_HAND_CLAIM h / 4 * 4 = Reg.INTC_HAND_CLAIM 0 ∨ Reg.INTC_HAND_CLAIM h / 4 * 4 = Reg.INTC_HAND_CLAIM 1) ∧
      fin2 ((Reg.INTC_HAND_CLAIM h / 4 * 4 - Reg.INTC_HAND_CLAIM 0) / 16) = h ∧ Reg.INTC_HAND_CLAIM h % 4 = 0 := by decide
  obtain ⟨isClaim, isHand, aligned⟩ := hand h
  simp [State.readReg, reaches, isClaim, isHand, readBytes_word aligned]

/-- A claim with nothing selected answers 0. -/
theorem State.claim_none {s : State} {h : Fin 2} (idle : (s.intc.cores.get h).selected = 0) : s.claim h = (0, s) := by
  unfold State.claim
  rw [if_pos idle]

/-- The source selected on a hand may still be claimed: it wins there, and is neither masked nor routed away. -/
def State.claimValid (s : State) (h : Fin 2) (src : Nat) : Bool := s.claimable h src && !s.srcMasked src && bitAt (s.srcRoute src) h.val

/-- A claim of the source selected, still valid, answers its ID, clears its pending bit and pushes its priority. -/
theorem State.claim_valid {s : State} {h : Fin 2} (selects : (s.intc.cores.get h).selected ≠ 0)
    (valid : s.claimValid h (s.intc.cores.get h).selected = true) :
    s.claim h = ((s.intc.cores.get h).selected, s.onCore h fun c => { c with
      pend := c.pend &&& ~~~(1#384 <<< c.selected), stack := (c.selected, s.srcPrio c.selected) :: c.stack, selected := 0 }) := by
  unfold State.claim
  rw [if_neg selects]
  exact if_pos valid

/-- A claim of a source that is no longer valid answers 1023, and selects nothing. -/
theorem State.claim_invalid {s : State} {h : Fin 2} (selects : (s.intc.cores.get h).selected ≠ 0)
    (invalid : s.claimValid h (s.intc.cores.get h).selected = false) : s.claim h = (1023, s.onCore h fun c => { c with selected := 0 }) := by
  unfold State.claim
  rw [if_neg selects]
  exact if_neg (Bool.eq_false_iff.1 invalid)

/-- CLAIM_READ of a core is its claim, followed by what every command brings. -/
theorem exec_claimRead {s : State} (on : s.on) (h : Fin 2) :
    exec (.claimRead .core h) s =
      .next (State.settle ((s.claim h).2.emit (.regRead .core (Reg.INTC_HAND_CLAIM h) (le 4 (s.claim h).1)))) := by
  rw [← State.readReg_claim on h]
  exact finish_on on _

/-- I2C_READ is a read of the target, followed by what every command brings. -/
theorem exec_i2cRead {s : State} (on : s.on) (index : Byte) (count : Nat) :
    exec (.i2cRead index count) s = .next (State.settle (s.i2cRead index.toNat count)) := finish_on on _

/-- Outside OFF and PASTEURISE the I²C target answers the values of its table (16 R381). -/
theorem State.i2cRead_answers {s : State} (notOff : s.dev.state ≠ .off) (notPaste : s.dev.state ≠ .pasteurise) (index count : Nat) :
    s.i2cRead index count = s.emit (.i2cRead (some ((List.range count).map fun k => s.i2cValue (index + k)))) :=
  if_neg (not_or.2 ⟨notOff, notPaste⟩)

/-! ### Reserved offsets (00 R6, 18 R409) -/

/-- No register row lies at or beyond 0x800000. -/
theorem regAt_beyond {off : Nat} (h : 0x800000 ≤ off) : regAt off = none := by
  unfold regAt regBlock
  rw [if_neg (by omega)]
  split
  · omega
  · omega
  · omega
  · omega
  · rfl

/-- Nothing lies at the word-aligned offset: no register, no word of the MSI-X table or its pending bits, no trace, no log. -/
def ReservedWord (a : Nat) : Prop :=
  regAt a = none ∧ ¬(0x00F000 ≤ a ∧ a < 0x00F100) ∧ a ≠ 0x00F800 ∧ ¬(0x400000 ≤ a ∧ a < 0x480000)

/-- A reserved word reads 0. -/
theorem State.readWord_reserved {a : Nat} (h : ReservedWord a) (s : State) : s.readWord a = 0 := by
  obtain ⟨noRow, notMsix, notPba, notTrace⟩ := h
  unfold State.readWord
  have notEntries : ¬(0x400000 ≤ a ∧ a < 0x440000) := by omega
  have notLog : ¬(0x440000 ≤ a ∧ a < 0x480000) := by omega
  rw [if_neg notMsix, if_neg notPba, if_neg notEntries, if_neg notLog, noRow]
  split <;> rfl

/-- A write to a reserved word changes nothing. -/
theorem State.writeWord_reserved {a : Nat} (h : ReservedWord a) (m : Master) (v : Nat) (s : State) : s.writeWord m a v = s := by
  obtain ⟨noRow, notMsix, _, notTrace⟩ := h
  unfold State.writeWord
  have notLog : ¬(0x440000 ≤ a ∧ a < 0x480000) := by omega
  rw [if_neg notMsix, if_neg notLog, noRow]
  split <;> rfl

/-- An offset without a register is not that of one. -/
theorem ne_of_noRow {a b : Nat} (noRow : regAt a = none) (row : (regAt b).isSome = true) : a ≠ b := by
  rintro rfl
  rw [noRow] at row
  cases row

/-- The ledger words, whose read latches others, are registers. -/
theorem regAt_potLedger : ∀ w : Fin 8, (regAt (Reg.DEV_POT_LEDGER w)).isSome = true := by decide
theorem regAt_chnPotLedger : ∀ (n : TileId) (w : Fin 8), (regAt (Reg.CHN_POT_LEDGER n w)).isSome = true := by decide
theorem regAt_chnProbeLedger : ∀ (n : TileId) (w : Fin 4), (regAt (Reg.CHN_PROBE_LEDGER n w)).isSome = true := by decide

/-- Where no register lies, none of `k` words at `base` lies. -/
theorem not_ledger_word {k base a : Nat} (rows : ∀ w : Fin k, (regAt (base + w * 4)).isSome = true) (noRow : regAt a = none)
    (aligned : a % 4 = base % 4) : ¬(base ≤ a ∧ a < base + k * 4) := by
  rintro ⟨least, most⟩
  have row := rows ⟨(a - base) / 4, by omega⟩
  have at_a : base + (a - base) / 4 * 4 = a := by omega
  simp only [at_a, noRow, Option.isSome_none] at row
  exact Bool.false_ne_true row

/-- A read of a reserved word latches nothing. -/
theorem State.latchRead_reserved {a : Nat} (noRow : regAt a = none) (aligned : a % 4 = 0) (s : State) : s.latchRead a = s := by
  unfold State.latchRead State.latchLedger
  rw [if_neg (ne_of_noRow noRow (by decide)), if_neg (ne_of_noRow noRow (by decide)), if_neg (ne_of_noRow noRow (by decide))]
  have notChip := not_ledger_word (k := 8) (base := Reg.DEV_POT_LEDGER 0) regAt_potLedger noRow aligned
  have notPot (n : TileId) := not_ledger_word (k := 8) (base := Reg.CHN_POT_LEDGER n 0) (regAt_chnPotLedger n) noRow
    (by simp only [Reg.CHN_POT_LEDGER]; omega)
  have notProbe (n : TileId) := not_ledger_word (k := 4) (base := Reg.CHN_PROBE_LEDGER n 0) (regAt_chnProbeLedger n) noRow
    (by simp only [Reg.CHN_PROBE_LEDGER]; omega)
  rw [if_neg notChip, if_neg fun h => notPot _ h.2, if_neg fun h => notProbe _ h.2]

/-- Bytes of 0. -/
theorem le_bytes_zero (n : Nat) : le n 0 = List.replicate n 0 := by
  induction n with
  | zero => rfl
  | succ n ih => exact congrArg (0#8 :: ·) ih

/-- A read of 0 answers 0 in every byte. -/
theorem readBytes_zero (off size : Nat) : readBytes off size 0 = List.replicate size 0 := by
  unfold readBytes padTo zeros
  rw [Nat.zero_div, le_bytes_zero, List.take_replicate, List.take_replicate, List.length_replicate]
  exact (List.replicate_append_replicate ..).trans (congrArg (List.replicate · 0#8) (by omega))

/-- An access of any byte of a reserved word, or beyond 0x800000, is one of a reserved word. -/
theorem reservedWord_of {off : Nat}
    (h : (regAt (off / 4 * 4) = none ∧ ¬(0x00F000 ≤ off ∧ off < 0x00F100) ∧ ¬(0x00F800 ≤ off ∧ off < 0x00F804) ∧
      ¬(0x400000 ≤ off ∧ off < 0x480000)) ∨ 0x800000 ≤ off) : ReservedWord (off / 4 * 4) := by
  unfold ReservedWord
  rcases h with ⟨noRow, notMsix, notPba, notTrace⟩ | beyond
  · exact ⟨noRow, by omega, by omega, by omega⟩
  · exact ⟨regAt_beyond (by omega), by omega, by omega, by omega⟩

/-- A served read of a reserved word answers zeros, and changes nothing else. -/
theorem State.readReg_reserved {s : State} {m : Master} {off : Nat} (reaches : s.reaches m = true) (awake : s.asleep m = false)
    (h : ReservedWord (off / 4 * 4)) (size : Nat) : s.readReg m off size = s.emit (.regRead m off (List.replicate size 0)) := by
  have claims : ∀ h : Fin 2, (regAt (Reg.INTC_HAND_CLAIM h)).isSome = true := by decide
  rw [State.readReg_plain reaches awake fun k => ne_of_noRow h.1 (claims k), State.readWord_reserved h,
    State.latchRead_reserved h.1 (Nat.mul_mod_left _ _), readBytes_zero]

/-- A write to a reserved word changes nothing. -/
theorem State.writeReg_reserved {s : State} {m : Master} {off : Nat} (awake : s.asleep m = false) (h : ReservedWord (off / 4 * 4))
    (size v : Nat) : s.writeReg m off size v = s := by
  obtain discarded | ⟨permitted, word⟩ := State.writeReg_awake awake off size v
  · exact discarded
  · have aligned : off / 4 * 4 = off := by omega
    exact word.trans (State.writeWord_reserved (aligned ▸ h) m v s)

/-! ### DEV_IDENT (00 R1) -/

/-- The domain of the register map's first block is on wherever the device is not OFF (02 R39). -/
theorem bitAt_domainsOn_dev {s : State} (on : s.on) : bitAt s.domainsOn 1 = true := by
  have always (d : Nat) : bitAt (d ||| 0x7B) 1 = true := by
    unfold bitAt
    rw [Nat.testBit_or]
    exact Bool.or_true _
  unfold State.domainsOn
  split
  · contradiction
  · decide
  · decide
  · decide
  all_goals exact always _

/-- DEV_IDENT reads its value. -/
theorem State.readWord_ident {s : State} (on : s.on) : s.readWord Reg.DEV_IDENT = 0x51543216 := by
  have powered := bitAt_domainsOn_dev on
  unfold State.readWord
  rw [if_neg (by rw [show domainOf Reg.DEV_IDENT = 1 from rfl, powered]; decide)]
  rfl

end Sys2Proof.Machine
end

section
/-! PROOFS. The statements of the scope chapter that are settled: O55, O17, O56. -/

namespace Sys2Proof.Machine

open Sys2Proof

/-- Settles O55: a write that is not served changes nothing; a served one to a register kept as such is the writes of its
fields, one by one; one to a register with a command row is the same call as that row. -/
theorem registerWrites : Obligations.RegisterWrites := by
  unfold Obligations.RegisterWrites
  refine ⟨fun s m off size value on discards => ?_, fun s off size value on up asleep => ?_, ?_, fun s m value => ?_⟩
  · rw [exec_registerWrite on]
    rcases discards with ⟨rfl, down⟩ | ⟨awake, discards⟩
    · have unreached : s.reaches .host = false := by simp [State.reaches, down]
      rw [State.writeReg_unreached unreached]
    · rw [State.writeReg_discarded (State.reaches_awake on awake).2 discards]
  · rw [exec_registerWrite on, State.writeReg_asleep (m := .host) ((s.reaches_iff _).2 ⟨on, .inr up⟩) asleep]
    rfl
  · intro s m off value r is q serves aligned hr hook notClaim notCurve notMsix notLog
    have rise := regAt_fieldsRise hr
    obtain ⟨fields, others, beyond⟩ := writeFields_settle q rise (ne_audit_of_no_hook hr hook) value.toNat
    refine ⟨_, ?_, fun f hf => ?_, others, beyond⟩
    · rw [exec_registerWrite serves.1, State.writeReg_fields serves ⟨aligned, notMsix, notLog⟩ hr ⟨notClaim, notCurve⟩ hook]
    · obtain ⟨inForce, pending⟩ := fields f hf
      rw [inForce]
      exact ⟨fun acc => by rw [Fld.afterWrite, acc], fun acc => by rw [Fld.afterWrite, acc],
        fun notRw notW1c => Fld.afterWrite_kept notRw notW1c _ _, pending⟩
  · have row {off : Nat} (h : off < 2 ^ 24) := exec_registerWrite_word m h value s
    refine ⟨fun r => ⟨row ?_, row ?_, row ?_, row ?_⟩, fun q => ⟨row ?_, row ?_, row ?_, row ?_⟩, fun h => row ?_, fun h w => row ?_,
      fun w => row ?_, fun n => ⟨row ?_, row ?_⟩, fun c => row ?_, fun c => ⟨row ?_, row ?_⟩, row ?_, row ?_, row ?_, row ?_⟩
    all_goals
      simp only [Reg.DEV_RING_SQ_TAIL, Reg.DEV_RING_CQ_HEAD, Reg.DEV_RING_CFG, Reg.DEV_RING_STAT, Reg.EVQ_CFG, Reg.EVQ_CONS, Reg.EVQ_CTL,
        Reg.EVQ_STAT, Reg.INTC_HAND_CLAIM, Reg.INTC_HAND_PEND, Reg.FLT_PEND, Reg.TL_LANE_PWR, Reg.TL_DIAG_CTL, Reg.CTL_TRC_CTL,
        Reg.ACC_CH_FADE, Reg.ACC_CH_CTL, Reg.FLT_FIRST, Reg.FLT_INJECT, Reg.HK_CAL_CTL, Reg.ACC_MCTL]
      omega

/-- Settles O17: a served read answers `readBytes` of its word and latches what goes with it; a claim falls into its three cases;
the I²C target only answers. -/
theorem masterReadsRegisters : Obligations.MasterReadsRegisters := by
  unfold Obligations.MasterReadsRegisters
  refine ⟨fun s m off size reaches awake notClaim0 notClaim1 => ?_,
    fun s h on => ⟨fun idle => ?_, fun selects valid => ?_, fun selects invalid => ?_⟩, fun s index count notOff notPaste => ?_⟩
  · have on := ((s.reaches_iff m).1 reaches).1
    have notClaim : ∀ h : Fin 2, off.toNat / 4 * 4 ≠ Reg.INTC_HAND_CLAIM h := Fin.forall_fin_two.2 ⟨notClaim0, notClaim1⟩
    rw [exec_latchingPairRead on, State.readReg_plain reaches awake notClaim]
    rfl
  · rw [exec_claimRead on, State.claim_none idle]
  · rw [exec_claimRead on, State.claim_valid selects valid]
  · rw [exec_claimRead on, State.claim_invalid selects invalid]
  · rw [exec_i2cRead notOff, State.i2cRead_answers notOff notPaste]
    rfl

/-- Settles O56: at a reserved word there is nothing to read, to latch or to write, and domain 1 is on outside OFF. -/
theorem reservedOffsetsAndIdent : Obligations.ReservedOffsetsAndIdent := by
  unfold Obligations.ReservedOffsetsAndIdent
  intro s m on served
  obtain ⟨reaches, awake⟩ := State.reaches_awake on served
  refine ⟨fun off size value reserved => ⟨?_, ?_⟩, ?_⟩
  · rw [exec_latchingPairRead on, State.readReg_reserved reaches awake (reservedWord_of reserved)]
    rfl
  · rw [exec_registerWrite on, State.writeReg_reserved awake (reservedWord_of reserved)]
  · have notClaim : ∀ h : Fin 2, Reg.DEV_IDENT / 4 * 4 ≠ Reg.INTC_HAND_CLAIM h := by decide
    rw [exec_latchingPairRead on]
    have read := State.readReg_plain (size := 4) reaches awake notClaim
    rw [show Reg.DEV_IDENT / 4 * 4 = Reg.DEV_IDENT from rfl, State.readWord_ident on] at read
    exact congrArg (fun x : State => Host.Outcome.next x.settle) read

end Sys2Proof.Machine
end

section
/-! SUPPORT. The credit balance of a port (01 R24): every move of the ledger takes from one pool what it gives to another. -/

namespace Sys2Proof.Machine

open Sys2Proof

/-! ### Moves between the pools of a port -/

@[simp] theorem Port.creditSum_setLock (l : TxLane) (v : Bool) (p : Port) : (p.setLock l v).creditSum = p.creditSum := by cases l <;> rfl
@[simp] theorem Port.creditSum_setUnpark (l : TxLane) (v : Bool) (p : Port) : (p.setUnpark l v).creditSum = p.creditSum := by cases l <;> rfl
@[simp] theorem Port.creditSum_onTrack (seq : Nat) (f : Track → Track) (p : Port) : (p.onTrack seq f).creditSum = p.creditSum := rfl
/-- The counts of a frame are no credits. -/
theorem Port.creditSum_counts (lane : TxLane) (resends : Nat) (lost : BitVec 3) (p : Port) :
    ({ p with lastNew := lane, resends := resends, lostLanes := lost } : Port).creditSum = p.creditSum := rfl
@[simp] theorem Port.creditSum_setTx (l : TxLane) (v : Nat) (p : Port) : (p.setTx l v).creditSum = p.creditSum := by cases l <;> rfl

/-- A grant goes to the lane's usable or parked credits alone. -/
theorem Port.grant_eq (l : TxLane) (k : Nat) (p : Port) :
    p.grant l k = p.setCred l (p.cred l + k) ∨ p.grant l k = p.setPark l (p.park l + k) := by
  unfold Port.grant
  split
  · exact .inl rfl
  · exact .inr rfl

theorem Port.creditSum_grant (l : TxLane) (k : Nat) (p : Port) : (p.grant l k).creditSum = p.creditSum + k := by
  rcases p.grant_eq l k with usable | parked
  · rw [usable]
    cases l <;> simp only [Port.setCred, Port.cred, Port.creditSum] <;> omega
  · rw [parked]
    cases l <;> simp only [Port.setPark, Port.park, Port.creditSum] <;> omega

/-- `x` copies in flight on a lane's credits land on the lane. -/
def Port.flightLands (l : TxLane) (x : Nat) (p : Port) : Port := (p.setInFlight l (p.inFlight l - x)).grant l x
/-- `y` copies in flight on kitty credits land on the kitty. -/
def Port.kittyLands (l : TxLane) (y : Nat) (p : Port) : Port :=
  { p.setInKitty l (p.inKitty l - y) with kitty := p.kitty + y }
/-- The tile grants a lane `z` of the credits that it holds. -/
def Port.tileGrants (l : TxLane) (z : Nat) (p : Port) : Port := { p.grant l z with tileHeld := p.tileHeld - z }

theorem Port.creditSum_flightLands {l : TxLane} {x : Nat} {p : Port} (h : x ≤ p.inFlight l) :
    (p.flightLands l x).creditSum = p.creditSum := by
  rw [Port.flightLands, Port.creditSum_grant]
  cases l <;> simp only [Port.setInFlight, Port.inFlight, Port.creditSum] at * <;> omega

theorem Port.creditSum_kittyLands {l : TxLane} {y : Nat} {p : Port} (h : y ≤ p.inKitty l) :
    (p.kittyLands l y).creditSum = p.creditSum := by
  cases l <;> simp only [Port.kittyLands, Port.setInKitty, Port.inKitty, Port.creditSum] at * <;> omega

theorem Port.creditSum_tileGrants {l : TxLane} {z : Nat} {p : Port} (h : z ≤ p.tileHeld) :
    (p.tileGrants l z).creditSum = p.creditSum := by
  have granted : (p.grant l z).tileHeld = p.tileHeld ∧ (p.grant l z).creditSum = p.creditSum + z :=
    ⟨by rcases p.grant_eq l z with h | h <;> rw [h] <;> cases l <;> rfl, p.creditSum_grant l z⟩
  simp only [Port.tileGrants, Port.creditSum] at *
  omega

/-- What lands on a lane leaves the kitty's copies and the tile's credits as they are. -/
theorem Port.flightLands_keeps (l : TxLane) (x : Nat) (p : Port) :
    (∀ m, (p.flightLands l x).inKitty m = p.inKitty m) ∧ (p.flightLands l x).tileHeld = p.tileHeld := by
  unfold Port.flightLands
  rcases (p.setInFlight l (p.inFlight l - x)).grant_eq l x with usable | parked
  · rw [usable]
    exact ⟨fun m => by cases l <;> cases m <;> rfl, by cases l <;> rfl⟩
  · rw [parked]
    exact ⟨fun m => by cases l <;> cases m <;> rfl, by cases l <;> rfl⟩

/-- What lands on the kitty leaves the other lane's copies and the tile's credits as they are. -/
theorem Port.kittyLands_keeps (l : TxLane) (y : Nat) (p : Port) :
    (p.kittyLands l y).inKitty (otherLane l) = p.inKitty (otherLane l) ∧ (p.kittyLands l y).tileHeld = p.tileHeld := by
  cases l <;> exact ⟨rfl, rfl⟩

/-- All of a lane's copies in flight on kitty credits land on the kitty. -/
theorem Port.creditSum_kittyLandsAll (l : TxLane) (p : Port) :
    ({ p.setInKitty l 0 with kitty := p.kitty + p.inKitty l } : Port).creditSum = p.creditSum := by
  have lands := Port.creditSum_kittyLands (Nat.le_refl (p.inKitty l))
  rwa [Port.kittyLands, Nat.sub_self] at lands

/-- A copy takes one of its lane's usable credits. -/
theorem Port.creditSum_laneSends {l : TxLane} {p : Port} (h : 0 < p.cred l) :
    ((p.setCred l (p.cred l - 1)).setInFlight l (p.inFlight l + 1)).creditSum = p.creditSum := by
  cases l <;> simp only [Port.setCred, Port.cred, Port.setInFlight, Port.inFlight, Port.creditSum] at * <;> omega

/-- A copy takes one of the kitty's credits. -/
theorem Port.creditSum_kittySends {l : TxLane} {p : Port} (h : 0 < p.kitty) :
    ({ p.setInKitty l (p.inKitty l + 1) with kitty := p.kitty - 1 } : Port).creditSum = p.creditSum := by
  cases l <;> simp only [Port.setInKitty, Port.inKitty, Port.creditSum] at * <;> omega

/-- All of a lane's credits park, those of its copies in flight with them. -/
theorem Port.creditSum_laneParks (l : TxLane) (p : Port) :
    (((p.setPark l (p.park l + p.cred l + p.inFlight l)).setCred l 0).setInFlight l 0).creditSum = p.creditSum := by
  cases l <;> simp only [Port.setCred, Port.cred, Port.setPark, Port.park, Port.setInFlight, Port.inFlight, Port.creditSum] <;> omega

/-- Parked credits become usable. -/
theorem Port.creditSum_laneUnparks (l : TxLane) (p : Port) :
    ((p.setCred l (p.cred l + p.park l)).setPark l 0).creditSum = p.creditSum := by
  cases l <;> simp only [Port.setCred, Port.cred, Port.setPark, Port.park, Port.creditSum] <;> omega

/-- All of a lane's credits are granted to it anew. -/
theorem Port.creditSum_laneGathers (l : TxLane) (p : Port) :
    ((((p.setCred l 0).setPark l 0).setInFlight l 0).grant l (p.cred l + p.park l + p.inFlight l)).creditSum = p.creditSum := by
  rw [Port.creditSum_grant]
  cases l <;> simp only [Port.setCred, Port.cred, Port.setPark, Port.park, Port.setInFlight, Port.inFlight, Port.creditSum] <;> omega

/-- RESYNC's baselines are no credits, and all copies in flight on kitty credits land on the kitty. -/
theorem Port.creditSum_resynced (a b k : Nat) (leave : Bool) (p : Port) :
    ({ p with kitty := p.kitty + p.inKA + p.inKB, inKA := 0, inKB := 0, relA := a, relB := b, relK := k, leaveBlind := leave } :
      Port).creditSum = p.creditSum := by
  simp only [Port.creditSum]
  omega

/-! ### Releases, and credits that land (09 R209, R220) -/

/-- Releases of a lane are four moves: its copies land, kitty copies of its own and of the other lane land, and the tile
grants what is over. -/
theorem Port.release_eq (l : TxLane) (d : Nat) (p : Port) :
    let x := min d (p.inFlight l)
    let y := min (d - x) (p.inKitty l)
    let y' := min (d - x - y) (p.inKitty (otherLane l))
    p.release l d =
      (((p.flightLands l x).kittyLands l y).kittyLands (otherLane l) y').tileGrants l (min (d - x - y - y') p.tileHeld) := rfl

theorem Port.creditSum_release (l : TxLane) (d : Nat) (p : Port) : (p.release l d).creditSum = p.creditSum := by
  rw [Port.release_eq]
  obtain ⟨kitty, held⟩ := p.flightLands_keeps l (min d (p.inFlight l))
  rw [Port.creditSum_tileGrants, Port.creditSum_kittyLands, Port.creditSum_kittyLands, Port.creditSum_flightLands]
  · exact Nat.min_le_right _ _
  · rw [kitty]
    exact Nat.min_le_right _ _
  · rw [(Port.kittyLands_keeps ..).1, kitty]
    exact Nat.min_le_right _ _
  · rw [(Port.kittyLands_keeps ..).2, (Port.kittyLands_keeps ..).2, held]
    exact Nat.min_le_right _ _

/-- The kitty's releases move credits: kitty copies land, and the tile grants what is over. -/
theorem Port.creditSum_releaseKitty (d : Nat) (p : Port) : (p.releaseKitty d).creditSum = p.creditSum := by
  simp only [Port.releaseKitty, Port.creditSum]
  omega

theorem Port.creditSum_takeReleases (lanes : List TxLane) (a b k : Nat) (p : Port) :
    (p.takeReleases lanes a b k).creditSum = p.creditSum := by
  have lane (l : TxLane) (d : Nat) (p : Port) : (if lanes.contains l then p.release l d else p).creditSum = p.creditSum := by
    split
    · exact p.creditSum_release l d
    · rfl
  unfold Port.takeReleases
  split
  · rfl
  · exact (lane .b _ _).trans ((lane .a _ _).trans (p.creditSum_releaseKitty _))

theorem Port.creditSum_landCredits (p : Port) : p.landCredits.creditSum = p.creditSum := by
  have flights : ((p.grant .a p.inA).grant .b p.inB).creditSum = p.creditSum + p.inA + p.inB := by
    rw [Port.creditSum_grant, Port.creditSum_grant]
  have kept (l : TxLane) (k : Nat) (p : Port) : (p.grant l k).inA = p.inA ∧ (p.grant l k).inB = p.inB ∧
      (p.grant l k).inKA = p.inKA ∧ (p.grant l k).inKB = p.inKB ∧ (p.grant l k).kitty = p.kitty := by
    rcases p.grant_eq l k with h | h <;> rw [h] <;> cases l <;> exact ⟨rfl, rfl, rfl, rfl, rfl⟩
  obtain ⟨a1, b1, ka1, kb1, k1⟩ := kept .a p.inA p
  obtain ⟨a2, b2, ka2, kb2, k2⟩ := kept .b p.inB (p.grant .a p.inA)
  unfold Port.landCredits
  generalize (p.grant .a p.inA).grant .b p.inB = r at *
  generalize p.grant .a p.inA = q at *
  simp only [Port.creditSum] at *
  omega

/-! ### The sixteen ports -/

theorem State.port_onPort_self (n : TileId) (f : Port → Port) (s : State) : (s.onPort n f).port n = f (s.port n) := by
  simp [State.port, vector_get_set]
theorem State.port_onPort_other {n k : TileId} (h : n ≠ k) (f : Port → Port) (s : State) : (s.onPort n f).port k = s.port k := by
  simp [State.port, vector_get_set, h]

/-- Every port's balance is the same. -/
def KeepsCredits (s t : State) : Prop := ∀ k : TileId, (t.port k).creditSum = (s.port k).creditSum

theorem KeepsCredits.refl (s : State) : KeepsCredits s s := fun _ => rfl
theorem KeepsCredits.trans {s t u : State} (h : KeepsCredits s t) (k : KeepsCredits t u) : KeepsCredits s u :=
  fun n => (k n).trans (h n)
theorem KeepsCredits.ite {p : Prop} [Decidable p] {s t u : State} (h : KeepsCredits s t) (k : KeepsCredits s u) :
    KeepsCredits s (if p then t else u) := by
  split <;> assumption
theorem KeepsCredits.each {α : Type} {f : α → State → State} (h : ∀ a s, KeepsCredits s (f a s)) (l : List α) (s : State) :
    KeepsCredits s (forEach l f s) := fun n => forEach_keeps (fun t : State => (t.port n).creditSum) (fun a s => h a s n) l s

/-- A change of one port that keeps its balance keeps every port's. -/
theorem keepsCredits_onPort {n : TileId} {f : Port → Port} {s : State} (h : (f (s.port n)).creditSum = (s.port n).creditSum) :
    KeepsCredits s (s.onPort n f) := fun k => by
  by_cases at_n : n = k
  · rw [← at_n, State.port_onPort_self, h]
  · rw [State.port_onPort_other at_n]

theorem keepsCredits_mapTracks (n : TileId) (f : Track → Track) (s : State) :
    KeepsCredits s (s.onPort n fun p => { p with tracks := p.tracks.map f }) := keepsCredits_onPort rfl

theorem Posts.keepsCredits {s t : State} (h : Posts s t) : KeepsCredits s t :=
  fun n => posts_field (fun t : State => (t.port n).creditSum) h
theorem keepsCredits_setFlag (off bit : Nat) (s : State) : KeepsCredits s (s.setFlag off bit) := fun _ => rfl
theorem posts_laneRecord (n : TileId) (lane event : Nat) (s : State) : Posts s (s.laneRecord n lane event) := posts_post _ _ _ s

/-! ### Releases, sends, lanes down and up, blind operation (09 R207, R208, R219 to R221) -/

theorem keepsCredits_releases (n : TileId) (a b k : BitVec 16) (s : State) : KeepsCredits s (s.releases n a b k) :=
  keepsCredits_onPort (Port.creditSum_takeReleases ..)

/-- The pool that a copy takes its credit from has one, but in blind operation, which consumes none (09 R208, R220). -/
theorem State.poolFor_has {s : State} {n : TileId} {l : TxLane} {t : Track} {pool : Nat} (h : s.poolFor n l t = some pool)
    (seeing : ¬(s.port n).blind = true) : if pool = 0 then 0 < (s.port n).cred l else 0 < (s.port n).kitty := by
  unfold State.poolFor at h
  dsimp only at h
  split at h
  next lane =>
    cases h
    exact lane.resolve_left seeing
  next =>
    split at h
    · split at h
      next kitty => cases h; exact kitty
      next => cases h
    · split at h
      next kitty =>
        cases h
        simp only [Bool.and_eq_true, decide_eq_true_eq] at kitty
        exact Nat.lt_of_succ_lt (Nat.lt_of_succ_lt kitty.2)
      next => cases h

theorem keepsCredits_sendCopy (n : TileId) (l : TxLane) (x : Track) (s : State) : KeepsCredits s (s.sendCopy n l x) := by
  unfold State.sendCopy
  split
  · exact KeepsCredits.refl s
  next pool found =>
    refine (keepsCredits_onPort ?_).trans (posts_emit _ _).keepsCredits
    dsimp only
    rw [Port.creditSum_counts _ _ (Port.lostLanes _), Port.creditSum_setTx, Port.creditSum_onTrack]
    split
    · rfl
    · have credit := State.poolFor_has found ‹_›
      split at credit
      next lane => rw [if_pos lane, Port.creditSum_laneSends credit]
      next kitty => rw [if_neg kitty, Port.creditSum_kittySends credit]

theorem keepsCredits_sendLost (n : TileId) (t : Track) (s : State) : KeepsCredits s (s.sendLost n t) := by
  unfold State.sendLost
  exact KeepsCredits.ite (KeepsCredits.refl s)
    (KeepsCredits.ite (keepsCredits_onPort rfl) (keepsCredits_onPort rfl))

theorem keepsCredits_laneDownAt (n : TileId) (l : TxLane) (s : State) : KeepsCredits s (s.laneDownAt n l) := by
  unfold State.laneDownAt
  refine KeepsCredits.ite (KeepsCredits.refl s) (KeepsCredits.ite (keepsCredits_onPort (Port.creditSum_setLock ..)) ?_)
  have cutCopy (t : Track) (s : State) : KeepsCredits s
      ((s.onPort n fun p => p.onTrack t.seq fun t => { t with due := [] }).sendLost n { t with due := [] }) :=
    (keepsCredits_onPort (Port.creditSum_onTrack _ _ _)).trans (keepsCredits_sendLost n _ _)
  refine KeepsCredits.trans ?_ (keepsCredits_mapTracks _ _ _)
  refine KeepsCredits.trans ?_ (KeepsCredits.each cutCopy _ _)
  refine KeepsCredits.trans ?_ (posts_laneRecord _ _ _ _).keepsCredits
  refine KeepsCredits.trans ?_ (keepsCredits_setFlag _ _ _)
  refine keepsCredits_onPort ?_
  dsimp only
  rw [Port.creditSum_counts (Port.lastNew _) (Port.resends _), Port.creditSum_laneParks]
  split
  · simp only [Port.creditSum_setUnpark, Port.creditSum_setLock]
  · rw [Port.creditSum_kittyLandsAll, Port.creditSum_setUnpark, Port.creditSum_setLock]

theorem keepsCredits_laneUpAt (n : TileId) (l : TxLane) (s : State) : KeepsCredits s (s.laneUpAt n l) := by
  unfold State.laneUpAt
  refine KeepsCredits.ite (KeepsCredits.refl s) ((keepsCredits_onPort ?_).trans (posts_laneRecord _ _ _ _).keepsCredits)
  exact (Port.creditSum_setUnpark ..).trans ((Port.creditSum_setTx ..).trans (Port.creditSum_setLock ..))

theorem keepsCredits_unparkAt (n : TileId) (l : TxLane) (s : State) : KeepsCredits s (s.unparkAt n l) := by
  unfold State.unparkAt
  refine keepsCredits_onPort ?_
  dsimp only
  rw [apply_ite Port.creditSum, Port.creditSum_setUnpark, Port.creditSum_laneUnparks, ite_self]

theorem keepsCredits_enterBlindPort (n : TileId) (s : State) : KeepsCredits s (s.enterBlindPort n) := by
  unfold State.enterBlindPort
  refine KeepsCredits.ite (KeepsCredits.refl s) (KeepsCredits.trans (keepsCredits_onPort ?_)
    ((keepsCredits_setFlag _ _ _).trans (posts_laneRecord _ _ _ _).keepsCredits))
  exact (s.port n).creditSum_landCredits

theorem keepsCredits_resyncPort (n : TileId) (a b k : Nat) (s : State) : KeepsCredits s (s.resyncPort n a b k) := by
  unfold State.resyncPort
  refine keepsCredits_onPort ?_
  dsimp only
  rw [Port.creditSum_resynced, Port.creditSum_laneGathers, Port.creditSum_laneGathers]

/-- After a ledger reset the tile holds the port's total, and no credit is anywhere else (09 R225). -/
theorem resetLedger_credits (n : TileId) (s : State) : ((s.resetLedger n).port n).creditSum = s.portTotal ∧
    ((s.resetLedger n).port n).tileHeld = s.portTotal ∧
    ∀ k : TileId, k ≠ n → ((s.resetLedger n).port k).creditSum = (s.port k).creditSum := by
  have recorded (c : Bool) (t : State) (k : TileId) : (if c then t.laneRecord n 2 6 else t).port k = t.port k := by
    split
    · exact posts_field (·.port k) (posts_laneRecord n 2 6 t)
    · rfl
  unfold State.resetLedger
  dsimp only
  refine ⟨?_, ?_, fun k other => ?_⟩
  · rw [recorded, State.port_onPort_self]
    simp only [Port.creditSum, Nat.zero_add]
  · rw [recorded, State.port_onPort_self]
  · rw [recorded, State.port_onPort_other other.symm]

end Sys2Proof.Machine
end

section
/-! SUPPORT. The memory controller's rows (16 R375 to R378; 01 R21): what each does where its conditions hold. -/

namespace Sys2Proof.Machine

open Sys2Proof

theorem exec_patrolScrub {s : State} (on : s.on) (f : ScrubFinding) : exec (.patrolScrub f) s = .next (State.settle (s.patrolScrub f)) :=
  finish_on on _

theorem State.selfRefreshEntry_due {s : State} {tol : Nat} (awake : s.memc.srSince = none) (trained : s.memc.trained = true)
    (enabled : s.bit Reg.MEMC_SR_CFG 0 = true) (tolerant : s.enterTol ≤ s.minTolerance tol) :
    s.selfRefreshEntry tol = s.onMemc fun m => { m with
      srSince := some s.lamp, minTol := tol, srEntries := (m.srEntries + 1) % 65536 } := by
  unfold State.selfRefreshEntry
  rw [if_neg]
  simp [awake, trained, enabled, Nat.not_lt.2 tolerant]

theorem State.selfRefreshExit_asleep {s : State} {t0 : Nat} (asleep : s.memc.srSince = some t0) (tol : Nat) :
    s.selfRefreshExit tol = s.onMemc fun m => { m with srSince := none, minTol := tol, srCounts := m.srCounts + (s.lamp - t0) } := by
  unfold State.selfRefreshExit
  rw [asleep]

/-- Training at BOOT ends with a size that R375 permits. -/
theorem State.trainingDone_permitted {s : State} {x : TrainResult} (boot : s.dev.state = .boot) (untrained : s.memc.trained = false)
    (size : x.sizeGib = 2 ∨ x.sizeGib = 4 ∨ x.sizeGib = 8 ∨ x.sizeGib = 16) :
    s.trainingDone (some x) = s.onMemc fun m => { m with
      trained := true, rate := x.rate.val, ranks := b2n x.twoRanks, sizeGib := x.sizeGib } := by
  unfold State.trainingDone
  rw [if_neg (by simp [boot, untrained])]
  exact if_pos size

theorem State.refreshRead_trained {s : State} (trained : s.memc.trained = true) (l : List Nat) :
    s.refreshRead l = s.onMemc fun m => { m with refresh := l } := if_pos trained

/-- Outside OFF a finding of the scrubber acts as its kind has it. -/
theorem State.patrolScrub_sram {s : State} (on : s.on) (r : Fin 14) :
    s.patrolScrub (.sramCorrected r) = s.raise 6 r.val ∧ s.patrolScrub (.sramUncorrectable r) = s.raise 7 r.val := ⟨if_neg on, if_neg on⟩

/-- With the scrubber enabled, a finding within the data space counts, and raises what goes with it (16 R377). -/
theorem State.patrolScrub_dram {s : State} (on : s.on) (enabled : s.bit Reg.MEMC_SCRUB 0 = true) {a : Nat} (inside : a < s.dataSpace) :
    s.patrolScrub (.corrected a) = (s.onMemc fun m => { m with eccCorr := satAdd 0xFFFF m.eccCorr 1 }).raise 8 0xF2 ∧
    s.patrolScrub (.uncorrectable a) =
      { s with dramBad := if s.dramBad.contains (a / 8) then s.dramBad else s.dramBad ++ [a / 8] }.dramUncorr 15 2 a ∧
    s.patrolScrub .passDone = s.onMemc fun m => { m with scrubPasses := satAdd 0xFFFF m.scrubPasses 1 } := by
  have dram := And.intro enabled inside
  exact ⟨(if_neg on).trans (if_pos dram), (if_neg on).trans (if_pos dram), (if_neg on).trans (if_pos enabled)⟩

end Sys2Proof.Machine
end

section
/-! SUPPORT. The frame's events (01 R14 to R16; 04 R81; 05 R105; 09 R212): what each does where it is due. -/

namespace Sys2Proof.Machine

open Sys2Proof

/-- Sample tick j of a frame comes at S(m, j), and runs the loops (01 R16, 11 R256). -/
theorem State.sampleTick_due {s : State} (started : s.timing.started = true) (within : s.timing.nextSample ≤ 7) (missed : List LoopId) :
    s.sampleTick missed = (((s.advanceTo (s.sampleAt s.timing.nextSample)).onTiming fun t => { t with
      sample := s.timing.nextSample, nextSample := s.timing.nextSample + 1
      sampleCnt := (t.sampleCnt + 1) % 65536 }).trackOutputs.ctlTick missed).sendOutputs := by
  unfold State.sampleTick
  exact if_neg (by simp [started, within])

/-- The fence of the coming cut comes 50 µs before it (05 R105). -/
theorem State.cutFence_due {s : State} (started : s.timing.started = true) (unfenced : s.timing.fenced = false)
    (before : s.timing.pastCut = false) :
    let due := (s.advanceTo (s.cutAt - 5000)).onTiming fun t => { t with fenced := true }
    s.cutFence = if s.dev.state = .hold then due else due.readFences := by
  unfold State.cutFence
  exact if_neg (by simp [started, unfenced, before])

/-- The cut comes after the sample ticks and the fence of its frame (01 R15, log 13). -/
theorem State.cutNow_due {s : State} (started : s.timing.started = true) (before : s.timing.pastCut = false) :
    let x := (s.samplesLeft (8 - s.timing.nextSample)).cutFence
    s.cutNow = State.cutOpen (State.cutClose ((x.advanceTo x.cutAt).onTiming fun t => { t with
      pastCut := true, cutCnt := (t.cutCnt + 1) % 65536 })) := by
  unfold State.cutNow
  exact if_neg (by simp [started, before])

/-- A cut that has come does not come again in its frame. -/
theorem State.cutNow_past {s : State} (past : s.timing.pastCut = true) : s.cutNow = s := by
  unfold State.cutNow
  exact if_pos (by simp [past])

/-- The horizon comes once in a frame, and asks every port (09 R212). -/
theorem State.retryHorizon_due {s : State} (started : s.timing.started = true) (before : s.timing.pastHorizon = false) :
    s.retryHorizon = forEach tileIds (fun n s => s.horizonPort n)
      ((s.advanceTo s.horizonAt).onTiming fun t => { t with pastHorizon := true }) := by
  unfold State.retryHorizon
  exact if_neg (by simp [started, before])

/-- The state at the tick that comes: with the generator started, the horizon has come and the clock has moved on (04 R78, R79). -/
def State.atTick (s : State) : State :=
  if s.timing.started then if s.horizonNow.timing.started then s.horizonNow.advanceTo s.horizonNow.nextTick else s.horizonNow else s

/-- The frame tick comes after the horizon of the frame that ends (01 R14, log 13). -/
theorem State.frameTick_on {s : State} (on : s.on) :
    let r := s.atTick.retimeTick
    let y := (r.1.redealTick.setupTick.placeTick.tickClose).localTick.noticeTick.partnerTick
    s.frameTick = (forEach tileIds (fun n t => t.sendTick r.2 n)
      (forEach tileIds (State.composeTick y.faults.localGroups) y)).scanTick := by
  have atTick : (if (if s.timing.started then s.horizonNow else s).timing.started
      then (if s.timing.started then s.horizonNow else s).advanceTo (if s.timing.started then s.horizonNow else s).nextTick
      else if s.timing.started then s.horizonNow else s) = s.atTick := by
    unfold State.atTick
    by_cases started : s.timing.started = true
    · simp only [if_pos started]
    · simp only [if_neg started]
  unfold State.frameTick
  rw [if_neg on]
  dsimp only
  rw [atTick]

end Sys2Proof.Machine
end

section
/-! SUPPORT. The state after reset (03 R50, R56; 14 R322). -/

namespace Sys2Proof.Machine

open Sys2Proof

/-- After reset a register reads the value of its table, in force and pending. -/
theorem reset_reg (off : Nat) : State.reset.reg off = resetWord off ∧ State.reset.regPend off = resetWord off := ⟨rfl, rfl⟩

/-- After reset every ring, and every port, is as its fields' defaults have it. -/
theorem reset_ring (r : RingId) : State.reset.ring r = {} := by
  simp [State.ring, State.reset, Vector.get]
theorem reset_port (n : TileId) : State.reset.port n = {} := by
  simp [State.port, State.reset, Vector.get]

theorem reset_evqEnabled : ∀ q : QueueId, State.reset.evqEnabled q = false := by
  decide

end Sys2Proof.Machine
end

section
/-! PROOFS. The statements of the architecture chapter that are settled: O39, O21, O32, O60. -/

namespace Sys2Proof.Machine

open Sys2Proof

/-- Settles O39: each operation moves credits between the pools of one port, and does not touch another; a ledger reset puts the
port's total at the tile. -/
theorem creditsBalance : Obligations.CreditsBalance := by
  unfold Obligations.CreditsBalance
  intro s n keeps
  have all {t : State} (h : KeepsCredits s t) : keeps t := ⟨h n, fun k _ => h k⟩
  exact ⟨fun a b k => all (keepsCredits_releases n a b k s), fun l x => all (keepsCredits_sendCopy n l x s),
    fun l => ⟨all (keepsCredits_laneDownAt n l s), all (keepsCredits_laneUpAt n l s), all (keepsCredits_unparkAt n l s)⟩,
    all (keepsCredits_enterBlindPort n s), fun a b k => all (keepsCredits_resyncPort n a b k s), resetLedger_credits n s⟩

/-- Settles O21: each row is its operation, whose conditions hold, followed by what every command brings. -/
theorem memoryControllerRows : Obligations.MemoryControllerRows := by
  unfold Obligations.MemoryControllerRows
  refine ⟨fun s tol on awake trained enabled tolerant => ?_, fun s tol t0 on asleep => ?_, fun s x boot untrained size => ?_,
    fun s l on trained => ?_, fun s on => ⟨fun r => ?_, fun r => ?_⟩, fun s a on enabled inside => ?_⟩
  · refine (finish_on on _).trans ?_
    rw [State.selfRefreshEntry_due awake trained enabled tolerant]
    rfl
  · refine (finish_on on _).trans ?_
    rw [State.selfRefreshExit_asleep asleep]
    rfl
  · have on : s.on := by rw [State.on, boot]; decide
    refine (finish_on on _).trans ?_
    rw [State.trainingDone_permitted boot untrained size]
    rfl
  · refine (finish_on on _).trans ?_
    rw [State.refreshRead_trained trained]
    rfl
  · rw [exec_patrolScrub on, (State.patrolScrub_sram on r).1]
  · rw [exec_patrolScrub on, (State.patrolScrub_sram on r).2]
  · obtain ⟨corrected, uncorrectable, passDone⟩ := State.patrolScrub_dram on enabled inside
    rw [exec_patrolScrub on, exec_patrolScrub on, exec_patrolScrub on, corrected, uncorrectable, passDone]
    exact ⟨rfl, rfl, rfl⟩

/-- Settles O32: each event where it is due, followed by what every command brings; a horizon whose cut has not come makes it
first. -/
theorem ticksAndCutsInOrder : Obligations.TicksAndCutsInOrder := by
  unfold Obligations.TicksAndCutsInOrder
  refine ⟨fun s missed on started within => ?_, fun s on started unfenced before => ?_, fun s on started before => ⟨?_, ?_⟩,
    fun s on started past before => ?_, fun s on => ?_⟩
  · refine (finish_on on _).trans ?_
    rw [State.sampleTick_due started within]
    rfl
  · refine (finish_on on _).trans ?_
    rw [State.cutFence_due started unfenced before]
    rfl
  · refine (finish_on on _).trans ?_
    rw [State.cutNow_due started before]
    rfl
  · exact finish_on on _
  · refine (finish_on on _).trans ?_
    rw [State.horizonNow, State.cutNow_past past, State.retryHorizon_due started before]
    rfl
  · refine (finish_on on _).trans ?_
    rw [State.frameTick_on on, State.atTick]

/-- Settles O60: a register with nothing listed reads its table's value, the rings and ports are their defaults, and the pins ask
for FAULT outside DEALT, LIT and HOLD. -/
theorem resetState : Obligations.ResetState := by
  unfold Obligations.ResetState
  refine ⟨?pins, ⟨rfl, rfl⟩, rfl, rfl, rfl, rfl, rfl, reset_reg, rfl, rfl, rfl, rfl, rfl, rfl, rfl, fun r => ?_, reset_evqEnabled,
    fun n => ?_, rfl⟩
  case pins => unfold State.pinsFollow; decide
  · rw [reset_ring]
  · rw [reset_port]
    rfl

end Sys2Proof.Machine
end

section
/-! SUPPORT. A command whose meaning is one operation, on a device that is on. -/

namespace Sys2Proof.Machine

open Sys2Proof

/-- Such a command answers what its operation leaves, followed by what every command brings. -/
theorem exec_row {s x : State} (on : s.on) {i : Instr} {row : State → State} (meaning : exec i s = finish (s.alive row))
    (effect : row s = x) : exec i s = .next (State.settle x) := by
  rw [meaning, finish_on on, effect]

end Sys2Proof.Machine
end

section
/-! SUPPORT. BOOT_DEAL_SELECT (02 R44): which slot it takes, and what the entry to UNDEALT leaves. -/

namespace Sys2Proof.Machine

open Sys2Proof

/-- A transition of the device state changes the device block, the fault collector and the event path alone. -/
theorem setDevState_keeps {β : Type} (g : State → β) (new : DevState) (c : Nat) (s : State)
    (hg : ∀ s : State, g s = g { s.outside with dev := State.reset.dev, faults := {} } := by intro _; rfl) :
    g (s.setDevState new c) = g s := by
  refine (posts_field g (posts_post _ _ _ _) fun s => ?_).trans ?_
  · rw [hg s, hg s.outside]
    rfl
  · rw [hg, hg s]
    split <;> rfl

/-- The state in which both slots have been judged: slot B's status is the last result (log 100). -/
def State.judged (s : State) (slotB : Bytes) : State := s.onDeal fun d => { d with lastResult := (s.judgeSlot slotB).code }

/-- In BOOT with the firmware started, slot A is taken where it is valid and slot B is not valid or not newer, else a valid slot B;
with neither the device enters UNDEALT. -/
theorem State.bootDealSelect_started {s : State} (boot : s.dev.state = .boot) (started : s.power.started.isSome = true)
    (slotA slotB : Bytes) :
    let a := parseDeal (slotA.take (rd slotA 8 4))
    let b := parseDeal (slotB.take (rd slotB 8 4))
    s.bootDealSelect slotA slotB =
      if s.judgeSlot slotA = .ok ∧ (s.judgeSlot slotB = .ok → b.seq ≤ a.seq) then ((s.judged slotB).dealInForce a 1).enterDealt 0x03
      else if s.judgeSlot slotB = .ok then ((s.judged slotB).dealInForce b 2).enterDealt 0x03
      else ((s.judged slotB).setDevState .undealt 0x04).applyDomains := by
  have ready : ¬(s.dev.state ≠ .boot ∨ s.power.started.isNone) := by
    rw [← Option.not_isSome, started]
    simp [boot]
  unfold State.bootDealSelect
  simp only [if_neg ready, imp_iff_not_or]
  rfl

/-- BOOT_DEAL_SELECT in BOOT. -/
theorem exec_bootDealSelect {s : State} (boot : s.dev.state = .boot) (slotA slotB : Bytes) :
    exec (.bootDealSelect slotA slotB) s = .next (State.settle (s.bootDealSelect slotA slotB)) :=
  exec_row (by rw [State.on, boot]; decide) rfl rfl

/-- Entering UNDEALT makes no entry due, leaves the Deal store as it is, and only the domains of UNDEALT ready. -/
theorem undealt_frame (c : Nat) (s : State) :
    let t := (s.setDevState .undealt c).applyDomains
    t.vitals = (.undealt, s.dev.state.code, c, s.faults.safeDue, s.faults.fatalDue) ∧ t.deal = s.deal ∧
    t.power.ready = s.power.ready &&& 0x7F#15 := by
  have vitals := vitals_setDevState .undealt c s
  have state : (s.setDevState .undealt c).dev.state = .undealt := congrArg (·.1) vitals
  have on : (s.setDevState .undealt c).domainsOn = 0x7F := by rw [State.domainsOn, state]
  have domains := undomained_applyDomains (s.setDevState .undealt c) (by rw [on]; decide)
  refine ⟨(undomained_field State.vitals domains).trans vitals,
    (undomained_field (·.deal) domains).trans (setDevState_keeps (·.deal) _ c s), ?_⟩
  rw [undomained_field (·.power.ready) domains, on]
  exact congrArg (· &&& 0x7F#15) (setDevState_keeps (·.power.ready) _ c s)

end Sys2Proof.Machine
end

section
/-! SUPPORT. Commands whose action accepts them (03 R63, R66; 02 R45, R46; 04 R89). -/

namespace Sys2Proof.Machine

open Sys2Proof

/-- Step 4 lets no command pass in OFF (03 R70). -/
theorem State.passes_on {op : Nat} {q : Submission} {s : State} (h : s.passes op q) : s.on := by
  obtain ⟨_, _, legal, _⟩ := h
  intro off
  rw [off] at legal
  simp [legalIn] at legal

/-- The partner is not told of a command that each chip of a pair carries out for itself (14 R334). -/
theorem State.told_of_each {op : Nat} {q : Submission} (h : primaryOnly op q.cmd = false) (s t : State) : s.told op q t = t := by
  simp [State.told, h]

/-- A command that is accepted and whose action leaves the rings as acceptance does. -/
theorem exec_accepted {op : Nat} {q : Submission} {s t : State} {body : Body} {i : Instr}
    (pass : s.passes op q) (acts : body q.cmd (s.refOf op q) (s.taken op q) = t) (rings : t.rings = (s.accepted op q).rings)
    (meaning : exec i s = finish (s.alive (·.dealerRun op q body))) :
    exec i s = .next (State.settle (s.told op q t)) := by
  have counted : (t.ring q.ring).acceptedCount = ((s.accepted op q).ring q.ring).acceptedCount := by
    rw [State.ring, rings, ← State.ring]
  rw [meaning, finish_on (State.passes_on pass), State.dealerRun_accepts op q body s t pass acts counted]

/-- DEAL_LOAD has no check of its own (02 R45). -/
theorem dealLoadBody_accepts {q : Submission} (neat : tidy q [(8, 8), (16, 4)]) (ref : CmdRef) (s : State) :
    dealLoadBody q.cmd ref s = (s.accept ref).onDeal fun d => { d with jobs := d.jobs ++ [⟨ref, none, par q.cmd 8 8, par q.cmd 16 4⟩] } :=
  checked_ok _ _ q _ _ _ neat rfl

/-- REDEAL_GROUP is accepted for a group while no re-deal is in progress (02 R46). -/
theorem redealGroupBody_accepts {q : Submission} (s : State) (neat : tidy q [(8, 8), (16, 4), (20, 1)]) (group : par q.cmd 20 1 ≤ 3)
    (idle : s.deal.redeal = none) (loads : ∀ j ∈ s.deal.jobs, j.group = none) (ref : CmdRef) :
    redealGroupBody q.cmd ref s = (s.accept ref).onDeal fun d => { d with
      jobs := d.jobs ++ [⟨ref, some (par q.cmd 20 1), par q.cmd 8 8, par q.cmd 16 4⟩] } := by
  have calm : (s.deal.redeal.isSome || s.deal.jobs.any (·.group.isSome)) = false := by simpa [idle] using loads
  unfold redealGroupBody
  refine checked_ok _ _ q ref _ s neat ?_
  simp only [firstFail, calm, Nat.not_lt.2 group, decide_false, Bool.false_eq_true, if_false]

/-- TIMING_SET is accepted for a rate that the Deal permits and a source, while no other is in progress (04 R89). -/
theorem timingSetBody_accepts {q : Submission} (s : State) {d : Deal} (neat : tidy q [(8, 1), (9, 1)]) (rate : par q.cmd 8 1 ≤ 4)
    (source : par q.cmd 9 1 ≤ 1) (deal : s.theDeal = some d) (permits : d.rateMask.testBit (par q.cmd 8 1) = true)
    (idle : s.timing.retime = none) (ref : CmdRef) :
    timingSetBody q.cmd ref s = (s.accept ref).onTiming fun t => { t with
      retime := some ⟨some ref, par q.cmd 8 1, par q.cmd 9 1, none, 0, 0, none⟩ } := by
  unfold timingSetBody
  refine checked_ok _ _ q ref _ s neat ?_
  simp only [firstFail, Nat.not_lt.2 rate, Nat.not_lt.2 source, deal, idle, bitAt, permits, Option.map_some, Option.getD_some,
    Option.isSome_none, Bool.not_true, decide_false, Bool.false_eq_true, if_false]

end Sys2Proof.Machine
end

section
/-! SUPPORT. Jobs that end (06 R135; 03 R75; 17 R400 to R403; 02 R43 to R46). -/

namespace Sys2Proof.Machine

open Sys2Proof

/-- The end of the oldest copy takes it off the list, and writes the bytes that arrived. -/
theorem State.copyEnd_head {s : State} {j : CopyJob} {js : List CopyJob} (h : s.dealer.copies = j :: js) (data : Bytes) (st : Status) :
    s.copyEnd j data st = ((s.onDealer fun d => { d with copies := js }).dramWrite j.dst (data.take j.len)).completeWith j.ref st := by
  have shorter : (s.onDealer fun d => { d with copies := d.copies.tail }) = s.onDealer fun d => { d with copies := js } := by
    simp only [State.onDealer, h, List.tail_cons]
  rw [State.copyEnd, shorter]

theorem State.copyDone_whole {s : State} {j : CopyJob} {js : List CopyJob} (h : s.dealer.copies = j :: js)
    (ready : s.hostReady = true) {data : Bytes} (whole : data.length = j.len) : s.copyDone data = s.copyEnd j data .ok := by
  simp [State.copyDone, h, ready, whole]

theorem State.copyTimeout_head {s : State} {j : CopyJob} {js : List CopyJob} (h : s.dealer.copies = j :: js) (data : Bytes) :
    s.copyTimeout data = s.copyEnd j data .timeout := by
  simp [State.copyTimeout, h]

/-- The oldest summary reaches a host that is ready; a SYNC without REARM then ends. -/
theorem State.summaryWritten_ready {s : State} {j : SyncJob} {js : List SyncJob} (h : s.dealer.syncs = j :: js)
    (up : s.host.linkUp = true) (ready : s.hostReady = true) (once : j.rearm = false) :
    s.summaryWritten = State.completeOk j.ref j.lampLow { s with
      dealer := { s.dealer with syncs := js }, outbox := s.outbox ++ [Emission.hostWrite j.addr j.summary] } := by
  have sent : ({ s with dealer := { s.dealer with syncs := js }, outbox := s.outbox ++ [Emission.hostWrite j.addr j.summary] } : State) =
    (s.onDealer fun d => { d with syncs := js }).emit (.hostWrite j.addr j.summary) := rfl
  rw [sent]
  simp [State.summaryWritten, h, up, ready, once]

/-- The oldest fetch of the dump reaches a host that is ready. -/
theorem State.dumpFetchDone_ready {s : State} {j : FetchJob} {js : List FetchJob} {p : PartEntry} (h : s.dealer.fetches = j :: js)
    (part : s.dumpPart = some p) (up : s.host.linkUp = true) (ready : s.hostReady = true)
    (good : s.dramGood (p.base + j.off) j.len = true) :
    s.dumpFetchDone = State.completeOk j.ref j.len { s with
      dealer := { s.dealer with fetches := js }
      outbox := s.outbox ++ [Emission.hostWrite j.dst (s.dramRead (p.base + j.off) j.len)] } := by
  have sent (b : Bytes) : ({ s with dealer := { s.dealer with fetches := js }, outbox := s.outbox ++ [Emission.hostWrite j.dst b] } : State) =
    (s.onDealer fun d => { d with fetches := js }).emit (.hostWrite j.dst b) := rfl
  have good' : (s.onDealer fun d => { d with fetches := js }).dramGood (p.base + j.off) j.len = true := good
  have read : (s.onDealer fun d => { d with fetches := js }).dramRead = s.dramRead := rfl
  rw [sent]
  simp [State.dumpFetchDone, h, part, up, ready, good', read]

/-- The end of a scan of a range that reads without an error. -/
theorem State.crcScanDone_good {s : State} {u : Fin 2} {j : ScanJob} (h : s.dealer.scans.get u = some j)
    (good : s.dramGood j.start j.len = true) :
    let v := checkValue j.alg (s.dramRead j.start j.len)
    s.crcScanDone u = (((((((s.onDealer fun d => { d with scans := d.scans.set u none }).setFld (Reg.CRC_STAT u) 0 0 0).setFld
      (Reg.CRC_STAT u) 15 8 0).setReg (Reg.CRC_RESULT u) (BitVec.ofNat 32 v)).setReg (Reg.CRC_DONE u)
      (BitVec.ofNat 32 (s.goodLength j.start j.len))).post 0xB0 (336 + u.val)
      (le 1 j.alg ++ le 1 0 ++ zeros 2 ++ le 4 v ++ le 2 j.ref.tag)).completeOk j.ref v) := by
  unfold State.crcScanDone
  simp only [h, good, if_true]
  rfl

/-- The state in which the oldest image's job is done, with its status shown (02 R49). -/
def State.imageJudged (s : State) (js : List DealJob) (st : Status) : State :=
  s.onDeal fun d => { d with jobs := js, lastResult := st.code }

/-- The end of a verification of DEAL_LOAD's image: the Deal comes into force, or the command ends with the image's status. -/
theorem State.dealVerifyDone_load {s : State} {j : DealJob} {js : List DealJob} (h : s.deal.jobs = j :: js)
    (present : s.power.absent = false) (up : s.host.linkUp = true) (ready : s.hostReady = true) (load : j.group = none) (b : Bytes) :
    s.dealVerifyDone (some b) = if s.judgeImage j b = .ok
      then (((s.imageJudged js .ok).dealInForce (parseDeal b) 3).enterDealt 0x05).completeOk j.ref (parseDeal b).seq
      else (s.imageJudged js (s.judgeImage j b)).complete j.ref (s.judgeImage j b) (imageDetail j b (s.judgeImage j b)) 0 := by
  have answer : s.hostAnswer (some b) = some (some b) := by simp [State.hostAnswer, up, ready]
  have judge : (s.onDeal fun d => { d with jobs := js }).judgeImage j b = s.judgeImage j b := rfl
  unfold State.dealVerifyDone
  simp only [h, present, answer, judge, load]
  by_cases ok : s.judgeImage j b = .ok
  · simp only [ok, ne_eq, not_true_eq_false, Bool.false_eq_true, if_false, if_true]
    rfl
  · simp only [ne_eq, ok, not_false_eq_true, Bool.false_eq_true, if_false, if_true]
    rfl

end Sys2Proof.Machine
end

section
/-! SUPPORT. Rows that name one effect of the coming cut (log 13). -/

namespace Sys2Proof.Machine

open Sys2Proof

theorem State.retimeNow_undecided {s : State} {r : Retime} (h : s.timing.retime = some r) (undecided : r.decided = none) :
    s.retimeNow = s.cutIf fun t => t.timing.retime.any fun r => r.decided.isSome :=
  if_pos (by rw [h, Option.any_some, undecided]; rfl)

theorem State.redealNow_untaken {s : State} {r : Redeal} (h : s.deal.redeal = some r) (untaken : r.taken = false) :
    s.redealNow = s.cutIf fun t => t.deal.redeal.any (·.taken) :=
  if_pos (by rw [h, Option.any_some, untaken]; rfl)

theorem State.commitTimeout_fenced {s : State} {n : TileId} {sl : Fin 8} {o : SlotOp} (h : (s.churn n).op sl = some o)
    (commit : o.layer.isSome = true) (fenced : o.fenceAddr ≠ 0) :
    s.commitTimeout n sl = s.cutIf fun t => (t.ring o.ref.ring).window.any fun w =>
      decide (w.id = o.ref.id) && w.done.any fun c => decide (c.status = .timeout) := by
  unfold State.commitTimeout
  simp only [h]
  exact if_pos ⟨commit, fenced⟩

theorem State.potPersist_fresh {s : State} {n : TileId} (h : (s.phot n).persisted = false) :
    s.potPersist n = s.cutIf fun t => (t.phot n).persisted :=
  if_neg (by rw [h]; exact Bool.false_ne_true)

theorem State.calEntryNow_checked {s : State} {n : TileId} {j : CalJob} (h : (s.phot n).calJob = some j) (table : j.table.isSome = true) :
    s.calEntryNow n = s.cutIf fun t => (t.phot n).calJob.isNone :=
  if_pos (by rw [h, Option.any_some, table])

theorem State.blindNow_sighted {s : State} (h : s.skim.blind = false) : s.blindNow = s.cutIf fun t => t.skim.blind :=
  if_neg (by rw [h]; exact Bool.false_ne_true)

theorem State.maintClose_open {s : State} {n : TileId} (h : (s.skim.maintEnd.get n).isSome = true) :
    s.maintClose n = s.cutIf fun t => (t.skim.maintEnd.get n).isNone := if_pos h

end Sys2Proof.Machine
end

section
/-! SUPPORT. The watches of a port, and its lanes in LS2 (02 R48; 09 R220, R222, R225, R229). -/

namespace Sys2Proof.Machine

open Sys2Proof

theorem State.absentTimeout_due {s : State} {n : TileId} (unlocked : (s.port n).retLock = false) (seen : (s.port n).state ≠ 0)
    (long : 64 ≤ (s.port n).unlockedFrames) : s.absentTimeout n = ((s.setTileState n 0 5).blindDropped n).strandFlash n :=
  if_pos (by simp [unlocked, seen, long])

theorem State.mismatchMissing_due {s : State} {n : TileId} (declared : s.declared n = true) (absent : (s.port n).state = 0)
    (first : (s.port n).missed = false) (long : 64 ≤ (s.port n).missingFrames) :
    s.mismatchMissing n =
      ((s.onPort n fun p => { p with missed := true }).setFlag Reg.DEV_DEAL_MISMATCH n.val).raise 5 n.val :=
  if_pos (by simp [declared, absent, first, long])

theorem State.identRecheck_due {s : State} {n : TileId} (training : (s.port n).state = 1) (long : 256 ≤ (s.port n).identFrames) :
    s.identRecheck n = (s.onPort n fun p => { p with identFrames := 0 }).identCheck n := if_pos ⟨training, long⟩

/-- Counting the frames of the identity check anew does not change what the check finds. -/
theorem State.identWrong_onPort (s : State) (n : TileId) :
    (s.onPort n fun p => { p with identFrames := 0 }).identWrong n = s.identWrong n := by
  have ident : ((s.onPort n fun p => { p with identFrames := 0 }).port n).ident = (s.port n).ident := by
    rw [State.port_onPort_self]
  unfold State.identWrong
  rw [ident]
  rfl

/-- What the reception of a return record leaves of its port. -/
theorem State.received_port (s : State) (n : TileId) (r : RecHdr) :
    (s.received n r).port n = { s.port n with lastRseq := some r.rseq.toNat, retAt := s.lamp } := by
  rw [State.received, State.port, State.addWrap_ports, ← State.port, State.port_onPort_self]

/-- An event acts where it is heard (09 R226). -/
theorem State.eventIn_hears {s : State} {n : TileId} {e : EventBody} (h : s.hears n e) (r : RecHdr) (f : State → State) :
    s.eventIn n r e f = f (s.heard n r e) := by
  obtain ⟨_, locked, served, new⟩ := h
  have events : ((s.received n r).port n).events = (s.port n).events := by rw [State.received_port]
  have record (g : State → State) : s.recordIn n r g = g (s.received n r) := if_neg (by simp [locked, served])
  rw [State.eventIn, record, events, new]
  rfl

/-! ### Requests and releases of LS2 (09 R229) -/

/-- The state once the fields of TLn_LANE_PWR hold a written value. -/
def State.lanePwrWritten (s : State) (n : TileId) (v : Nat) : State :=
  s.writeFields (Reg.TL_LANE_PWR n) [⟨0, 0, .rw, 0⟩, ⟨8, 8, .w1c, 0⟩] v

/-- A write to TLn_LANE_PWR is a request of LS2 or its release, by bit 0. -/
theorem State.writeLanePwr_eq (n : TileId) (v : Nat) (s : State) : s.writeLanePwr n v =
    if bitAt v 0 then (s.lanePwrWritten n v).ls2Enter n else (s.lanePwrWritten n v).ls2Leave n := rfl

@[simp] theorem State.lanePwrWritten_port (s : State) (n : TileId) (v : Nat) : (s.lanePwrWritten n v).port = s.port := by
  rw [State.lanePwrWritten, State.writeFields_eq]
  rfl
@[simp] theorem State.lanePwrWritten_inLit (s : State) (n : TileId) (v : Nat) : (s.lanePwrWritten n v).inLit = s.inLit := by
  rw [State.lanePwrWritten, State.writeFields_eq]
  rfl

/-- A served write with bit 0 set is a request. -/
theorem exec_ls2Request {s : State} {m : Master} {n : TileId} {value : Word} (h : s.serves m (Reg.TL_LANE_PWR n))
    (request : bitAt value.toNat 0 = true) :
    exec (.ls2Request m n value) s = .next (State.settle ((s.lanePwrWritten n value.toNat).ls2Enter n)) := by
  refine (finish_on h.1 _).trans ?_
  rw [State.write_LANE_PWR n h, State.writeLanePwr_eq, if_pos request]

/-- A served write with bit 0 clear is a release. -/
theorem exec_ls2Release {s : State} {m : Master} {n : TileId} {value : Word} (h : s.serves m (Reg.TL_LANE_PWR n))
    (release : bitAt value.toNat 0 = false) :
    exec (.ls2Release m n value) s = .next (State.settle ((s.lanePwrWritten n value.toNat).ls2Leave n)) := by
  refine (finish_on h.1 _).trans ?_
  rw [State.write_LANE_PWR n h, State.writeLanePwr_eq, release, if_neg Bool.false_ne_true]

theorem State.ls2Enter_awake {s : State} {n : TileId} (awake : (s.port n).ls2 = 0) :
    s.ls2Enter n = if ((s.port n).state = 2 ∨ (s.port n).state = 6) ∧ s.inLit n = false
      then (s.onPort n fun p => { p with ls2 := 1 }).control n 9 1 (le 1 7)
      else (s.setFlag (Reg.TL_LANE_PWR n) 8).setFld (Reg.TL_LANE_PWR n) 0 0 0 := by
  unfold State.ls2Enter
  simp [awake]

theorem State.ls2Enter_held {s : State} {n : TileId} (held : (s.port n).ls2 ≠ 0) : s.ls2Enter n = s := by
  unfold State.ls2Enter
  simp [held]

theorem State.ls2Leave_awake {s : State} {n : TileId} (awake : (s.port n).ls2 = 0) : s.ls2Leave n = s := if_pos awake

/-- A request that no LS2_ACK has answered is taken back. -/
theorem State.ls2Leave_asked {s : State} {n : TileId} (asked : (s.port n).ls2 = 1) :
    s.ls2Leave n = s.onPort n fun p => { p with ls2 := 0, pwrA := 0, pwrB := 0, pwrRet := 0 } := by
  unfold State.ls2Leave
  simp [asked]

/-- The lanes of a port in LS2 turn on. -/
theorem State.ls2Leave_asleep {s : State} {n : TileId} (asleep : 2 ≤ (s.port n).ls2) :
    let on := ((s.onPort n fun p => { p with ls2 := 0, pwrA := 0, pwrB := 0, pwrRet := 0 }).emit (.laneIdle n .a false)).emit
      (.laneIdle n .b false)
    s.ls2Leave n = ((on.laneRecord n 0 4).laneRecord n 1 4).laneRecord n 2 4 := by
  have held : (s.port n).ls2 ≠ 0 := by omega
  have answered : (s.port n).ls2 ≠ 1 := by omega
  unfold State.ls2Leave
  dsimp only
  rw [if_neg held, if_neg answered]
  rfl

/-- LS2_ACK of a port that asked for it. -/
theorem State.ls2AckIn_asked {s : State} {n : TileId} (asked : (s.port n).ls2 = 1) :
    let x := s.onPort n fun p => { p with
      parkA := p.parkA + p.credA + p.inA, credA := 0, inA := 0, pwrA := 2, lockA := false
      parkB := p.parkB + p.credB + p.inB, credB := 0, inB := 0, pwrB := 2, lockB := false, ls2 := 2, pwrRet := 2, retLock := false }
    let off := (x.emit (.laneIdle n .a true)).emit (.laneIdle n .b true)
    s.ls2AckIn n = ((off.laneRecord n 0 3).laneRecord n 1 3).laneRecord n 2 3 := by
  unfold State.ls2AckIn
  rw [if_neg (by simp [asked])]
  simp only [forEach, List.foldl, Port.setPark, Port.setCred, Port.setInFlight, Port.setPwr, Port.setLock, Port.park, Port.cred, Port.inFlight]
  rfl

/-- Hearing an event leaves the port's LS2 as it is. -/
theorem State.heard_ls2 (s : State) (n : TileId) (r : RecHdr) (e : EventBody) : ((s.heard n r e).port n).ls2 = (s.port n).ls2 := by
  rw [State.heard, State.port_onPort_self, State.received_port]

end Sys2Proof.Machine
end

section
/-! PROOFS. The statements of the Deal chapter that are settled: O6, O5, O24, O31, O34, O44. -/

namespace Sys2Proof.Machine

open Sys2Proof

/-- Settles O6: the selection of a started BOOT, followed by what every command brings. -/
theorem bootDealChosen : Obligations.BootDealChosen := by
  unfold Obligations.BootDealChosen
  intro s slotA slotB boot started
  rw [exec_bootDealSelect boot, State.bootDealSelect_started boot started]
  rfl

/-- Settles O5: neither slot is taken, and entering UNDEALT makes no entry due, so the frame of the transition is what is left at the
end of the command. -/
theorem bootWithoutDealIsUndealt : Obligations.BootWithoutDealIsUndealt := by
  unfold Obligations.BootWithoutDealIsUndealt
  intro s slotA slotB boot started quiet badA badB
  have select : s.bootDealSelect slotA slotB = ((s.judged slotB).setDevState .undealt 0x04).applyDomains := by
    rw [State.bootDealSelect_started boot started, if_neg fun h => badA h.1, if_neg badB]
  obtain ⟨vitals, deal, ready⟩ := undealt_frame 0x04 (s.judged slotB)
  obtain ⟨fatalDue, safeDue⟩ := quiet
  have wasBoot : (s.judged slotB).dev.state.code = DevState.boot.code := congrArg DevState.code boot
  rw [wasBoot] at vitals
  simp only [State.vitals, Prod.mk.injEq] at vitals
  obtain ⟨state, prev, cause, safe, fatal⟩ := vitals
  have noneDue : (((s.judged slotB).setDevState .undealt 0x04).applyDomains).quiet := ⟨fatal.trans fatalDue, safe.trans safeDue⟩
  refine ⟨_, (exec_bootDealSelect boot slotA slotB).trans (by rw [select]), ?_, ?_, ?_, ?_, ?_⟩
  · exact (settle_field (·.dev.state) noneDue).trans state
  · exact (settle_field (·.dev.cause) noneDue).trans cause
  · exact (settle_field (·.dev.prev) noneDue).trans prev
  · exact (settle_field (·.deal) noneDue).trans deal
  · exact (settle_field (·.power.ready) noneDue).trans ready

/-- Settles O24: each command's checks pass, and its action is acceptance and a change beyond the rings. -/
theorem dealAndTimingCommandsAccepted : Obligations.DealAndTimingCommandsAccepted := by
  unfold Obligations.DealAndTimingCommandsAccepted
  intro s q
  refine ⟨fun pass neat => ?_, fun pass neat group idle loads => ?_, fun d pass neat rate source deal permits idle => ?_⟩
  · rw [exec_accepted (i := .dealLoad q) pass (dealLoadBody_accepts neat _ _) rfl rfl, State.told_of_each rfl]
    rfl
  · rw [exec_accepted (i := .redealGroup q) pass (redealGroupBody_accepts (s.taken 0x04 q) neat group idle loads _) rfl rfl, State.told_of_each rfl]
    rfl
  · exact exec_accepted pass (timingSetBody_accepts (s.taken 0x09 q) neat rate source deal permits idle _) rfl rfl

/-- Settles O31: each row is its operation on the oldest job, whose conditions hold. -/
theorem jobsReachTheirEnd : Obligations.JobsReachTheirEnd := by
  unfold Obligations.JobsReachTheirEnd
  refine ⟨fun s j js data on job => ⟨fun ready whole => ?_, ?_⟩, fun s j js on job up ready once => ?_,
    fun s j js p on job part up ready good => ?_, fun s u j on job good => ?_, fun s j js b on job present up ready load => ?_⟩
  · exact exec_row on rfl ((State.copyDone_whole job ready whole).trans (State.copyEnd_head job _ _))
  · exact exec_row on rfl ((State.copyTimeout_head job data).trans (State.copyEnd_head job _ _))
  · exact exec_row on rfl (State.summaryWritten_ready job up ready once)
  · exact exec_row on rfl (State.dumpFetchDone_ready job part up ready good)
  · exact exec_row on rfl (State.crcScanDone_good job good)
  · exact exec_row on rfl (State.dealVerifyDone_load job present up ready load b)

/-- Settles O34: each row is `cutIf` of the effect that it names. -/
theorem effectsOfTheComingCut : Obligations.EffectsOfTheComingCut := by
  unfold Obligations.EffectsOfTheComingCut
  refine fun s on => ⟨fun r retime undecided => ?_, fun r redeal untaken => ?_, fun n sl o pending commit fenced => ?_,
    fun n fresh => ?_, fun n j job table => ?_, fun sighted => ?_, fun n window => ?_⟩
  · exact exec_row on rfl (State.retimeNow_undecided retime undecided)
  · exact exec_row on rfl (State.redealNow_untaken redeal untaken)
  · exact exec_row on rfl (State.commitTimeout_fenced pending commit fenced)
  · exact exec_row on rfl (State.potPersist_fresh fresh)
  · exact exec_row on rfl (State.calEntryNow_checked job table)
  · exact exec_row on rfl (State.blindNow_sighted sighted)
  · exact exec_row on rfl (State.maintClose_open window)

/-- Settles O44: each watch that is due acts, and a served write to TLn_LANE_PWR is a request of LS2 or its release. -/
theorem portWatchesAndLaneSleep : Obligations.PortWatchesAndLaneSleep := by
  unfold Obligations.PortWatchesAndLaneSleep
  refine fun s n => ⟨fun on unlocked seen long => ?_, fun on declared absent first long => ?_, fun on training long => ?_,
    fun m value serves => ⟨fun request awake => ?_, fun request held => ?_, fun release awake => ?_, fun release asked => ?_,
      fun release asleep => ?_⟩, fun r e hears asked => ?_⟩
  · exact exec_row on rfl (State.absentTimeout_due unlocked seen long)
  · exact exec_row on rfl (State.mismatchMissing_due declared absent first long)
  · refine (finish_on on _).trans ?_
    rw [State.identRecheck_due training long, State.identCheck, State.identWrong_onPort]
  · rw [exec_ls2Request serves request, State.ls2Enter_awake (by rwa [State.lanePwrWritten_port]), State.lanePwrWritten_port,
      State.lanePwrWritten_inLit]
    rfl
  · rw [exec_ls2Request serves request, State.ls2Enter_held (by rwa [State.lanePwrWritten_port])]
    rfl
  · rw [exec_ls2Release serves release, State.ls2Leave_awake (by rwa [State.lanePwrWritten_port])]
    rfl
  · rw [exec_ls2Release serves release, State.ls2Leave_asked (by rwa [State.lanePwrWritten_port])]
    rfl
  · rw [exec_ls2Release serves release, State.ls2Leave_asleep (by rwa [State.lanePwrWritten_port])]
    rfl
  · have on : s.on := hears.1
    refine (finish_on on _).trans ?_
    rw [State.eventIn_hears hears, State.ls2AckIn_asked (by rwa [State.heard_ls2])]

end Sys2Proof.Machine
end

section
/-! SUPPORT. What the end of every command leaves of the device state, of the entries due, and of the fault pins (03 R50; 14 R321,
R322; log 95). -/

namespace Sys2Proof.Machine

open Sys2Proof

theorem vitals_evqAudits (s : State) : s.evqAudits.vitals = s.vitals := by
  unfold State.evqAudits
  exact forEach_keeps State.vitals (fun (q : QueueId) s => vitals_audit 2 q.val (by decide) _ s) _ _

theorem vitals_drivePins (s : State) : s.drivePins.vitals = s.vitals := vitals_ite rfl rfl

/-- After the entries that are due, the end of a command leaves the device state and makes nothing due. -/
theorem vitals_settle (s : State) : s.settle.vitals = s.dueEntries.vitals := by
  have drained := (((posts_closeLostWindows s.dueEntries).trans (posts_routeStaged _)).trans (posts_drainAll _)).trans
    (posts_refillLowWater _)
  calc s.settle.vitals
      = _ := vitals_drivePins _
    _ = _ := vitals_posts (posts_arbitrateAll _)
    _ = _ := vitals_evqAudits _
    _ = s.dueEntries.vitals := vitals_posts drained

/-- The state once the end of a command has taken up the entries due: one to FATAL waits in PASTEURISE (log 95). -/
def State.entriesCleared (s : State) : State := s.onFaults fun f => { f with
  fatalDue := if s.dev.state = .pasteurise then s.faults.fatalDue else none, safeDue := none }

theorem State.entriesCleared_vitals (s : State) : s.entriesCleared.vitals =
    (s.dev.state, s.dev.prev, s.dev.cause, none, if s.dev.state = .pasteurise then s.faults.fatalDue else none) := rfl

/-- An entry to FATAL that is due is made from BOOT on, but not in FATAL itself. -/
theorem State.dueEntries_fatal {s : State} {c : Nat} (due : s.faults.fatalDue = some c) : s.dueEntries =
    if s.dev.state = .off ∨ s.dev.state = .pasteurise ∨ s.dev.state = .fatal then s.entriesCleared
    else s.entriesCleared.enterFatal c := by
  unfold State.dueEntries
  dsimp only
  split
  · next c' h =>
    cases h.symm.trans due
    rfl
  · next h => cases h.symm.trans due

/-- An entry to SAFE_LIGHT that is due is made where none to FATAL is. -/
theorem State.dueEntries_safe {s : State} {c : Nat} (noFatal : s.faults.fatalDue = none) (due : s.faults.safeDue = some c) :
    s.dueEntries = s.entriesCleared.enterSafeLight c := by
  unfold State.dueEntries
  dsimp only
  split
  · next h => cases h.symm.trans noFatal
  · split
    · next h =>
      cases h.symm.trans due
      rfl
    · next h => cases h.symm.trans due

theorem State.dueEntries_none {s : State} (noFatal : s.faults.fatalDue = none) (noSafe : s.faults.safeDue = none) :
    s.dueEntries = s.entriesCleared := by
  unfold State.dueEntries
  dsimp only
  split
  · next h => cases h.symm.trans noFatal
  · split
    · next h => cases h.symm.trans noSafe
    · rfl

/-- Which entries are due is read from the vitals. -/
theorem State.entriesTaken_congr {s t : State} (h : t.vitals = s.vitals) (taken : s.entriesTaken) : t.entriesTaken := by
  unfold State.vitals at h
  simp only [Prod.mk.injEq] at h
  obtain ⟨state, _, _, safe, fatal⟩ := h
  rw [State.entriesTaken, safe, fatal, state]
  exact taken

theorem State.entriesTaken_of_vitals {s : State} {state : DevState} {prev cause : Nat}
    (h : s.vitals = (state, prev, cause, none, none)) : s.entriesTaken := by
  unfold State.vitals at h
  simp only [Prod.mk.injEq] at h
  obtain ⟨_, _, _, safe, fatal⟩ := h
  exact ⟨safe, .inl fatal⟩

theorem State.entriesCleared_taken (s : State) : s.entriesCleared.entriesTaken := by
  refine ⟨rfl, ?_⟩
  by_cases h : s.dev.state = .pasteurise
  · exact .inr h
  · exact .inl (if_neg h)

/-- The vitals after an entry to FATAL that is due from BOOT on. -/
theorem State.dueEntries_fatal_vitals {s : State} {c : Nat} (due : s.faults.fatalDue = some c) (on : s.on)
    (booted : s.dev.state ≠ .pasteurise) (alive : s.dev.state ≠ .fatal) :
    s.dueEntries.vitals = (.fatal, s.dev.state.code, c, none, none) := by
  rw [State.dueEntries_fatal due, if_neg (not_or.2 ⟨on, not_or.2 ⟨booted, alive⟩⟩), vitals_enterFatal]
  show (_, _, _, none, if s.dev.state = .pasteurise then s.faults.fatalDue else none) = _
  rw [if_neg booted]
  rfl

/-- The vitals after an entry to SAFE_LIGHT that is due. -/
theorem State.dueEntries_safe_vitals {s : State} {c : Nat} (noFatal : s.faults.fatalDue = none) (due : s.faults.safeDue = some c)
    (lit : s.dev.state = .lit ∨ s.dev.state = .hold) :
    s.dueEntries.vitals = (.safeLight, s.dev.state.code, c, none, none) := by
  rw [State.dueEntries_safe noFatal due, vitals_enterSafeLight c s.entriesCleared lit]
  show (_, _, _, none, if s.dev.state = .pasteurise then s.faults.fatalDue else none) = _
  rw [noFatal, ite_self]
  rfl

/-- The entries due are taken, but for one to FATAL in PASTEURISE. -/
theorem State.dueEntries_taken (s : State) : s.dueEntries.entriesTaken := by
  have cleared := s.entriesCleared_taken
  cases fatal : s.faults.fatalDue with
  | some c =>
    by_cases stays : s.dev.state = .off ∨ s.dev.state = .pasteurise ∨ s.dev.state = .fatal
    · rw [State.dueEntries_fatal fatal, if_pos stays]
      exact cleared
    · simp only [not_or] at stays
      obtain ⟨on, booted, alive⟩ := stays
      exact State.entriesTaken_of_vitals (State.dueEntries_fatal_vitals fatal on booted alive)
  | none =>
    cases safe : s.faults.safeDue with
    | none =>
      rw [State.dueEntries_none fatal safe]
      exact cleared
    | some c =>
      by_cases lit : s.dev.state = .lit ∨ s.dev.state = .hold
      · have after := State.dueEntries_safe_vitals fatal safe lit
        unfold State.vitals at after
        simp only [Prod.mk.injEq] at after
        exact ⟨after.2.2.2.1, .inl after.2.2.2.2⟩
      · have stays : s.entriesCleared.enterSafeLight c = s.entriesCleared := if_pos (not_or.1 lit)
        rw [State.dueEntries_safe fatal safe, stays]
        exact cleared

/-- Every command ends with the entries due taken (03 R50). -/
theorem settle_entriesTaken (s : State) : s.settle.entriesTaken := State.entriesTaken_congr (vitals_settle s) s.dueEntries_taken

/-- Every command ends as `finish` has it. -/
theorem exec_finishes (i : Instr) (s : State) : ∃ x : State, exec i s = .next x.settle := by
  cases i <;> exact ⟨_, rfl⟩

/-- Idling changes neither the pins nor the entries due. -/
theorem State.idle_inOrder {s : State} (pins : s.pinsFollow) (taken : s.entriesTaken) : s.idle.pinsFollow ∧ s.idle.entriesTaken := by
  unfold State.idle
  split <;> exact ⟨pins, taken⟩

theorem step_nil {s : State} (h : s.pending = []) : step s = .next s.idle := by
  rw [step, h]

theorem step_cons {s : State} {c : Instr} {rest : List Instr} (h : s.pending = c :: rest) :
    step s = exec c { s with pending := rest } := by
  rw [step, h]

/-- A step with a command in the queue ends with what every command brings. -/
theorem step_settles {s : State} (h : s.pending ≠ []) : ∃ x : State, step s = .next x.settle := by
  obtain ⟨c, rest, pending⟩ := List.exists_cons_of_ne_nil h
  rw [step_cons pending]
  exact exec_finishes c _

end Sys2Proof.Machine
end

section
/-! SUPPORT. Loss of power and its return, and the end of PASTEURISE (03 R50; 17 R386 to R390; 19 R420). -/

namespace Sys2Proof.Machine

open Sys2Proof

/-! ### What outlives a loss of power -/

/-- What the loss of power reads of the state before it: the power block, the tiles and the pins. -/
def State.lasting (s : State) : Power × Vector Tile 16 × Pins := (s.power, s.tiles, s.pins)

theorem posts_idleLanes (s : State) : Posts s s.idleLanes :=
  Posts.each (fun _ s => Posts.each (fun _ s => Posts.ite (posts_emit _ s) (Posts.refl s)) _ s) _ s

theorem lasting_syncLow (s : State) : s.syncLow.lasting = s.lasting := by
  unfold State.syncLow
  split <;> rfl

/-- What is left when power goes: what outlives it, at the same lamp time, in OFF, with the pins as they are then. -/
def State.unpowered (s : State) (lamp : Nat) (pins : Pins) : State :=
  { s.powerless with lamp := lamp, dev := { state := .off }, pins := pins }

/-- From every other state the device enters OFF, once it has told its partner, idled its lanes and signalled FAULT. -/
theorem State.enterOff_on {s : State} (on : s.on) (supply : Bool) : ∃ (x : State) (lamp : Nat),
    x.power = s.power ∧ x.tiles = s.tiles ∧ s.enterOff supply = x.unpowered lamp s.pins := by
  let told := if supply && decide (s.role ≠ 0 ∧ s.partner.laneLock ≠ 0) then s.emit (.partner .fatal) else s
  let idle := told.idleLanes.syncLow
  let x := if s.faults.pinFault || !s.pins.driven then idle else idle.emit (.faultPins false)
  have told_lasting : told.lasting = s.lasting := posts_field State.lasting (Posts.ite (posts_emit _ s) (Posts.refl s)) fun _ => rfl
  have x_lasting : x.lasting = idle.lasting := posts_field State.lasting (Posts.ite (Posts.refl idle) (posts_emit _ idle)) fun _ => rfl
  have lasts : x.lasting = s.lasting := calc
    x.lasting = idle.lasting := x_lasting
    _ = told.idleLanes.lasting := lasting_syncLow _
    _ = told.lasting := posts_field State.lasting (posts_idleLanes told) fun _ => rfl
    _ = s.lasting := told_lasting
  unfold State.lasting at lasts
  simp only [Prod.mk.injEq] at lasts
  obtain ⟨power, tiles, pins⟩ := lasts
  refine ⟨x, x.lamp, power, tiles, Eq.trans ?_ (congrArg (x.unpowered x.lamp) pins)⟩
  unfold State.enterOff
  rw [if_neg on]
  rfl

/-- A fall of RST_N or PWR_OK ends in OFF with its pin low. -/
theorem State.powerOff_on {s : State} (on : s.on) (pin : OffPin) : ∃ (x : State) (lamp : Nat),
    x.power = s.power ∧ x.tiles = s.tiles ∧ s.powerOff pin = x.unpowered lamp (match pin with
      | .rstN => { s.pins with rstN := false }
      | .pwrOk => { s.pins with pwrOk := false }) := by
  obtain ⟨x, lamp, power, tiles, off⟩ := State.enterOff_on on (decide (pin = .pwrOk))
  refine ⟨x, lamp, power, tiles, ?_⟩
  unfold State.powerOff
  rw [off]
  cases pin <;> rfl

/-- Without VDD_AON the fault drivers are off; the power block and the tiles are as they were. -/
theorem State.undrivePins_on {s : State} (on : s.on) : s.undrivePins.on ∧
    s.undrivePins.lasting = (s.power, s.tiles, { s.pins with driven := false }) := by
  unfold State.undrivePins
  split
  · exact ⟨on, rfl⟩
  · next undriven =>
    have off : s.pins.driven = false := Bool.eq_false_iff.2 undriven
    refine ⟨on, ?_⟩
    unfold State.lasting
    rw [← off]

/-- A brown-out of a rail ends in OFF with the test access port stopped, and for VDD_AON the fault drivers. -/
theorem State.brownOut_on {s : State} (on : s.on) (rail : CoreRail) : ∃ (x : State) (lamp : Nat),
    x.power = s.power ∧ x.tiles = s.tiles ∧ s.brownOut rail = x.unpowered lamp (match rail with
      | .core => { s.pins with tap := { on := false } }
      | .aon => { s.pins with driven := false, tap := { on := false } }) := by
  cases rail with
  | core =>
    obtain ⟨x, lamp, power, tiles, off⟩ := State.enterOff_on on true
    exact ⟨x, lamp, power, tiles, congrArg State.tapOff off⟩
  | aon =>
    obtain ⟨on', undriven⟩ := State.undrivePins_on on
    unfold State.lasting at undriven
    simp only [Prod.mk.injEq] at undriven
    obtain ⟨power', tiles', pins'⟩ := undriven
    obtain ⟨x, lamp, power, tiles, off⟩ := State.enterOff_on on' true
    rw [pins'] at off
    exact ⟨x, lamp, power.trans power', tiles.trans tiles', congrArg State.tapOff off⟩

/-- OFF keeps what R387 has a loss of power keep, to the end of the command. -/
theorem State.unpowered_settle {s x : State} (power : x.power = s.power) (tiles : x.tiles = s.tiles) (lamp : Nat) (pins : Pins) :
    s.lostPower (x.unpowered lamp pins).settle ∧ (x.unpowered lamp pins).settle.pins = pins := by
  have calm : (x.unpowered lamp pins).quiet := ⟨rfl, rfl⟩
  refine ⟨⟨?_, fun off notAudit => ?_, ?_, ?_, ?_, ?_, ?_⟩, ?_⟩
  · exact settle_field (·.dev.state) calm fun _ => rfl
  · exact settle_reg calm notAudit
  · exact settle_field (·.deal) calm fun _ => rfl
  · exact settle_field (·.rings) calm fun _ => rfl
  · exact settle_field (·.timing) calm fun _ => rfl
  · exact (settle_field (·.power.efuse) calm fun _ => rfl).trans (congrArg (·.efuse) power)
  · exact (settle_field (·.tiles) calm fun _ => rfl).trans tiles
  · exact settle_field (·.pins) calm fun _ => rfl

/-! ### Power comes back -/

/-- POWER_ON leaves OFF with every value at reset, but for what outlived the loss of power, the straps and the tiles. -/
def State.powered (s : State) (straps : BitVec 2) : State :=
  { s.powerless with
    pins := { rstN := true, pwrOk := true, straps := straps, tap := if s.pins.tap.on then s.pins.tap else {} }
    tiles := s.tiles.map (Tile.shift s.lamp) }

theorem State.powerOn_off {s : State} (off : s.dev.state = .off) (straps : BitVec 2) :
    ∃ x : State, x.power = s.power ∧ x.pins = s.pins ∧ s.powerOn straps = x.powered straps := by
  refine ⟨if s.pins.driven then s else s.emit (.faultPins false), ?_, ?_, ?_⟩
  · split <;> rfl
  · split <;> rfl
  · unfold State.powerOn
    rw [if_neg (not_not.2 off)]
    split <;> rfl

theorem State.powerOn_on {s : State} (on : s.on) (straps : BitVec 2) : s.powerOn straps = s := if_pos on

/-! ### The end of PASTEURISE -/

/-- A byte of DRAM after a wipe of ranges: 0 inside them, as before outside. -/
theorem get_wipes (a : Nat) : ∀ (l : List (Nat × Nat)) (s : State),
    Sparse.get dramFill (forEach l (fun r s => s.dramWipe r.1 r.2) s).dram a =
      if l.any (fun r => decide (r.1 ≤ a) && decide (a < r.1 + r.2)) then 0#8 else Sparse.get dramFill s.dram a
  | [], _ => rfl
  | r :: l, s => by
    have wiped : Sparse.get dramFill (s.dramWipe r.1 r.2).dram a =
        if !(decide (r.1 ≤ a) && decide (a < r.1 + r.2)) then Sparse.get dramFill s.dram a else 0#8 :=
      Sparse.get_filter dramFill (fun k => !(decide (r.1 ≤ k) && decide (k < r.1 + r.2))) a s.dram
    refine (get_wipes a l (s.dramWipe r.1 r.2)).trans ?_
    rw [List.any_cons, wiped]
    cases decide (r.1 ≤ a) && decide (a < r.1 + r.2)
    · rfl
    · exact ite_self _

/-- The wipes change DRAM alone. -/
theorem wipes_keep {β : Type} (g : State → β) (l : List (Nat × Nat)) (s : State)
    (hg : ∀ s : State, g s = g { s with dram := [], dramBad := [] }) :
    g (forEach l (fun r s => s.dramWipe r.1 r.2) s) = g s :=
  forEach_keeps g (fun r s => by rw [hg (s.dramWipe r.1 r.2), hg s]; rfl) l s

/-- The state in which PASTEURISE has wiped the chip-private ranges, after a free time within its limit (17 R388). -/
def State.pasteurised (s : State) : State :=
  let wiped := forEach s.deal.privateRanges (fun r s => s.dramWipe r.1 r.2)
    (s.useFree.advanceTo (s.power.pasteStart + s.free % (s.pasteuriseLimit + 1)))
  wiped.onPower fun p => { p with
    lastMs := min 0xFFFF (ceilDiv (wiped.lamp - p.pasteStart) 100000), churnLock := true, fabricLock := true }

theorem State.pasteuriseComplete_eq {s : State} (paste : s.dev.state = .pasteurise) :
    s.pasteuriseComplete = (s.pasteurised.setDevState .boot 0x02).applyDomains := by
  unfold State.pasteuriseComplete
  rw [if_neg (not_not.2 paste)]
  rfl

/-- The wipe ends within the limit of R388, and does not turn the clock back. -/
theorem State.pasteurised_lamp (s : State) : s.lamp ≤ s.pasteurised.lamp ∧
    s.pasteurised.lamp ≤ max s.lamp (s.power.pasteStart + s.pasteuriseLimit) := by
  have within : s.free % (s.pasteuriseLimit + 1) < s.pasteuriseLimit + 1 := Nat.mod_lt _ (Nat.succ_pos _)
  unfold State.pasteurised
  rw [State.onPower_lamp, wipes_keep (·.lamp) _ _ fun _ => rfl, State.advanceTo_lamp, State.useFree_lamp]
  omega

theorem State.pasteurised_vitals (s : State) : s.pasteurised.vitals = s.vitals := by
  unfold State.pasteurised State.vitals
  rw [State.onPower_dev, State.onPower_faults, wipes_keep (·.dev) _ _ fun _ => rfl, wipes_keep (·.faults) _ _ fun _ => rfl]
  rfl

theorem State.get_pasteurised (s : State) (a : Nat) : Sparse.get dramFill s.pasteurised.dram a =
    if s.deal.privateRanges.any (fun r => decide (r.1 ≤ a) && decide (a < r.1 + r.2)) then 0#8 else Sparse.get dramFill s.dram a := by
  unfold State.pasteurised
  rw [State.onPower_dram, get_wipes, State.advanceTo_dram, State.useFree_dram]

theorem State.pasteurised_ready (s : State) : s.pasteurised.power.ready = s.power.ready := by
  unfold State.pasteurised
  rw [State.onPower_power, wipes_keep (·.power) _ _ fun _ => rfl]
  rfl

/-- Entering BOOT makes no entry due, leaves the lamp clock and DRAM as they are, and only the domains of BOOT ready. -/
theorem boot_frame (c : Nat) (s : State) :
    let t := (s.setDevState .boot c).applyDomains
    t.vitals = (.boot, s.dev.state.code, c, s.faults.safeDue, s.faults.fatalDue) ∧ t.lamp = s.lamp ∧ t.dram = s.dram ∧
    t.power.ready = s.power.ready &&& 0x7F#15 := by
  have vitals := vitals_setDevState .boot c s
  have state : (s.setDevState .boot c).dev.state = .boot := congrArg (·.1) vitals
  have on : (s.setDevState .boot c).domainsOn = 0x7F := by rw [State.domainsOn, state]
  have domains := undomained_applyDomains (s.setDevState .boot c) (by rw [on]; decide)
  refine ⟨(undomained_field State.vitals domains fun _ => rfl).trans vitals,
    (undomained_field (·.lamp) domains fun _ => rfl).trans (setDevState_keeps (·.lamp) _ c s fun _ => rfl),
    (undomained_field (·.dram) domains fun _ => rfl).trans (setDevState_keeps (·.dram) _ c s fun _ => rfl), ?_⟩
  rw [undomained_field (·.power.ready) domains fun _ => rfl, on]
  exact congrArg (· &&& 0x7F#15) (setDevState_keeps (·.power.ready) _ c s fun _ => rfl)

end Sys2Proof.Machine
end

section
/-! SUPPORT. The host link and its power states (03 R61; 15 R357; 16 R364, R365; logs 8, 101). -/

namespace Sys2Proof.Machine

open Sys2Proof

/-- A loop whose step at `a` changes the part `a` alone changes each part of its list as the step does, once. -/
theorem forEach_pointwise {ι β : Type} [DecidableEq ι] (g : ι → State → β) (h : β → β) {f : ι → State → State}
    (self : ∀ a s, g a (f a s) = h (g a s)) (other : ∀ a b s, a ≠ b → g b (f a s) = g b s) (b : ι) :
    ∀ (l : List ι) (s : State), l.Nodup → g b (forEach l f s) = if b ∈ l then h (g b s) else g b s
  | [], _, _ => rfl
  | a :: l, s, nodup => by
    obtain ⟨fresh, rest⟩ := List.nodup_cons.1 nodup
    have later : g b (forEach (a :: l) f s) = if b ∈ l then h (g b (f a s)) else g b (f a s) :=
      forEach_pointwise g h self other b l (f a s) rest
    rw [later]
    by_cases first : a = b
    · subst first
      rw [if_neg fresh, self, if_pos List.mem_cons_self]
    · rw [other a b s first]
      simp [Ne.symm first]

/-! ### The rings of the host stop (03 R61) -/

/-- A ring stopped by the link or by D3hot. -/
def Ring.halted (x : Ring) : Ring := { x with enable := false, stopped := true }

/-- Every host ring for which `p` holds stops, and no other changes. -/
theorem State.stopHostRings_ring (p : Ring → Bool) (s : State) (r : RingId) :
    (s.stopHostRings p).ring r = if (s.ring r).isLocal = false ∧ p (s.ring r) = true then (s.ring r).halted else s.ring r := by
  unfold State.stopHostRings
  refine (forEach_pointwise (fun r s => s.ring r)
    (fun x => if x.isLocal = false ∧ p x = true then x.halted else x) (fun r s => ?_) (fun r r' s apart => ?_) r ringIds s
    (List.nodup_finRange 4)).trans (if_pos (List.mem_finRange r))
  · dsimp only
    by_cases stops : (s.ring r).isLocal = false ∧ p (s.ring r) = true
    · rw [if_pos stops, if_pos (by simp [stops]), State.stopRing, State.ring_onRing_self, Bool.or_true]
      rfl
    · rw [if_neg stops, if_neg (by simpa using stops)]
  · dsimp only
    split
    · exact State.ring_onRing_other apart _ s
    · rfl

/-- Stopping rings changes the rings alone. -/
theorem State.stopHostRings_keeps {β : Type} (g : State → β) (p : Ring → Bool) (s : State)
    (hg : ∀ s : State, g s = g { s with rings := State.reset.rings }) : g (s.stopHostRings p) = g s := by
  unfold State.stopHostRings
  refine forEach_keeps g (fun r s => ?_) _ s
  dsimp only
  split
  · rw [hg, hg s]
    rfl
  · rfl

/-! ### The queues of the host stop (16 R364) -/

/-- The event queues of the host. -/
def hostQueues : List QueueId := (List.finRange 8).filter fun q => decide (q.val < 6)

theorem mem_hostQueues (q : QueueId) : q ∈ hostQueues ↔ q.val < 6 := by
  unfold hostQueues
  simp

/-- The step of a link-down at one queue. -/
def State.queueDown (q : QueueId) (s : State) : State :=
  if s.evqEnabled q then (s.setFld (Reg.EVQ_CFG q) 8 8 0).rerouteQueue q else s

theorem State.hostQueuesDown_eq (s : State) : s.hostQueuesDown = forEach hostQueues State.queueDown s := rfl

theorem evqCfg_injective {q k : QueueId} (h : q ≠ k) : Reg.EVQ_CFG q ≠ Reg.EVQ_CFG k := by
  have : q.val ≠ k.val := fun e => h (Fin.ext e)
  unfold Reg.EVQ_CFG
  omega

/-- A queue that goes down changes the register of its configuration, and what posting a record may change. -/
theorem State.queueDown_unwritten (q : QueueId) (s : State) : (s.queueDown q).unwritten = s.unwritten := by
  unfold State.queueDown
  split
  · exact (restartQueue_frame q s).1
  · rfl
theorem State.queueDown_reg (q : QueueId) (s : State) {off : Nat} (h : off ≠ Reg.EVQ_CFG q) : (s.queueDown q).reg off = s.reg off := by
  unfold State.queueDown
  split
  · exact (restartQueue_frame q s).2 off h
  · rfl

theorem State.queueDown_disables (q : QueueId) (s : State) : (s.queueDown q).evqEnabled q = false := by
  unfold State.queueDown
  split
  · have cfg : ((s.setFld (Reg.EVQ_CFG q) 8 8 0).rerouteQueue q).reg (Reg.EVQ_CFG q) = putBits (s.reg (Reg.EVQ_CFG q)) 8 8 0 :=
      (posts_field (·.reg (Reg.EVQ_CFG q)) (posts_rerouteQueue q _) fun _ => rfl).trans (State.reg_setReg s _ _)
    rw [State.evqEnabled, State.bit, State.fld, cfg, bitsOf_putBits_self _ 8 8 0 (by decide) (by decide)]
    decide
  · next off => exact Bool.eq_false_iff.2 off

theorem State.queueDown_other {q k : QueueId} (h : q ≠ k) (s : State) : (s.queueDown q).evqEnabled k = s.evqEnabled k := by
  rw [State.evqEnabled, State.bit, State.fld, State.queueDown_reg q s (evqCfg_injective h.symm)]
  rfl

theorem State.hostQueuesDown_disables (s : State) {q : QueueId} (host : q.val < 6) : s.hostQueuesDown.evqEnabled q = false := by
  rw [State.hostQueuesDown_eq]
  refine (forEach_pointwise (fun q s => s.evqEnabled q) (fun _ => false) (fun q s => s.queueDown_disables q)
    (fun _ _ s apart => State.queueDown_other apart s) q hostQueues s ?_).trans (if_pos ((mem_hostQueues q).2 host))
  exact (List.nodup_finRange 8).filter _

theorem State.hostQueuesDown_unwritten (s : State) : s.hostQueuesDown.unwritten = s.unwritten := by
  rw [State.hostQueuesDown_eq]
  exact forEach_keeps State.unwritten State.queueDown_unwritten _ s

theorem State.hostQueuesDown_reg (s : State) {off : Nat} (h : ∀ q : QueueId, off ≠ Reg.EVQ_CFG q) :
    s.hostQueuesDown.reg off = s.reg off := by
  rw [State.hostQueuesDown_eq]
  exact forEach_keeps (·.reg off) (fun q s => State.queueDown_reg q s (h q)) _ s

/-- A reading that neither posting a record nor writing a register touches. -/
theorem unwritten_field {β : Type} (g : State → β) {s t : State} (h : t.unwritten = s.unwritten)
    (hg : ∀ s : State, g s = g s.unwritten) : g t = g s := by
  rw [hg t, hg s, h]

/-! ### The link goes down (16 R364, R424) -/

/-- The host port once the link is down: configuration space at reset, every vector masked, the loss counted. -/
def HostPort.down (h : HostPort) : HostPort := { h with
  linkDownCnt := min 0xFFFF (h.linkDownCnt + 1)
  linkUp := false, bme := false, d3hot := false, inL1 := false, speed := 0, width := 0, pmeEn := false, pmeStatus := false
  msix := h.msix.map fun e => { e with control := e.control ||| 1#32 } }

/-- The state once the link is down, before input 12 is raised. -/
def State.linkLost (s : State) : State := ((s.onHost HostPort.down).stopHostRings fun _ => true).resumeTimers.hostQueuesDown

theorem State.linkDown_up {s : State} (up : s.host.linkUp = true) : s.linkDown = s.linkLost.raise 12 0 := by
  unfold State.linkDown
  rw [if_neg (by simp [up])]
  rfl

theorem posts_resumeTimers (s : State) : Posts s s.resumeTimers := posts_onIntc _ s

/-- A loss of the link changes the host port, the rings, the register words, and what posting a record may change. -/
theorem State.linkLost_keeps {β : Type} (g : State → β) (s : State)
    (hg : ∀ s : State, g s = g { s.unwritten with rings := State.reset.rings }) :
    g s.linkLost = g (s.onHost HostPort.down) := by
  let stopped := (s.onHost HostPort.down).stopHostRings fun _ => true
  calc g s.linkLost
      = g stopped.resumeTimers := unwritten_field g (State.hostQueuesDown_unwritten _) fun s => by rw [hg s, hg s.unwritten]; rfl
    _ = g stopped := posts_field g (posts_resumeTimers _) fun s => by rw [hg s, hg s.outside]; rfl
    _ = g (s.onHost HostPort.down) := State.stopHostRings_keeps g _ _ fun s => by rw [hg s, hg { s with rings := _ }]; rfl

theorem State.linkLost_ring (s : State) (r : RingId) :
    s.linkLost.ring r = if (s.ring r).isLocal = false then (s.ring r).halted else s.ring r := by
  let stopped := (s.onHost HostPort.down).stopHostRings fun _ => true
  calc s.linkLost.ring r
      = stopped.resumeTimers.ring r := unwritten_field (·.ring r) (State.hostQueuesDown_unwritten _) fun _ => rfl
    _ = stopped.ring r := posts_field (·.ring r) (posts_resumeTimers _) fun _ => rfl
    _ = _ := by
      rw [State.stopHostRings_ring]
      simp only [and_true]
      rfl

theorem State.linkLost_disables (s : State) {q : QueueId} (host : q.val < 6) : s.linkLost.evqEnabled q = false :=
  State.hostQueuesDown_disables _ host

theorem State.linkLost_reg (s : State) {off : Nat} (h : ∀ q : QueueId, off ≠ Reg.EVQ_CFG q) : s.linkLost.reg off = s.reg off := by
  let stopped := (s.onHost HostPort.down).stopHostRings fun _ => true
  calc s.linkLost.reg off
      = stopped.resumeTimers.reg off := State.hostQueuesDown_reg _ h
    _ = stopped.reg off := posts_field (·.reg off) (posts_resumeTimers _) fun _ => rfl
    _ = s.reg off := State.stopHostRings_keeps (·.reg off) _ _ fun _ => rfl

/-! ### Bus Master Enable, D3hot and D0 (15 R357; 16 R364, R365) -/

theorem posts_flushPba (s : State) : Posts s s.flushPba := by
  unfold State.flushPba
  refine Posts.ite (Posts.refl s) (Posts.each (fun v s => ?_) _ s)
  dsimp only
  split
  · exact ⟨rfl, id⟩
  · exact Posts.refl s

theorem answers_flushRings (s : State) : Answers s s.flushRings :=
  Answers.foldl (fun s r => answers_flushHeld r _ s) _ s

/-- The host port once the function is enumerated and may master the bus (log 8). -/
def HostPort.mastering (h : HostPort) : HostPort := { h with
  linkUp := true, bme := true, speed := if h.linkUp then h.speed else 3, width := if h.linkUp then h.width else 2 }

theorem State.busMasterEnable_answers {s : State} (powered : s.hostOn = true) :
    Answers (s.onHost HostPort.mastering) s.busMasterEnable := by
  unfold State.busMasterEnable
  rw [if_neg (by simp [powered])]
  exact ((posts_flushPba _).trans (Posts.each (fun q s => posts_tryMessage q s) _ _)).answers.trans (answers_flushRings _)

theorem posts_freezeTimers (s : State) : Posts s s.freezeTimers := posts_onIntc _ s

/-- The host port asleep: PME_En taken, PME_Status cleared by 1. -/
def HostPort.sleeping (en clear : Bool) (h : HostPort) : HostPort :=
  { h with d3hot := true, pmeEn := en, pmeStatus := h.pmeStatus && !clear }

theorem State.d3hotEntry_awake {s : State} (up : s.host.linkUp = true) (awake : s.host.d3hot = false) (en clear : Bool) :
    s.d3hotEntry en clear = (s.onHost (HostPort.sleeping en clear)).freezeTimers.stopHostRings fun x => decide (x.sqHead ≠ x.sqTail) := by
  unfold State.d3hotEntry
  rw [if_neg (by simp [up]), if_neg (by simp [awake])]
  rfl

theorem State.d0Return_asleep {s : State} (up : s.host.linkUp = true) (asleep : s.host.d3hot = true) (en clear : Bool) :
    s.d0Return en clear = ((s.writePme en clear).onHost fun h => { h with d3hot := false }).drainAll.resumeTimers.wakeMessages.flushRings := by
  unfold State.d0Return
  rw [if_neg (by simp [up, asleep])]

theorem posts_wakeMessages (s : State) : Posts s s.wakeMessages := by
  unfold State.wakeMessages
  refine Posts.each (fun q s => ?_) _ s
  dsimp only
  split
  · exact (posts_sendMessage q s).trans (posts_onIntc _ _)
  · exact Posts.refl s

/-- What follows the return to D0 answers what waited, and does nothing else. -/
theorem answers_awakening (s : State) : Answers s s.drainAll.resumeTimers.wakeMessages.flushRings :=
  (((posts_drainAll s).trans (posts_resumeTimers _)).trans (posts_wakeMessages _)).answers.trans (answers_flushRings _)

end Sys2Proof.Machine
end

section
/-! SUPPORT. VIDEO_LINE (16 R370, R371; 03 R52): the bytes that a good one writes, and that one turned away writes none. -/

namespace Sys2Proof.Machine

open Sys2Proof

/-- A byte of a memory after a write: one of the bytes written, or as before. -/
theorem Memory.get_write (j : Nat) : ∀ (m : List Host.Cell) (a : Nat) (b : Bytes), Sparse.get dramFill (Memory.write m a b) j =
    if a ≤ j ∧ j < a + b.length then b.getD (j - a) 0#8 else Sparse.get dramFill m j
  | _, a, [] => (if_neg (by simp only [List.length_nil]; omega)).symm
  | m, a, v :: bs => by
    refine (Memory.get_write j (Sparse.set dramFill m a v) (a + 1) bs).trans ?_
    by_cases here : j = a
    · subst here
      rw [if_neg (by omega), if_pos (by simp), Sparse.get_set_self, Nat.sub_self, List.getD_cons_zero]
    · rw [Sparse.get_set_other dramFill a v here]
      by_cases within : a + 1 ≤ j ∧ j < a + 1 + bs.length
      · have next : j - a = j - (a + 1) + 1 := by omega
        rw [if_pos within, if_pos (by simp only [List.length_cons]; omega), next, List.getD_cons_succ]
      · rw [if_neg within, if_neg (by simp only [List.length_cons]; omega)]

/-- What R370, R371 and R52 ask of a VIDEO_LINE. -/
def State.takesVideo (s : State) (p : Bytes) : Prop := videoHeaderOk p = true ∧ s.videoDataOk p = true ∧ s.videoFenceOk p = true ∧
  (s.dev.state = .hold → s.videoOverlaps (rd p 0 8) (p.length - 32) = false)

/-- A line that is taken writes its pixels, then its fence word. -/
theorem State.videoLine_taken {s : State} {p : Bytes} (up : s.feed.state = 2) (takes : s.takesVideo p) : s.videoLine p true =
    if rd p 9 1 = 1 then (s.goodPacket.dramWrite (rd p 0 8) (p.drop 32)).dramWrite (rd p 16 8) (slice p 12 4)
    else s.goodPacket.dramWrite (rd p 0 8) (p.drop 32) := by
  obtain ⟨header, data, fence, apart⟩ := takes
  have data' : s.goodPacket.videoDataOk p = true := data
  have fence' : s.goodPacket.videoFenceOk p = true := fence
  have apart' : ¬(s.goodPacket.dev.state = .hold ∧ s.goodPacket.videoOverlaps (rd p 0 8) (p.length - 32) = true) :=
    fun ⟨hold, overlaps⟩ => Bool.false_ne_true ((apart hold).symm.trans overlaps)
  unfold State.videoLine
  rw [if_neg (by simp [State.feedUp, up])]
  simp only [header, data', fence', Bool.and_self, Bool.not_true, Bool.or_self, Bool.false_eq_true, if_false, if_neg apart']

/-- A line turned away, for its form or for want of room, is counted and reported; only registers and the firewall's record change. -/
theorem State.videoLine_turnedAway {β : Type} (g : State → β) {s : State} {p : Bytes} {room : Bool}
    (h : room = false ∨ ¬s.takesVideo p)
    (hg : ∀ s : State, g s = g { s with regs := [], memc := State.reset.memc }) : g (s.videoLine p room) = g s := by
  have counted : g s.goodPacket = g s := by rw [hg, hg s]; rfl
  have denied (k a : Nat) : g (s.goodPacket.deny k a) = g s := by rw [hg, hg s]; rfl
  have noted (x : State) (off bit off' hi lo : Nat) : g ((x.setFlag off bit).addSat off' hi lo 1) = g x := by rw [hg, hg x]; rfl
  unfold State.videoLine
  split
  · rfl
  · dsimp only
    split
    · exact (noted _ _ _ _ _ _).trans counted
    · split
      · refine (noted _ _ _ _ _ _).trans ?_
        split <;> exact denied _ _
      · split
        · exact (noted _ _ _ _ _ _).trans counted
        · next inRoom wellFormed apart =>
          have full : room = true := by simpa using inRoom
          simp only [Bool.or_eq_true, Bool.not_eq_true', not_or, Bool.not_eq_false, Bool.and_eq_true] at wellFormed
          obtain ⟨⟨header, data⟩, fence⟩ := wellFormed
          have takes : s.takesVideo p := ⟨header, data, fence, fun hold => Bool.eq_false_iff.2 fun overlaps => apart ⟨hold, overlaps⟩⟩
          rcases h with noRoom | refused
          · exact absurd (full.symm.trans noRoom) (by decide)
          · exact absurd takes refused

/-- A well-formed packet is long enough to hold its header. -/
theorem videoHeaderOk_long {p : Bytes} (header : videoHeaderOk p = true) : 32 ≤ p.length := by
  simp only [videoHeaderOk, Bool.and_eq_true, decide_eq_true_eq] at header
  obtain ⟨⟨⟨long, _⟩, _⟩, _⟩ := header
  exact long

theorem fenceWord_length {p : Bytes} (header : videoHeaderOk p = true) : (slice p 12 4).length = 4 := by
  have long := videoHeaderOk_long header
  simp only [slice, List.length_take, List.length_drop]
  omega

theorem getD_slice (p : Bytes) (off : Nat) {i n : Nat} (h : i < n) : (slice p off n).getD i 0#8 = p.getD (off + i) 0#8 := by
  rw [slice, List.getD_eq_getElem?_getD, List.getD_eq_getElem?_getD, List.getElem?_take_of_lt h, List.getElem?_drop]

/-- DRAM after a line that is taken. -/
theorem State.get_videoLine {s : State} {p : Bytes} (up : s.feed.state = 2) (takes : s.takesVideo p) (j : Nat) :
    Sparse.get dramFill (s.videoLine p true).dram j =
      if rd p 9 1 = 1 ∧ rd p 16 8 ≤ j ∧ j < rd p 16 8 + 4 then p.getD (12 + (j - rd p 16 8)) 0#8
      else if rd p 0 8 ≤ j ∧ j < rd p 0 8 + (p.drop 32).length then (p.drop 32).getD (j - rd p 0 8) 0#8
      else Sparse.get dramFill s.dram j := by
  have pixels : Sparse.get dramFill (s.goodPacket.dramWrite (rd p 0 8) (p.drop 32)).dram j = _ := Memory.get_write j s.dram _ _
  rw [State.videoLine_taken up takes]
  by_cases fenced : rd p 9 1 = 1
  · rw [if_pos fenced, State.dramWrite_dram, Memory.get_write, fenceWord_length takes.1, pixels]
    by_cases within : rd p 16 8 ≤ j ∧ j < rd p 16 8 + 4
    · rw [if_pos within, if_pos ⟨fenced, within⟩]
      exact getD_slice p 12 (by omega)
    · have unfenced : ¬(rd p 9 1 = 1 ∧ rd p 16 8 ≤ j ∧ j < rd p 16 8 + 4) := fun h => within h.2
      rw [if_neg within, if_neg unfenced]
  · have unfenced : ¬(rd p 9 1 = 1 ∧ rd p 16 8 ≤ j ∧ j < rd p 16 8 + 4) := fun h => fenced h.1
    rw [if_neg fenced, if_neg unfenced, pixels]

theorem State.videoLine_wf {s : State} {p : Bytes} (up : s.feed.state = 2) (takes : s.takesVideo p) (wf : Memory.wf s.dram = true) :
    Memory.wf (s.videoLine p true).dram = true := by
  rw [State.videoLine_taken up takes]
  split
  · exact Memory.wf_write _ _ (Memory.wf_write _ _ wf)
  · exact Memory.wf_write _ _ wf

/-- A line that is taken changes DRAM and the count of packets. -/
theorem State.videoLine_keeps {β : Type} (g : State → β) {s : State} {p : Bytes} (up : s.feed.state = 2) (takes : s.takesVideo p)
    (hg : ∀ s : State, g s = g { s with regs := [], dram := [], dramBad := [] }) : g (s.videoLine p true) = g s := by
  rw [State.videoLine_taken up takes]
  split <;> (rw [hg, hg s]; rfl)

end Sys2Proof.Machine
end

section
/-! SUPPORT. Raises (14 R316 to R320): what one leaves of the fault collector, in one equation. -/

namespace Sys2Proof.Machine

open Sys2Proof

/-! ### One raise -/

/-- The collector once a raise has set its bits and counts, before the latch and the timer take it (14 R318). -/
def Faults.marked (i c : Nat) (injected safe : Bool) (f : Faults) : Faults := { f with
  pend := if 2 ≤ c then f.pend ||| (1#128 <<< i) else f.pend
  real := if 2 ≤ c ∧ ¬injected then f.real ||| (1#128 <<< i) else f.real
  cntC := if c = 1 then satAdd 0xFFFF f.cntC 1 else f.cntC
  cntD := if c = 2 then satAdd 0xFFFF f.cntD 1 else f.cntD
  localNext := if localInput i ∧ safe then f.localNext ||| (1#4 <<< ((i - 48) / 16)) else f.localNext
  fatalDue := if c = 4 ∧ ¬injected ∧ f.fatalDue.isNone then some 0x0C else f.fatalDue }

theorem latch_faults (e : FirstErr) (s : State) : (s.latch e).1.faults = { s.faults with first := latched true e s.faults.first } := by
  unfold State.latch latched
  rw [if_neg (by decide)]
  cases s.faults.first with
  | none => rfl
  | some o =>
    dsimp only
    split <;> rfl

/-- The latch changes the collector, and what records in staging say of it. -/
theorem latch_keeps {β : Type} (g : State → β) (e : FirstErr) (s : State)
    (hg : ∀ s : State, g s = g { s with faults := {}, intc := {} }) : g (s.latch e).1 = g s := by
  unfold State.latch
  split
  · rw [hg, hg s]
    rfl
  · split <;> (rw [hg, hg s]; rfl)

/-- The state once the collector has taken a raise and its record is posted, before the timer starts. -/
def State.recorded (i c d : Nat) (injected broken : Bool) (s : State) : State :=
  let x := s.onFaults (Faults.marked i c injected (decide (s.dev.state = .safeLight)))
  let r := if (decide (c ≠ 1) || s.bit Reg.FLT_CFG 10) = true then x.latch ⟨i, c, d, broken, injected, s.lamp, false⟩ else (x, false)
  if (decide (c ≠ 1) || r.1.bit Reg.FLT_CFG 11) = true then r.1.faultRecord i c d r.2 injected broken else r.1

theorem raiseAs_eq (i c d : Nat) (injected broken : Bool) (s : State) : s.raiseAs i c d injected broken =
    if ¬injected ∧ s.faults.urgent = 0 ∧ (s.recorded i c d injected broken).faults.urgent ≠ 0
    then (s.recorded i c d injected broken).startTimer else s.recorded i c d injected broken := by
  unfold State.raiseAs State.recorded Faults.marked
  simp only [decide_eq_true_eq]
  rfl

/-- The collector once a raise is taken. -/
theorem recorded_faults (i c d : Nat) (injected broken : Bool) (s : State) : (s.recorded i c d injected broken).faults =
    { Faults.marked i c injected (decide (s.dev.state = .safeLight)) s.faults with
      first := latched (decide (c ≠ 1) || s.bit Reg.FLT_CFG 10) ⟨i, c, d, broken, injected, s.lamp, false⟩ s.faults.first } := by
  unfold State.recorded
  dsimp only
  generalize ht : (decide (c ≠ 1) || s.bit Reg.FLT_CFG 10) = takes
  refine (posts_field (·.faults) (Posts.ite (posts_post _ _ _ _) (Posts.refl _)) fun _ => rfl).trans ?_
  cases takes with
  | true => exact latch_faults _ _
  | false => rfl

/-- Taking a raise leaves the registers and the clock. -/
theorem recorded_keeps {β : Type} (g : State → β) (i c d : Nat) (injected broken : Bool) (s : State)
    (hg : ∀ s : State, g s = g { s.outside with faults := {} }) :
    g (s.recorded i c d injected broken) = g s := by
  unfold State.recorded
  dsimp only
  refine (posts_field g (Posts.ite (posts_post _ _ _ _) (Posts.refl _)) fun s => by rw [hg s, hg s.outside]; rfl).trans ?_
  split
  · refine (latch_keeps g _ _ fun s => by rw [hg s, hg { s with faults := _, intc := _ }]; rfl).trans ?_
    rw [hg, hg s]
    rfl
  · rw [hg, hg s]
    rfl

/-- The collector once a raise has also started the timer, where it is the first of class U that was not injected. -/
theorem raiseAs_faults (i c d : Nat) (injected broken : Bool) (s : State) : (s.raiseAs i c d injected broken).faults =
    { (s.recorded i c d injected broken).faults with
      timer := if ¬injected ∧ s.faults.urgent = 0 ∧ (s.recorded i c d injected broken).faults.urgent ≠ 0
        then some ⟨s.lamp, s.reactMs⟩ else s.faults.timer } := by
  rw [raiseAs_eq]
  split
  · have lamp := recorded_keeps (·.lamp) i c d injected broken s fun _ => rfl
    have ms := recorded_keeps (·.reactMs) i c d injected broken s fun _ => rfl
    rw [← lamp, ← ms]
    rfl
  · rw [recorded_faults]
    rfl

theorem raiseAs_reg (i c d : Nat) (injected broken : Bool) (s : State) (off : Nat) :
    (s.raiseAs i c d injected broken).reg off = s.reg off := by
  rw [raiseAs_eq]
  split <;> exact recorded_keeps (·.reg off) i c d injected broken s fun _ => rfl

/-! ### The class U bits that were not injected (14 R320) -/

theorem countClass_eq_zero (v : BitVec 128) (cls : Nat) :
    countClass v cls = 0 ↔ ∀ i < 128, v.getLsbD i = true → faultClass i ≠ cls := by
  unfold countClass
  split
  · next zero =>
    subst zero
    simp
  · rw [List.length_eq_zero_iff, List.filter_eq_nil_iff]
    simp only [faultInputs, List.mem_range, Bool.and_eq_true, decide_eq_true_eq, not_and]

theorem Faults.marked_urgent_of_U {i : Nat} (h : i < 128) (cls : faultClass i = 3) (safe : Bool) (f : Faults) :
    (f.marked i 3 false safe).urgent ≠ 0 := by
  intro none
  refine (countClass_eq_zero _ 3).1 none i h ?_ cls
  unfold Faults.marked
  simp [h]

/-- A raise of another class adds no class U bit. -/
theorem Faults.marked_urgent_of_not_U {i : Nat} (cls : faultClass i ≠ 3) (c : Nat) (injected safe : Bool) {f : Faults}
    (none : f.urgent = 0) : (f.marked i c injected safe).urgent = 0 := by
  refine (countClass_eq_zero _ 3).2 fun k hk set => ?_
  by_cases here : k = i
  · subst here
    exact cls
  · refine (countClass_eq_zero _ 3).1 none k hk ?_
    have apart (v : BitVec 128) : (v ||| (1#128 <<< i)).getLsbD k = v.getLsbD k := by
      have miss : (1#128 <<< i).getLsbD k = false := by
        simp [BitVec.getLsbD_shiftLeft]
        omega
      rw [BitVec.getLsbD_or, miss, Bool.or_false]
    unfold Faults.marked at set
    simp only [BitVec.getLsbD_and, apply_ite (BitVec.getLsbD · k), apart, ite_self] at set
    rw [BitVec.getLsbD_and]
    exact set

/-- What a raise leaves (14 R318 to R320). -/
theorem raised_raiseAs {i c : Nat} (h : i < 128) (cls : c = 3 ↔ faultClass i = 3) (d : Nat) (injected broken : Bool) (s : State) :
    let x := s.raiseAs i c d injected broken
    s.raised i c d injected broken x ∧ x.faults.broken = s.faults.broken ∧ x.faults.brokenAt = s.faults.brokenAt := by
  have faults := raiseAs_faults i c d injected broken s
  rw [recorded_faults] at faults
  refine ⟨⟨(follows_raiseAs i c d injected broken s).1, raiseAs_reg i c d injected broken s, ?pend, ?cntC, ?cntD, ?first, ?starts, ?keeps,
    ?fatal, ?safe⟩, ?pairs, ?pairTimes⟩
  all_goals rw [faults]
  case starts =>
    rintro rfl rfl idle
    exact if_pos ⟨Bool.false_ne_true, idle, Faults.marked_urgent_of_U h (cls.1 rfl) (decide (s.dev.state = .safeLight)) s.faults⟩
  case keeps =>
    intro other
    refine if_neg fun ⟨real, idle, first⟩ => ?_
    rcases other with notU | inj | busy
    · exact first (Faults.marked_urgent_of_not_U (fun u => notU (cls.2 u)) c injected (decide (s.dev.state = .safeLight)) idle)
    · exact real inj
    · exact busy idle
  case fatal =>
    unfold Faults.marked
    simp only [Option.isNone_iff_eq_none, Bool.not_eq_true]
  all_goals rfl

/-! ### The rows that raise (14 R316 to R318) -/

theorem State.raise_listed {i d : Nat} (listed : faultClass i ≠ 0) (wide : d < 65536) (s : State) :
    s.raise i d = s.raiseAs i (faultClass i) d false false := by
  unfold State.raise
  rw [if_neg listed, Nat.mod_eq_of_lt wide]

theorem State.raise_unlisted {i : Nat} (unlisted : faultClass i = 0) (d : Nat) (s : State) : s.raise i d = s := if_pos unlisted

/-- An input that no table lists shows nothing beside the collector. -/
theorem State.inputShows_unlisted {i : Nat} (unlisted : faultClass i = 0) (s : State) : s.inputShows i = s :=
  if_neg fun partner => by rw [partner] at unlisted; exact absurd unlisted (by decide)

/-- A write to FLT_INJECT raises the input of its low bits, where a table lists it. -/
theorem State.inject_eq {v : Nat} (word : v < 2 ^ 32) (s : State) : s.inject v =
    if faultClass (v % 128) = 0 then s else s.raiseAs (v % 128) (faultClass (v % 128)) (v / 65536) true false := by
  have input : bitsOf v 6 0 = v % 128 := rfl
  have detail : bitsOf v 31 16 = v / 65536 := by
    rw [bitsOf, Nat.shiftRight_eq_div_pow]
    omega
  unfold State.inject
  rw [input, detail]

/-- When each broken pair last read invalid, once `i` has at `lamp`. -/
def Faults.seen (i lamp : Nat) (f : Faults) : List (Nat × Nat) := (i, lamp) :: f.brokenAt.filter fun b => b.1 ≠ i

/-- A listed pair reads invalid: it is noted, and raised where it has not read invalid within 1 ms. -/
theorem State.brokenPair_listed {i : Nat} (listed : faultClass i ≠ 0) (s : State) : s.brokenPair i =
    if s.stillBroken i = true then s.onFaults fun f => { f with brokenAt := s.faults.seen i s.lamp }
    else (s.onFaults fun f => { f with brokenAt := s.faults.seen i s.lamp, broken := f.broken ||| (1#128 <<< i) }).raiseAs i
      (max 2 (faultClass i)) 0xFFFF false true := by
  unfold State.brokenPair
  rw [if_neg listed]
  rfl

theorem State.stillBroken_iff (s : State) (i : Nat) :
    s.stillBroken i = true ↔ ∃ b ∈ s.faults.brokenAt, b.1 = i ∧ s.lamp < b.2 + 100000 := by
  unfold State.stillBroken
  rw [List.any_eq_true]
  simp only [decide_eq_true_eq]
  rfl

/-! ### Clears and the timer (14 R319, R320) -/

/-- Setting bits one by one sets those of the list that are asked for. -/
theorem getLsbD_foldl_or (p : Nat → Bool) (at' : Nat → Nat) (i : Nat) (hi : i < 128) : ∀ (l : List Nat) (m : BitVec 128),
    (l.foldl (fun (m : BitVec 128) b => if p b = true then m ||| (1#128 <<< at' b) else m) m).getLsbD i =
      (m.getLsbD i || l.any fun b => p b && decide (at' b = i))
  | [], _ => by simp
  | b :: l, m => by
    rw [List.foldl_cons, getLsbD_foldl_or p at' i hi l, List.any_cons]
    cases p b with
    | false => simp
    | true =>
      have one : (1#128 <<< at' b).getLsbD i = decide (at' b = i) := by
        rw [BitVec.getLsbD_shiftLeft, BitVec.getLsbD_one, Bool.eq_iff_iff]
        simp
        omega
      rw [if_pos rfl, BitVec.getLsbD_or, one, Bool.true_and, Bool.or_assoc]

/-- The bits that a write of `v` to FLT_PENDw clears: those written as 1, but no class F bit in FATAL. -/
def State.clearable (s : State) (w v b : Nat) : Bool :=
  bitAt v b && !(decide (s.dev.state = .fatal) && decide (faultClass (32 * w + b) = 4))

/-- A write to FLT_PENDw, before the timer is looked at. -/
def State.pendCleared (w v : Nat) (s : State) : State :=
  let m := (List.range 32).foldl (fun (m : BitVec 128) b => if s.clearable w v b = true then m ||| (1#128 <<< (32 * w + b)) else m) 0
  s.onFaults fun f => { f with pend := f.pend &&& ~~~m, real := f.real &&& ~~~m }

theorem State.clearPend_eq (w v : Nat) (s : State) : s.clearPend w v = (s.pendCleared w v).timerCheck := rfl

theorem State.pendCleared_pend (w v : Nat) (s : State) (i : Fin 128) : (s.pendCleared w v).faults.pend.getLsbD i =
    (s.faults.pend.getLsbD i && !(decide (i.val / 32 = w) && s.clearable w v (i.val % 32))) := by
  have hit : ((List.range 32).any fun b => s.clearable w v b && decide (32 * w + b = i.val)) =
      (decide (i.val / 32 = w) && s.clearable w v (i.val % 32)) := by
    rw [Bool.eq_iff_iff, List.any_eq_true]
    simp only [List.mem_range, Bool.and_eq_true, decide_eq_true_eq]
    constructor
    · rintro ⟨b, small, clears, here⟩
      have low : i.val % 32 = b := by omega
      exact ⟨by omega, low ▸ clears⟩
    · rintro ⟨here, clears⟩
      exact ⟨i.val % 32, by omega, clears, by omega⟩
  show (s.faults.pend &&& ~~~_).getLsbD i.val = _
  rw [BitVec.getLsbD_and, BitVec.getLsbD_not, getLsbD_foldl_or _ _ i.val i.isLt, hit]
  simp

/-- The timer stops with the last class U bit. -/
theorem State.timerCheck_stops {s : State} (none : s.faults.urgent = 0) :
    s.timerCheck = s.onFaults fun f => { f with timer := Option.none, expired := false } := if_pos none
theorem State.timerCheck_runs {s : State} (some : s.faults.urgent ≠ 0) : s.timerCheck = s := if_neg some

/-- Looking at the timer changes the timer alone. -/
theorem State.timerCheck_keeps {β : Type} (g : State → β) (s : State)
    (hg : ∀ s : State, g (s.onFaults fun f => { f with timer := none, expired := false }) = g s) :
    g s.timerCheck = g s := by
  unfold State.timerCheck
  split
  · exact hg s
  · rfl

/-- An expiry now makes an entry to SAFE_LIGHT due. -/
def State.expiryMoves (s : State) : Bool := decide (s.dev.state = .lit ∨ s.dev.state = .hold) && decide (s.faults.fatal = 0)

/-- The state at the expiry of the timer, which has stopped. -/
def State.timerStopped (t : ReactTimer) (s : State) : State :=
  (s.advanceTo (t.start + msCounts t.ms)).onFaults fun f => { f with timer := none, expired := true }

/-- The expiry of a timer that runs: it stops, its record is posted, and an entry to SAFE_LIGHT may be due. -/
theorem State.timerExpiry_running {s : State} {t : ReactTimer} (running : s.faults.timer = some t) : ∃ b : Bytes,
    s.timerExpiry = if s.expiryMoves = true then ((s.timerStopped t).post 0x91 20 b).safeLightDue 0x09
      else (s.timerStopped t).post 0x91 20 b := by
  unfold State.timerExpiry
  rw [running]
  exact ⟨_, rfl⟩

/-- An entry to SAFE_LIGHT made due changes the collector's note of it alone. -/
theorem State.safeLightDue_keeps {β : Type} (g : State → β) (c : Nat) (s : State)
    (hg : ∀ (s : State) (d : Option Nat), g (s.onFaults fun f => { f with safeDue := d }) = g s) :
    g (s.safeLightDue c) = g s := by
  unfold State.safeLightDue
  split
  · exact hg s _
  · rfl

/-- What an expiry leaves, apart from the entries due. -/
theorem State.timerExpiry_keeps {β : Type} (g : State → β) {s : State} {t : ReactTimer} (running : s.faults.timer = some t)
    (due : ∀ (s : State) (d : Option Nat), g (s.onFaults fun f => { f with safeDue := d }) = g s)
    (posts : ∀ s : State, g s = g s.outside) : g s.timerExpiry = g (s.timerStopped t) := by
  obtain ⟨b, expiry⟩ := State.timerExpiry_running running
  have posted := posts_field g (posts_post 0x91 20 b (s.timerStopped t)) posts
  rw [expiry]
  split
  · exact (State.safeLightDue_keeps g 0x09 _ due).trans posted
  · exact posted

/-- The entry to SAFE_LIGHT that an expiry makes due. -/
theorem State.timerExpiry_safeDue {s : State} {t : ReactTimer} (running : s.faults.timer = some t) : s.timerExpiry.faults.safeDue =
    if s.expiryMoves = true ∧ s.faults.safeDue = none then some 0x09 else s.faults.safeDue := by
  obtain ⟨b, expiry⟩ := State.timerExpiry_running running
  have faults := posts_field (·.faults) (posts_post 0x91 20 b (s.timerStopped t)) fun _ => rfl
  have dev := posts_field (·.dev) (posts_post 0x91 20 b (s.timerStopped t)) fun _ => rfl
  have due : ((s.timerStopped t).post 0x91 20 b).faults.safeDue = s.faults.safeDue := by
    rw [faults]
    rfl
  rw [expiry]
  by_cases moves : s.expiryMoves = true
  · have lit : s.dev.state = .lit ∨ s.dev.state = .hold := by
      unfold State.expiryMoves at moves
      simp only [Bool.and_eq_true, decide_eq_true_eq] at moves
      exact moves.1
    have lit' : ((s.timerStopped t).post 0x91 20 b).dev.state = .lit ∨ ((s.timerStopped t).post 0x91 20 b).dev.state = .hold := by
      rw [dev]
      exact lit
    rw [if_pos moves, State.safeLightDue, if_pos lit', State.onFaults_faults]
    simp only [due, moves, true_and, Option.isNone_iff_eq_none]
  · rw [if_neg moves, if_neg fun h => moves h.1, due]

end Sys2Proof.Machine
end

section
/-! SUPPORT. Starts of the cores and an absence of the firmware (17 R395 to R398; 03 R50, R55). -/

namespace Sys2Proof.Machine

open Sys2Proof

/-- The power block once both slots are judged (17 R394). -/
def State.judgedPower (s : State) (imageA imageB : Bytes) : Power :=
  { s.power with slots := (s.power.slots.set 0 (s.judgeFwSlot 0 imageA)).set 1 (s.judgeFwSlot 1 imageB) }

/-- The slot that a core start takes, with both judged (17 R395). -/
def State.slotPicked (s : State) (judged : Power) : Option Nat :=
  if s.power.firstStart then judged.firstSlot
  else if s.power.nextSlot.any judged.valid then s.power.nextSlot else judged.laterSlot

/-- The state in which the start that was due is taken up. -/
def State.startTaken (s : State) (judged : Power) : State :=
  s.onPower fun _ => { judged with firstStart := false, startDue := false, nextSlot := none }

/-- A start that is due, with no FW_SWITCH to it, takes the slot picked; with none, BOOT ends in FATAL. -/
theorem State.firmwareSlotStart_due {s : State} (run : s.coresRun = true) (due : s.power.startDue = true)
    (noSwitch : s.power.switch = none) (imageA imageB : Bytes) :
    let judged := s.judgedPower imageA imageB
    s.firmwareSlotStart imageA imageB = (s.slotPicked judged).elim
      (if s.dev.state = .boot then (s.startTaken judged).enterFatal 0x0E else s.startTaken judged)
      (fun n => (s.startTaken judged).startSlot n) := by
  have unswitched : (s.power.switch.any fun w => w.failed.isNone && decide (s.power.nextSlot = some w.slot)) = false := by
    rw [noSwitch]
    rfl
  intro judged
  unfold State.firmwareSlotStart
  rw [if_neg (by simp [run, due])]
  simp only [State.onPower_power, unswitched, Bool.false_and, Bool.false_eq_true, if_false]
  change (match s.slotPicked judged with
    | some n => (s.startTaken judged).startSlot n
    | none => if s.dev.state = DevState.boot then (s.startTaken judged).enterFatal 0x0E else s.startTaken judged) = _
  cases s.slotPicked judged <;> rfl

/-- A slot that starts without an FW_SWITCH becomes ACTIVE. -/
theorem State.startSlot_unswitched {s : State} {judged : Power} (noSwitch : judged.switch = none) (n : Nat) :
    (s.startTaken judged).startSlot n = s.onPower fun _ => { judged with
      firstStart := false, startDue := false, nextSlot := none
      started := some n, version := (judged.slots.get (slotIx n)).version, active := n } := by
  unfold State.startSlot State.startTaken
  simp only [State.onPower, noSwitch]
  rfl

/-- Completing the commands that a restart took away takes no time. -/
theorem State.lamp_abortHeld (s : State) : s.abortHeld.lamp = s.lamp :=
  answers_field (·.lamp) (s := s.onPower fun p => { p with abortAtAlive := [] })
    (Answers.foldl (fun s r => answers_complete r _ _ _ s) _ _) fun _ => rfl

/-- A core restart takes no time. -/
theorem State.lamp_coreRestart (cause : Nat) (next : Option Nat) (s : State) : (s.coreRestart cause next).lamp = s.lamp := by
  have frame := congrArg (·.lamp) (coreRestart_frame cause next s).1
  exact frame

/-- An absence at its limit: input 26 and the entry that it makes due. -/
def State.absenceRaised (s : State) : State := (s.raise 26 0).safeLightDue 0x0B

theorem State.absenceRaised_power (s : State) : s.absenceRaised.power = s.power :=
  (State.safeLightDue_keeps (·.power) _ _ fun _ _ => rfl).trans (follows_field (·.power) (follows_raise 26 0 s) fun _ => rfl)
theorem State.absenceRaised_lamp (s : State) : s.absenceRaised.lamp = s.lamp :=
  (State.safeLightDue_keeps (·.lamp) _ _ fun _ _ => rfl).trans (follows_field (·.lamp) (follows_raise 26 0 s) fun _ => rfl)

/-- The FIRMWARE record of an absence at its limit, and the end of the commands that a restart took away. -/
def State.absenceTold (s : State) (ms : Nat) : State :=
  (s.absenceRaised.post 0xB2 339 (le 1 2 ++ zeros 3 ++ le 4 s.power.version ++ le 4 ms)).abortHeld

theorem State.absenceTold_lamp (s : State) (ms : Nat) : (s.absenceTold ms).lamp = s.lamp :=
  (State.lamp_abortHeld _).trans ((posts_field (·.lamp) (posts_post _ _ _ _) fun _ => rfl).trans s.absenceRaised_lamp)

/-- FW_ABSENCE_LIMIT of a firmware that is absent (17 R398). -/
theorem State.fwAbsenceLimit_absent {s : State} (run : s.coresRun = true) (absent : s.power.absent = true) :
    let due := s.advanceTo (s.power.absentSince + msCounts 60000)
    let told := due.absenceTold ((due.lamp - s.power.absentSince) / 100000)
    let other := 1 - told.power.started.getD told.power.active
    s.fwAbsenceLimit = (if told.power.valid other then told.coreRestart 4 (some other) else told).onPower
      fun p => { p with absentSince := due.lamp } := by
  intro due told other
  have record : due.absenceRaised.firmwareRecord 2 due.absenceRaised.absenceMs =
      due.absenceRaised.post 0xB2 339 (le 1 2 ++ zeros 3 ++ le 4 due.power.version ++ le 4 ((due.lamp - s.power.absentSince) / 100000)) := by
    rw [State.firmwareRecord, State.absenceMs, State.absenceRaised_power, State.absenceRaised_lamp]
    rfl
  have restarted (next : Option Nat) : (told.coreRestart 4 next).lamp = due.lamp :=
    (State.lamp_coreRestart 4 next told).trans (State.absenceTold_lamp _ _)
  unfold State.fwAbsenceLimit
  rw [if_neg (by simp [run, absent])]
  change (let t := (due.absenceRaised.firmwareRecord 2 due.absenceRaised.absenceMs).abortHeld
    let t := if t.power.valid (1 - t.power.started.getD t.power.active) then
      t.coreRestart 4 (some (1 - t.power.started.getD t.power.active)) else t
    t.onPower fun p => { p with absentSince := t.lamp }) = _
  rw [record]
  change (let t := if told.power.valid other then told.coreRestart 4 (some other) else told
    t.onPower fun p => { p with absentSince := t.lamp }) = _
  by_cases valid : told.power.valid other = true
  · simp only [if_pos valid, restarted]
  · simp only [if_neg valid, told, State.absenceTold_lamp]

end Sys2Proof.Machine
end

section
/-! SUPPORT. Writes to the ring registers (03 R60 to R62). -/

namespace Sys2Proof.Machine

open Sys2Proof

/-- A pointer write that is refused sets TAIL_ERR, with a record where TAIL_ERR was clear. -/
theorem State.ringError_tail (r : RingId) (s : State) :
    s.ringError r false false true false =
      if (s.ring r).tailErr then s.onRing r fun x => { x with tailErr := true }
      else (s.onRing r fun x => { x with tailErr := true }).post 0x03 6 (le 1 r.val ++ le 1 4) := by
  cases tail : (s.ring r).tailErr <;> simp [State.ringError, tail, b2n]

/-- A write that enables a stopped ring is taken up, or refused with CFG_ERR. -/
theorem State.writeRingCfg_enable {s : State} {r : RingId} {v : Nat} (stopped : (s.ring r).enable = false) (one : bitAt v 8 = true) :
    s.writeRingCfg r v = if s.enableRefused ((s.ring r).configured v) then s.ringError r false false false true
      else (s.onRing r fun _ => ((s.ring r).configured v).started).flushHeld r (s.ring r).held.length := by
  rw [State.writeRingCfg, if_neg (by simp [stopped]), if_neg (by simp [one])]

/-- A write that leaves a stopped ring stopped sets its fields. -/
theorem State.writeRingCfg_configure {s : State} {r : RingId} {v : Nat} (stopped : (s.ring r).enable = false) (zero : bitAt v 8 = false) :
    s.writeRingCfg r v = s.onRing r fun _ => (s.ring r).configured v := by
  rw [State.writeRingCfg, if_neg (by simp [stopped]), if_pos (by simp [zero])]

/-- A write that clears ENABLE of a running ring stops it. -/
theorem State.writeRingCfg_disable {s : State} {r : RingId} {v : Nat} (runs : (s.ring r).enable = true) (zero : bitAt v 8 = false) :
    s.writeRingCfg r v = s.onRing r fun x => { x with enable := false } := by
  rw [State.writeRingCfg, if_pos runs, if_neg (by simp [zero]), State.stopRing]
  simp only [Bool.or_false]

/-- When an ENABLE is refused (R62). -/
theorem State.enableRefused_iff {s : State} {x : Ring} :
    s.enableRefused x = true ↔
      2 ^ x.sizeLog2 - 1 < x.held.length ∨ (x.isLocal = true ∧ (s.theDeal.isNone ∨ s.localRingOk x = false)) := by
  rw [State.enableRefused, Bool.or_eq_true, decide_eq_true_iff, Ring.entries]
  simp

end Sys2Proof.Machine
end

section
/-! SUPPORT. The state commands, NOP, SYNC, SURFACE_COPY_IN, DUMP_FETCH and CRC_SCAN, accepted (03 R53, R54, R66, R75; 06 R135;
17 R401, R402). -/

namespace Sys2Proof.Machine

open Sys2Proof

/-- No tile of a mask has a property that none of its bits' tiles has. -/
theorem maskTiles_none {m : Nat} {p : TileId → Bool} (none : ∀ n : TileId, m.testBit n.val = true → p n = false) :
    (maskTiles m).any p = false := by
  rw [List.any_eq_false]
  intro n hn
  rw [none n (List.mem_filter.1 hn).2]
  exact Bool.false_ne_true

/-- LIGHT is accepted for tiles that are ADMITTED (03 R54). -/
theorem lightBody_accepts {q : Submission} (s : State) (neat : tidy q [(8, 2)]) (nonzero : par q.cmd 8 2 ≠ 0)
    (admitted : ∀ n : TileId, (par q.cmd 8 2).testBit n.val = true → (s.port n).state = 2) (ref : CmdRef) :
    lightBody q.cmd ref s = s.acceptState ref (par q.cmd 8 2) := by
  have none : (maskTiles (par q.cmd 8 2)).any (fun n => decide ((s.port n).state ≠ 2)) = false :=
    maskTiles_none fun n named => decide_eq_false (not_not_intro (admitted n named))
  unfold lightBody
  refine (if_neg (Bool.eq_false_iff.1 none)).trans ?_
  exact checked_ok _ _ q ref _ s neat (if_neg (by simpa using nonzero))

/-- DARKEN is accepted for tiles of the lit set (03 R54; 09 R434). -/
theorem darkenBody_accepts {q : Submission} (s : State) (neat : tidy q [(8, 2)]) (nonzero : par q.cmd 8 2 ≠ 0)
    (lit : ∀ n : TileId, (par q.cmd 8 2).testBit n.val = true → s.inLit n = true) (ref : CmdRef) :
    darkenBody q.cmd ref s = s.acceptState ref (par q.cmd 8 2) := by
  have none : (maskTiles (par q.cmd 8 2)).any (fun n => !s.inLit n) = false :=
    maskTiles_none fun n named => by rw [lit n named, Bool.not_true]
  unfold darkenBody
  refine (if_neg (Bool.eq_false_iff.1 none)).trans ?_
  exact checked_ok _ _ q ref _ s neat (if_neg (by simpa using nonzero))

/-- HOLD has no check of its own (03 R54). -/
theorem holdBody_accepts {q : Submission} (s : State) (neat : tidy q []) (ref : CmdRef) :
    holdBody q.cmd ref s = s.acceptState ref 0 :=
  checked_ok _ _ q _ _ _ neat rfl

/-- RESUME is accepted, from SAFE_LIGHT where nothing hinders it (03 R53). -/
theorem resumeBody_accepts {q : Submission} (s : State) (neat : tidy q []) (may : s.dev.state = .safeLight →
      countClass s.faults.pend 3 = 0 ∧ countClass s.faults.pend 4 = 0 ∧ s.house.therm.hottest < 1100) (ref : CmdRef) :
    resumeBody q.cmd ref s = s.acceptState ref 0 := by
  have resumes : s.mayResume = true := by
    by_cases safe : s.dev.state = .safeLight
    · obtain ⟨urgent, fatal, cool⟩ := may safe
      simp [State.mayResume, urgent, fatal, cool]
    · simp [State.mayResume, safe]
  unfold resumeBody
  rw [resumes, if_neg (by decide)]
  exact checked_ok _ _ q ref _ s neat rfl

/-- A command that each chip of a pair carries out for itself: it answers what its body leaves, and the partner is not told. -/
theorem exec_each {op : Nat} {q : Submission} {s t : State} {body : Body} {i : Instr}
    (pass : s.passes op q) (each : primaryOnly op q.cmd = false) (acts : body q.cmd (s.refOf op q) (s.taken op q) = t)
    (meaning : exec i s = finish (s.alive (·.dealerRun op q body))) : exec i s = .next (State.settle t) := by
  rw [meaning, finish_on (State.passes_on pass), State.dealerRun_passes op q body s pass, acts, each]
  simp only [Bool.and_false, Bool.false_and, Bool.false_eq_true, if_false]

/-- SYNC is accepted with its snapshot (03 R75). -/
theorem syncBody_accepts {q : Submission} (s : State) (neat : tidy q [(8, 8), (16, 1)]) (aligned : par q.cmd 8 8 % 64 = 0)
    (opts : par q.cmd 16 1 ≤ 1) (ref : CmdRef) :
    syncBody q.cmd ref s = (s.accept ref).onDealer fun d => { d with
      syncs := d.syncs ++ [⟨ref, par q.cmd 8 8, s.syncSummary, decide (par q.cmd 16 1 = 1), s.lamp % 2 ^ 32⟩] } := by
  unfold syncBody
  refine checked_ok _ _ q ref _ s neat ?_
  simp [firstFail, aligned, opts]

/-- SURFACE_COPY_IN is accepted into a partition of KIND 1 or 2 that holds its range (06 R135). -/
theorem surfaceCopyBody_accepts {q : Submission} (s : State) {p : PartEntry}
    (neat : tidy q [(8, 8), (16, 8), (24, 4), (28, 1)]) (src : par q.cmd 8 8 % 64 = 0) (dst : par q.cmd 16 8 % 64 = 0)
    (least : 64 ≤ par q.cmd 24 4) (most : par q.cmd 24 4 ≤ 67108864) (whole : par q.cmd 24 4 % 64 = 0)
    (part : s.partEntry (par q.cmd 28 1) = some p) (kind : p.kind = 1 ∨ p.kind = 2) (base : p.base ≤ par q.cmd 16 8)
    (within : par q.cmd 16 8 + par q.cmd 24 4 ≤ p.base + p.size) (room : s.dealer.copies.length < 16) (ref : CmdRef) :
    surfaceCopyBody q.cmd ref s = (s.accept ref).onDealer fun d => { d with
      copies := d.copies ++ [⟨ref, par q.cmd 8 8, par q.cmd 16 8, par q.cmd 24 4, s.lamp⟩] } := by
  have holds : p.holds (par q.cmd 16 8) (par q.cmd 24 4) = true := by simp [PartEntry.holds, base, within]
  have taken : (s.partEntry (par q.cmd 28 1)).filter (fun p => decide (p.kind = 1 ∨ p.kind = 2)) = some p := by
    rw [part, Option.filter_some, if_pos (decide_eq_true kind)]
  unfold surfaceCopyBody
  refine checked_ok _ _ q ref _ s neat ?_
  simp only [taken]
  simp [firstFail, src, dst, least, most, whole, holds, room]

/-- DUMP_FETCH is accepted for a range of the dump (17 R401). -/
theorem dumpFetchBody_accepts {q : Submission} (s : State) (neat : tidy q [(8, 8), (16, 4), (20, 4)]) (dst : par q.cmd 8 8 % 64 = 0)
    (off : par q.cmd 16 4 % 64 = 0) (len : par q.cmd 20 4 % 64 = 0) (nonzero : par q.cmd 20 4 ≠ 0) (done : s.power.dumpDone = true)
    (there : s.power.dumpNone = false) (within : par q.cmd 16 4 + par q.cmd 20 4 ≤ s.power.dumpSize) (ref : CmdRef) :
    dumpFetchBody q.cmd ref s = (s.accept ref).onDealer fun d => { d with
      fetches := d.fetches ++ [⟨ref, par q.cmd 8 8, par q.cmd 16 4, par q.cmd 20 4⟩] } := by
  have inside : par q.cmd 16 4 < s.power.dumpSize := by omega
  unfold dumpFetchBody
  refine checked_ok _ _ q ref _ s neat ?_
  simp [firstFail, dst, off, len, nonzero, State.dumping, done, there, Nat.not_le.2 inside, Nat.not_lt.2 within]

/-- A unit's number is that of its check-value unit. -/
theorem slotIx_val (u : Fin 2) : slotIx u.val = u := Fin.ext (Nat.mod_eq_of_lt u.isLt)

/-- CRC_SCAN of a free unit is accepted, and its registers show it (17 R402). -/
theorem crcScanBody_accepts {q : Submission} (s : State) (u : Fin 2) (neat : tidy q [(8, 1), (9, 1), (16, 8), (24, 4)])
    (unit : par q.cmd 8 1 = u.val) (alg : par q.cmd 9 1 ≤ 2) (nonzero : par q.cmd 24 4 ≠ 0)
    (within : par q.cmd 16 8 + par q.cmd 24 4 ≤ s.dataSpace) (idle : s.dealer.scans.get u = none) (ref : CmdRef) :
    crcScanBody q.cmd ref s = (((((s.accept ref).onDealer fun d => { d with
        scans := d.scans.set u (some ⟨ref, par q.cmd 9 1, par q.cmd 16 8, par q.cmd 24 4⟩) }).setFld (Reg.CRC_STAT u) 0 0 1).setFld
      (Reg.CRC_STAT u) 2 1 (par q.cmd 9 1)).setFld (Reg.CRC_STAT u) 31 16 ref.tag).setReg (Reg.CRC_DONE u) 0#32 := by
  have known : ¬1 < u.val := by omega
  unfold crcScanBody
  refine (checked_ok _ _ q ref _ s neat ?_).trans ?_
  · simp only [unit, slotIx_val]
    simp [firstFail, known, Nat.not_lt.2 alg, nonzero, Nat.not_lt.2 within, idle]
  · simp only [unit, slotIx_val]

end Sys2Proof.Machine
end

section
/-! SUPPORT. What completing a command can do to the memory's check bits and to the counts of acceptance (03 R59, R66; 16 R377). -/

namespace Sys2Proof.Machine

open Sys2Proof

/-- No word of DRAM loses its check bits, and no ring's count of accepted commands moves. -/
def Closes (s t : State) : Prop := t.dramBad ⊆ s.dramBad ∧ ∀ r, (t.ring r).acceptedCount = (s.ring r).acceptedCount

theorem Closes.refl (s : State) : Closes s s := ⟨fun _ h => h, fun _ => rfl⟩
theorem Closes.trans {s t u : State} (h : Closes s t) (k : Closes t u) : Closes s u :=
  ⟨fun _ w => h.1 (k.1 w), fun r => (k.2 r).trans (h.2 r)⟩
theorem Closes.ite {p : Prop} [Decidable p] {s t u : State} (h : Closes s t) (k : Closes s u) : Closes s (if p then t else u) := by
  split <;> assumption
theorem Closes.foldl {α : Type} {f : State → α → State} (h : ∀ s a, Closes s (f s a)) (l : List α) (s : State) :
    Closes s (l.foldl f s) := by
  induction l generalizing s with
  | nil => exact Closes.refl s
  | cons a l ih => exact (h s a).trans (ih (f s a))
theorem Posts.closes {s t : State} (h : Posts s t) : Closes s t := by
  have bad : t.dramBad = s.dramBad := posts_field (·.dramBad) h fun _ => rfl
  exact ⟨fun _ w => bad ▸ w, fun r => posts_field (fun s => (s.ring r).acceptedCount) h fun _ => rfl⟩

theorem closes_onRing (r : RingId) (f : Ring → Ring) (s : State) (kept : ∀ x : Ring, (f x).acceptedCount = x.acceptedCount) :
    Closes s (s.onRing r f) := by
  refine ⟨fun _ h => h, fun k => ?_⟩
  rw [State.ring_onRing]
  split
  next same => rw [kept, same]
  · rfl
theorem closes_dramWrite (a : Nat) (b : Bytes) (s : State) : Closes s (s.dramWrite a b) :=
  ⟨fun _ h => (List.mem_filter.1 h).1, fun _ => rfl⟩
theorem closes_emit (e : Emission) (s : State) : Closes s (s.emit e) := ⟨fun _ h => h, fun _ => rfl⟩

theorem closes_ringError (r : RingId) (a b c d : Bool) (s : State) : Closes s (s.ringError r a b c d) := by
  unfold State.ringError
  have marked : Closes s (s.onRing r fun x => { x with
      fetchErr := x.fetchErr || a, postErr := x.postErr || b, tailErr := x.tailErr || c, cfgErr := x.cfgErr || d }) :=
    closes_onRing r _ s fun _ => rfl
  exact Closes.ite marked (marked.trans (posts_post _ _ _ _).closes)

theorem closes_holdCompletion (r : RingId) (c : Completion) (s : State) : Closes s (s.holdCompletion r c) :=
  closes_onRing r _ s fun _ => rfl

theorem closes_writeCompletion (r : RingId) (c : Completion) (held : Bool) (s : State) : Closes s (s.writeCompletion r c held) := by
  unfold State.writeCompletion
  have written : Closes s (if (s.ring r).isLocal = true
      then s.dramWrite ((s.ring r).base + 64 * (s.ring r).entries + 16 * (s.ring r).cqTail) (c.bytes (s.ring r).phase held)
      else s.emit (.hostWrite ((s.ring r).base + 64 * (s.ring r).entries + 16 * (s.ring r).cqTail) (c.bytes (s.ring r).phase held))) :=
    Closes.ite (closes_dramWrite _ _ _) (closes_emit _ _)
  have moved := written.trans (closes_onRing r (fun x => { x with
    cqTail := ((s.ring r).cqTail + 1) % (s.ring r).entries
    phase := if ((s.ring r).cqTail + 1) % (s.ring r).entries = 0 then !x.phase else x.phase }) _ fun _ => rfl)
  exact Closes.ite moved (moved.trans (posts_post _ _ _ _).closes)

theorem closes_postCompletion (r : RingId) (c : Completion) (s : State) : Closes s (s.postCompletion r c) := by
  unfold State.postCompletion
  refine Closes.ite (closes_holdCompletion _ _ _) (Closes.ite ?_ (Closes.ite (closes_holdCompletion _ _ _) (closes_writeCompletion _ _ _ _)))
  exact (closes_ringError _ _ _ _ _ _).trans (closes_holdCompletion _ _ _)

theorem closes_complete (ref : CmdRef) (st : Status) (d r : Nat) (s : State) : Closes s (s.complete ref st d r) := by
  unfold State.complete
  dsimp only
  refine ((closes_onRing _ _ s ?_).trans (closes_postCompletion _ _ _)).trans (Closes.foldl (fun s _ => closes_postCompletion _ _ s) _ _)
  exact fun _ => rfl

/-- Memory that reads without an uncorrectable word goes on doing so. -/
theorem dramGood_mono {s t : State} (fewer : t.dramBad ⊆ s.dramBad) {a len : Nat} (good : s.dramGood a len = true) :
    t.dramGood a len = true :=
  List.all_eq_true.2 fun w h => List.all_eq_true.1 good w (fewer h)

end Sys2Proof.Machine
end

section
/-! SUPPORT. LAYER_COMMIT, LAYER_DISABLE and TRUMP_SELECT, accepted (05 R102 to R108, R120 to R122). -/

namespace Sys2Proof.Machine

open Sys2Proof

theorem closes_retire (n : TileId) (sl : Fin 8) (L : Layer) (reason : Nat) (s : State) : Closes s (s.retire n sl L reason) := by
  unfold State.retire
  split
  · exact closes_onRing _ _ s fun _ => rfl
  · have returned : Closes s (s.onRing L.ring fun x => { x with tokensReturned := (x.tokensReturned + 1) % 2 ^ 32 }) :=
      closes_onRing _ _ s fun _ => rfl
    exact returned.trans (posts_post _ _ _ _).closes

theorem closes_onChurn (n : TileId) (f : Churn → Churn) (s : State) : Closes s (s.onChurn n f) := ⟨fun _ h => h, fun _ => rfl⟩
theorem closes_refreshScalers (s : State) : Closes s s.refreshScalers := ⟨fun _ h => h, fun _ => rfl⟩

theorem closes_abortSlotOp (n : TileId) (sl : Fin 8) (reason : Nat) (s : State) : Closes s (s.abortSlotOp n sl reason) := by
  have returned (layer : Option Layer) (u : State) : Closes u (match layer with
      | some L => if sl = 0 then u else u.retire n sl L reason
      | none => u) := by
    cases layer with
    | none => exact Closes.refl u
    | some L => exact Closes.ite (Closes.refl u) (closes_retire n sl L reason u)
  unfold State.abortSlotOp
  split
  · exact Closes.refl s
  · refine Closes.trans (Closes.trans ?_ (returned _ _)) (closes_refreshScalers _)
    exact (closes_onChurn n _ s).trans (closes_complete _ _ _ _ _)

theorem closes_putSlotOp (n : TileId) (sl : Fin 8) (o : SlotOp) (s : State) : Closes s (s.putSlotOp n sl o) :=
  ((closes_abortSlotOp n sl 3 s).trans (closes_onChurn _ _ _)).trans (closes_refreshScalers _)

/-- The commit's token and its slot's pending operation. -/
def commitPut (c : Cmd) (ref : CmdRef) (s : State) : State :=
  ((s.accept ref).onRing ref.ring fun x => { x with tokensTaken := (x.tokensTaken + 1) % 2 ^ 32 }).putSlotOp (opTile c) (opSlot c)
    ⟨ref, some (commitLayer c ref s), par c 10 1, par c 32 8, par c 40 4, 0, none⟩

/-- The trump set that a commit to slot 0 stages. -/
def commitImage (c : Cmd) (ref : CmdRef) (s : State) : Bytes :=
  s.dramRead (commitLayer c ref s).surface (rd (s.dramRead (commitLayer c ref s).surface 64) 8 4)

/-- A commit to slot 0, with its set staged and its surface returned. -/
def commitReturned (c : Cmd) (ref : CmdRef) (s : State) : State :=
  ((commitPut c ref s).onChurn (opTile c) fun x => { x with
    staged := some ⟨rd (commitImage c ref s) 16 4, rd (commitImage c ref s) 21 1, commitImage c ref s⟩ }).retire
      (opTile c) 0 (commitLayer c ref s) 7

theorem commitAccept_layer {c : Cmd} (layer : opSlot c ≠ 0) (ref : CmdRef) (s : State) : commitAccept c ref s = commitPut c ref s :=
  if_neg layer

/-- Returning a surface leaves every churn as it is. -/
theorem State.churn_retire (n k : TileId) (sl : Fin 8) (L : Layer) (reason : Nat) (s : State) :
    (s.retire n sl L reason).churn k = s.churn k := by
  unfold State.retire
  split
  · rfl
  · exact (posts_field (·.churn k) (posts_post _ _ _ _) fun _ => rfl).trans rfl

theorem commitAccept_trump {c : Cmd} (trump : opSlot c = 0) (ref : CmdRef) (s : State) :
    commitAccept c ref s = (commitReturned c ref s).trumpRecord (opTile c) 1 ((commitReturned c ref s).churn (opTile c)).page
      (rd (commitImage c ref s) 16 4) := by
  unfold commitReturned
  rw [State.churn_retire]
  exact if_pos trump

theorem commitPut_fewer (c : Cmd) (ref : CmdRef) (s : State) : (commitPut c ref s).dramBad ⊆ s.dramBad :=
  (closes_putSlotOp _ _ _ _).1

theorem commitAccept_fewer (c : Cmd) (ref : CmdRef) (s : State) : (commitAccept c ref s).dramBad ⊆ s.dramBad := by
  by_cases slot : opSlot c = 0
  · rw [commitAccept_trump slot]
    have returned : Closes (commitPut c ref s) (commitReturned c ref s) := (closes_onChurn _ _ _).trans (closes_retire _ _ _ _ _)
    exact fun _ h => commitPut_fewer c ref s ((returned.trans (posts_post _ _ _ _).closes).1 h)
  · rw [commitAccept_layer slot]
    exact commitPut_fewer c ref s

/-- Steps 5 and 6 of a command with no stray byte: its first failing check completes it. -/
theorem checked_tidy {used : List (Nat × Nat)} {checks : List (Bool × Status × Nat)} {q : Submission} (neat : tidy q used)
    (ref : CmdRef) (ok : State → State) (s : State) : checked used checks q.cmd ref ok s =
      (match firstFail checks with
       | none => ok s
       | some (st, d) => s.complete ref st d 0) := by
  have clean : unusedByte used q.cmd = none := neat
  unfold checked
  rw [clean]
  cases firstFail checks <;> rfl

/-- Good memory stays good through a command's checks, whether they pass or fail. -/
theorem checked_good {used : List (Nat × Nat)} {checks : List (Bool × Status × Nat)} {c : Cmd} {ref : CmdRef} {ok : State → State}
    {s : State} (fewer : (ok s).dramBad ⊆ s.dramBad) {a len : Nat} (good : s.dramGood a len = true) :
    (checked used checks c ref ok s).dramGood a len = true := by
  refine dramGood_mono ?_ good
  unfold checked
  split
  · exact (closes_complete _ _ _ _ _).1
  · split
    · exact (closes_complete _ _ _ _ _).1
    · exact fewer

/-- A read that meets no uncorrectable word reports none. -/
theorem reportRead_good {s : State} {a len : Nat} (good : s.dramGood a len = true) (made : Bool) (c : Cmd) :
    reportRead made a len c s = s := if_neg (by simp [good])

/-- LAYER_COMMIT to a slot of a graphic, video or text layer (05 R102). -/
theorem layerCommitBody_layer {q : Submission} {s : State} {e : SlotEntry} {ref : CmdRef}
    (neat : tidy q [(8, 1), (9, 1), (10, 1), (11, 1), (12, 2), (14, 2), (16, 8), (24, 4), (28, 2), (32, 8), (40, 4), (44, 2), (46, 2)])
    (entry : s.slotEntry (par q.cmd 8 1) (par q.cmd 9 1) = some e) (role : e.role ≠ 1) (good : s.dramGood (par q.cmd 16 8) 64 = true) :
    layerCommitBody q.cmd ref s =
      (match firstFail (commitHead ref.ring q.cmd s ++ surfaceChecks q.cmd e s ++ [fenceCheck q.cmd s] ++
          (if e.role = 2 then videoChecks q.cmd e s else graphicChecks q.cmd s) ++ [reserveCheck s]) with
       | none => commitAccept q.cmd ref s
       | some (st, d) => s.complete ref st d 0) := by
  unfold layerCommitBody
  simp only [entry, if_neg role]
  rw [reportRead_good (checked_good (commitAccept_fewer _ _ _) good)]
  exact checked_tidy neat _ _ _

/-- LAYER_COMMIT of a trump set (05 R102, R120). -/
theorem layerCommitBody_trump {q : Submission} {s : State} {e : SlotEntry} {ref : CmdRef}
    (neat : tidy q [(8, 1), (9, 1), (10, 1), (11, 1), (12, 2), (14, 2), (16, 8), (24, 4), (28, 2), (32, 8), (40, 4), (44, 2), (46, 2)])
    (entry : s.slotEntry (par q.cmd 8 1) (par q.cmd 9 1) = some e) (role : e.role = 1) (good : s.dramGood (par q.cmd 16 8) 64 = true)
    (whole : s.dramGood (par q.cmd 16 8) (rd (s.dramRead (par q.cmd 16 8) 64) 8 4) = true) :
    layerCommitBody q.cmd ref s =
      (match firstFail (commitHead ref.ring q.cmd s ++ trumpChecks q.cmd s ++ [fenceCheck q.cmd s, reserveCheck s]) with
       | none => commitAccept q.cmd ref s
       | some (st, d) => s.complete ref st d 0) := by
  unfold layerCommitBody
  simp only [entry, if_pos role]
  rw [reportRead_good (checked_good (commitAccept_fewer _ _ _) good), reportRead_good (checked_good (commitAccept_fewer _ _ _) whole)]
  exact checked_tidy neat _ _ _

/-- The tile and the slot that a command names. -/
theorem opTile_named {c : Cmd} {n : TileId} (named : par c 8 1 = n.val) : opTile c = n :=
  Fin.ext ((congrArg (· % 16) named).trans (Nat.mod_eq_of_lt n.isLt))
theorem opSlot_named {c : Cmd} {sl : Fin 8} (named : par c 9 1 = sl.val) : opSlot c = sl :=
  Fin.ext ((congrArg (· % 8) named).trans (Nat.mod_eq_of_lt sl.isLt))

/-- LAYER_DISABLE of a slot 1 to 7 that the ring may use (05 R107). -/
theorem layerDisableBody_accepts {q : Submission} (s : State) {n : TileId} {sl : Fin 8} {e : SlotEntry} {ref : CmdRef}
    (neat : tidy q [(8, 1), (9, 1)]) (tile : par q.cmd 8 1 = n.val) (slot : par q.cmd 9 1 = sl.val) (layer : sl ≠ 0)
    (declared : s.declared n = true) (entry : s.slotEntry n sl = some e) (allowed : e.ringMask.testBit ref.ring.val = true) :
    layerDisableBody q.cmd ref s = (s.accept ref).putSlotOp n sl ⟨ref, none, 0, 0, 0, 0, none⟩ := by
  have named : sl.val ≠ 0 := fun h => layer (Fin.ext h)
  have inTiles : ¬15 < n.val := by omega
  have inSlots : ¬7 < sl.val := by omega
  unfold layerDisableBody
  refine (checked_ok _ _ q ref _ s neat ?_).trans ?_
  · simp [firstFail, tile, slot, inTiles, inSlots, declared, entry, ringAllowed, bitAt, allowed, named]
  · rw [opTile_named tile, opSlot_named slot]

/-- TRUMP_SELECT of a page that every tile's set holds (05 R122). -/
theorem trumpSelectBody_accepts {q : Submission} (s : State) {ref : CmdRef} (neat : tidy q [(8, 2), (10, 1)])
    (page : par q.cmd 10 1 ≤ 15) (held : ∀ k : TileId, (par q.cmd 8 2).testBit k.val = true → s.declared k = true ∧
      par q.cmd 10 1 ≤ ((s.churn k).trump.map (·.pageCount)).getD 0) :
    trumpSelectBody q.cmd ref s =
      (let cleared := forEach (s.trumpSels.filter fun x => decide (x.mask &&& par q.cmd 8 2 ≠ 0)) State.abortTrumpSel (s.accept ref)
       { cleared with trumpSels := cleared.trumpSels ++ [⟨ref, par q.cmd 8 2, par q.cmd 10 1⟩] }) := by
  have declared : (maskTiles (par q.cmd 8 2)).any (fun n => !s.declared n) = false :=
    maskTiles_none fun k named => by rw [(held k named).1, Bool.not_true]
  have pages : (maskTiles (par q.cmd 8 2)).any
      (fun n => decide ((((s.churn n).trump.map (·.pageCount)).getD 0) < par q.cmd 10 1)) = false :=
    maskTiles_none fun k named => decide_eq_false (Nat.not_lt.2 (held k named).2)
  unfold trumpSelectBody
  refine checked_ok _ _ q ref _ s neat ?_
  simp only [firstFail, declared, pages, Nat.not_lt.2 page, decide_false, Bool.false_eq_true, if_false]

theorem closes_abortTrumpSel (t : TrumpSel) (s : State) : Closes s (s.abortTrumpSel t) := by
  have dropped : Closes s { s with trumpSels := s.trumpSels.filter (fun x => x.ref.id ≠ t.ref.id) } := ⟨fun _ h => h, fun _ => rfl⟩
  exact dropped.trans (closes_complete _ _ _ _ _)

/-- A command that is accepted, whatever else it completes: the partner is told where R334 says so. -/
theorem exec_counted {op : Nat} {q : Submission} {s t : State} {body : Body} {i : Instr}
    (pass : s.passes op q) (acts : body q.cmd (s.refOf op q) (s.taken op q) = t)
    (counted : (t.ring q.ring).acceptedCount = ((s.accepted op q).ring q.ring).acceptedCount)
    (meaning : exec i s = finish (s.alive (·.dealerRun op q body))) :
    exec i s = .next (State.settle (s.told op q t)) := by
  rw [meaning, finish_on (State.passes_on pass), State.dealerRun_accepts op q body s t pass acts counted]

end Sys2Proof.Machine
end

section
/-! SUPPORT. SKIM_ZONES_SET and SKIM_MAINT_WINDOW, accepted (07 R163, R164, R169, R170). -/

namespace Sys2Proof.Machine

open Sys2Proof

/-- The set is accepted, and one staged before it completes ABORTED. -/
def State.zonesCleared (ref : CmdRef) (s : State) : State := match s.skim.staged with
  | some (old, _) => (s.accept ref).completeWith old .aborted
  | none => s.accept ref

/-- SKIM_ZONES_SET of a table that lies readable, is well encoded and names declared tiles alone (07 R164). -/
theorem skimZonesSetBody_accepts {q : Submission} (s : State) {ref : CmdRef} {n : Nat} (count : par q.cmd 16 1 = n)
    (neat : tidy q [(8, 8), (16, 1)]) (nonzero : 1 ≤ n) (most : n ≤ 32) (aligned : par q.cmd 8 8 % 16 = 0)
    (inPart : s.openPart (par q.cmd 8 8) (80 * n) = true) (good : s.dramGood (par q.cmd 8 8) (80 * n) = true)
    (encoded : ∀ i < n, zoneOk (entryOf (s.dramRead (par q.cmd 8 8) (80 * n)) 80 i) i = true)
    (declared : ∀ e ∈ entriesOf (s.dramRead (par q.cmd 8 8) (80 * n)) 80, ∀ k : TileId, (rd e 2 2).testBit k.val = true →
      s.declared k = true) :
    skimZonesSetBody q.cmd ref s =
      (let cleared := s.zonesCleared ref
       (cleared.onSkim fun k => { k with
         staged := some (ref, (entriesOf (s.dramRead (par q.cmd 8 8) (80 * n)) 80).map parseZone)
         readUntil := cleared.lamp + cleared.free }).useFree) := by
  have full : n ≠ 0 := by omega
  have coded : (List.range n).any (fun i => !zoneOk (entryOf (s.dramRead (par q.cmd 8 8) (80 * n)) 80 i) i) = false := by
    simpa using encoded
  have named : (entriesOf (s.dramRead (par q.cmd 8 8) (80 * n)) 80).any
      (fun e => (maskTiles (rd e 2 2)).any (fun t => !s.declared t)) = false := by
    rw [List.any_eq_false]
    intro e he
    rw [maskTiles_none fun k hk => by rw [declared e he k hk, Bool.not_true]]
    exact Bool.false_ne_true
  subst count
  unfold skimZonesSetBody
  refine (if_neg (by simp [good])).trans ((checked_ok _ _ q ref _ s neat ?_).trans ?_)
  · simp [firstFail, Nat.not_lt.2 most, aligned, full, inPart, good, coded, named]
  · exact if_neg full

/-- SKIM_ZONES_SET without a table stages no zone (07 R164). -/
theorem skimZonesSetBody_empty {q : Submission} (s : State) {ref : CmdRef} (neat : tidy q [(8, 8), (16, 1)])
    (empty : par q.cmd 16 1 = 0) (address : par q.cmd 8 8 = 0) :
    skimZonesSetBody q.cmd ref s =
      (s.zonesCleared ref).onSkim fun k => { k with staged := some (ref, []), readUntil := (s.zonesCleared ref).lamp } := by
  have good : s.dramGood 0 0 = true := by simp [State.dramGood]
  have read : s.dramRead 0 0 = [] := rfl
  unfold skimZonesSetBody
  simp only [empty, address]
  refine (if_neg (by simp [good])).trans ((checked_ok _ _ q ref _ s neat ?_).trans ?_)
  · simp [firstFail, good, read, entriesOf]
  · exact if_pos trivial

/-- SKIM_MAINT_WINDOW of declared tiles for at most an hour (07 R169). -/
theorem skimMaintWindowBody_accepts {q : Submission} (s : State) {ref : CmdRef} (neat : tidy q [(8, 2), (10, 2)])
    (seconds : par q.cmd 10 2 ≤ 3600) (declared : ∀ k : TileId, (par q.cmd 8 2).testBit k.val = true → s.declared k = true) :
    skimMaintWindowBody q.cmd ref s =
      (s.accept ref).onSkim fun k => { k with maint := k.maint ++ [⟨ref, par q.cmd 8 2, par q.cmd 10 2⟩] } := by
  have named : (maskTiles (par q.cmd 8 2)).any (fun t => !s.declared t) = false :=
    maskTiles_none fun k hk => by rw [declared k hk, Bool.not_true]
  unfold skimMaintWindowBody
  refine checked_ok _ _ q ref _ s neat ?_
  simp only [firstFail, named, Nat.not_lt.2 seconds, decide_false, Bool.false_eq_true, if_false]

end Sys2Proof.Machine
end

section
/-! SUPPORT. TILE_ADMIT, TILE_RETIRE, TILE_CAL_LOAD, TILE_CAL_READ and LINK_TEST, accepted (08 R183; 09 R223 to R230). -/

namespace Sys2Proof.Machine

open Sys2Proof

/-- A parcel that is begun leaves the rings. -/
theorem State.rings_newParcel (n : TileId) (type addr arg : Nat) (payload : Bytes) (frame : Nat) (line : Option Nat) (s : State) :
    (s.newParcel n type addr arg payload frame line).rings = s.rings := by
  unfold State.newParcel
  split
  · rfl
  · dsimp only
    split
    · rfl
    · rfl

theorem State.rings_control (n : TileId) (type arg : Nat) (payload : Bytes) (s : State) :
    (s.control n type arg payload).rings = s.rings := State.rings_newParcel _ _ _ _ _ _ _ _
theorem State.rings_askFlash (n : TileId) (j : ReadJob) (a b : Nat) (s : State) : (s.askFlash n j a b).rings = s.rings :=
  (State.rings_newParcel _ _ _ _ _ _ _ _).trans rfl

/-- The tile's port as an admission begins. -/
def Port.admitting (ref : CmdRef) (now : Nat) (p : Port) : Port :=
  { p with nextSeq := 0, admission := some ⟨some ref, now, false⟩, readmit := false, tracks := p.tracks.filter (!·.admits) }

/-- TILE_ADMIT of a tile that may be admitted (09 R223). -/
theorem tileAdmitBody_accepts {q : Submission} (s : State) {n : TileId} {ref : CmdRef} (neat : tidy q [(8, 1)])
    (tile : par q.cmd 8 1 = n.val) (may : s.canAdmit n = true) (lit : s.dev.state = .lit → (s.tileEntry n).hotSwap = true)
    (ident : s.identWrong n = false) (caps : s.capsWrong n = false) (admission : (s.port n).admission = none)
    (retirement : (s.port n).retirement = none) :
    tileAdmitBody q.cmd ref s =
      ((s.accept ref).onPort n (Port.admitting ref s.lamp)).control n 5 0 (s.admitPayload n) := by
  have permitted : (!s.canAdmit n || (decide (s.dev.state = .lit) && !(s.tileEntry n).hotSwap)) = false := by
    by_cases inLit : s.dev.state = .lit
    · simp [may, lit inLit]
    · simp [may, inLit]
  unfold tileAdmitBody
  rw [opTile_named tile]
  refine (if_neg (Bool.eq_false_iff.1 permitted)).trans (checked_ok _ _ q ref _ s neat ?_)
  simp [firstFail, ident, caps, admission, retirement]

/-- TILE_RETIRE of an admitted tile (09 R224). -/
theorem tileRetireBody_accepts {q : Submission} (s : State) {n : TileId} {ref : CmdRef} (neat : tidy q [(8, 1)])
    (tile : par q.cmd 8 1 = n.val) (admitted : (s.port n).admitted = true) (lit : s.inLit n = true → (s.tileEntry n).hotSwap = true)
    (admission : (s.port n).admission = none) (retirement : (s.port n).retirement = none) :
    tileRetireBody q.cmd ref s = (s.accept ref).onPort n fun p => { p with retirement := some ⟨some ref, 0, 0, false⟩ } := by
  have permitted : (!(s.port n).admitted || (s.inLit n && !(s.tileEntry n).hotSwap)) = false := by
    cases inLit : s.inLit n
    · simp [admitted]
    · simp [admitted, lit inLit]
  unfold tileRetireBody
  rw [opTile_named tile]
  refine (if_neg (Bool.eq_false_iff.1 permitted)).trans (checked_ok _ _ q ref _ s neat ?_)
  simp [firstFail, admission, retirement]

/-- TILE_CAL_LOAD for the chip (08 R183). -/
theorem tileCalLoadBody_chip {q : Submission} (s : State) {n : TileId} {part : PartEntry} {ref : CmdRef}
    (neat : tidy q [(8, 1), (9, 1), (16, 8), (24, 4)]) (tile : par q.cmd 8 1 = n.val) (present : (s.tileEntry n).present = true)
    (entry : s.partEntry (s.tileEntry n).calPart = some part) (holds : part.holds (par q.cmd 16 8) (par q.cmd 24 4) = true)
    (job : (s.phot n).calJob = none) (flash : (s.port n).flash = none) (target : par q.cmd 9 1 = 0)
    (aligned : par q.cmd 16 8 % 64 = 0) (length : par q.cmd 24 4 = calLength (s.tileEntry n)) :
    tileCalLoadBody q.cmd ref s = (s.accept ref).onPhot n fun p => { p with
      calJob := some ⟨ref, par q.cmd 16 8, par q.cmd 24 4, none, 0, false, false, false⟩ } := by
  unfold tileCalLoadBody
  rw [opTile_named tile]
  refine (if_pos target).trans (checked_ok _ _ q ref _ s neat ?_)
  rw [← length]
  simp [firstFail, target, present, entry, holds, job, flash, aligned]

/-- TILE_CAL_LOAD for the flash of a tile that has it (09 R230). -/
theorem tileCalLoadBody_flash {q : Submission} (s : State) {n : TileId} {part : PartEntry} {ref : CmdRef} {i : IdentBody}
    (neat : tidy q [(8, 1), (9, 1), (16, 8), (24, 4)]) (tile : par q.cmd 8 1 = n.val) (present : (s.tileEntry n).present = true)
    (entry : s.partEntry (s.tileEntry n).calPart = some part) (holds : part.holds (par q.cmd 16 8) (par q.cmd 24 4) = true)
    (job : (s.phot n).calJob = none) (flash : (s.port n).flash = none) (target : par q.cmd 9 1 = 1)
    (ident : (s.port n).ident = some i) (caps : i.caps.toNat.testBit 1 = true) (length : par q.cmd 24 4 ≠ 0)
    (thermal : s.flashThermal n = true) :
    tileCalLoadBody q.cmd ref s = (s.accept ref).onPort n fun p => { p with
      flash := some ⟨ref, par q.cmd 16 8, par q.cmd 24 4, 0, none⟩ } := by
  unfold tileCalLoadBody
  rw [opTile_named tile]
  refine (if_neg (by omega)).trans (checked_ok _ _ q ref _ s neat ?_)
  simp [firstFail, target, present, entry, holds, job, flash, ident, bitAt, caps, length, thermal]

/-- TILE_CAL_READ of a declared tile (09 R228). -/
theorem tileCalReadBody_accepts {q : Submission} (s : State) {n : TileId} {ref : CmdRef}
    (neat : tidy q [(8, 1), (16, 8), (24, 4)]) (tile : par q.cmd 8 1 = n.val) (declared : s.declared n = true)
    (length : par q.cmd 24 4 ≠ 0) :
    tileCalReadBody q.cmd ref s =
      (let job : ReadJob := ⟨ref, par q.cmd 16 8, par q.cmd 24 4, 0, 0, 0, [], true⟩
       if (s.port n).read = none then (s.accept ref).askFlash n job 0 (min (par q.cmd 24 4) 49152)
       else (s.accept ref).onPort n fun p => { p with readWait := p.readWait ++ [job] }) := by
  unfold tileCalReadBody
  rw [opTile_named tile]
  refine (checked_ok _ _ q ref _ s neat (by simp [firstFail, length, declared])).trans ?_
  by_cases idle : (s.port n).read = none
  · rw [if_pos idle]
    exact if_neg (by simpa using idle)
  · rw [if_neg idle]
    exact if_pos (Option.isSome_iff_ne_none.2 idle)

/-- LINK_TEST of lanes that may be tested (09 R228). -/
theorem linkTestBody_accepts {q : Submission} (s : State) {n : TileId} {ref : CmdRef} (neat : tidy q [(8, 1), (9, 1), (10, 2)])
    (tile : par q.cmd 8 1 = n.val) (nonzero : 1 ≤ par q.cmd 9 1) (lanes : par q.cmd 9 1 ≤ 7) (frames : par q.cmd 10 2 ≠ 0)
    (may : s.testMaskOk n (par q.cmd 9 1) = true) (idle : (s.port n).test = none) :
    linkTestBody q.cmd ref s = ((s.accept ref).onPort n fun p => { p with
      test := some ⟨some ref, par q.cmd 9 1, par q.cmd 10 2, false, par q.cmd 10 2, 0, par q.cmd 9 1⟩ }).control n 9 2
        (le 1 (par q.cmd 9 1) ++ le 1 0 ++ le 2 (par q.cmd 10 2)) := by
  have mask : ¬(par q.cmd 9 1 = 0 ∨ 7 < par q.cmd 9 1) := by omega
  unfold linkTestBody
  rw [opTile_named tile]
  refine (if_neg (by simp [may])).trans (checked_ok _ _ q ref _ s neat ?_)
  simp only [firstFail, mask, frames, idle, Option.isSome_none, decide_false, Bool.false_eq_true, if_false]

end Sys2Proof.Machine
end

section
/-! SUPPORT. LOOP_LOAD, LOOP_SWAP, LOOP_MODE and CAL_RUN, accepted, and how a load ends (11 R257, R265, R270, R271; 12 R284). -/

namespace Sys2Proof.Machine

open Sys2Proof

/-- The loop that a command names. -/
theorem opLoop_named {c : Cmd} {l : LoopId} (named : par c 8 1 = l.val) : opLoop c = l :=
  Fin.ext ((congrArg (· % 64) named).trans (Nat.mod_eq_of_lt l.isLt))

/-- No loop of a mask has a property that none of its bits' loops has. -/
theorem maskLoops_none {m : Nat} {p : LoopId → Bool} (none : ∀ l : LoopId, m.testBit l.val = true → p l = false) :
    (maskLoops m).any p = false := by
  rw [List.any_eq_false]
  intro l hl
  rw [none l (List.mem_filter.1 hl).2]
  exact Bool.false_ne_true

/-- A mask of eight bytes that is not 0 names a loop. -/
theorem maskLoops_ne_nil {m : Nat} (nonzero : m ≠ 0) (bits : m < 2 ^ 64) : maskLoops m ≠ [] := by
  obtain ⟨i, set⟩ := Nat.exists_testBit_of_ne_zero nonzero
  have low : i < 64 := by
    by_contra high
    rw [Nat.testBit_lt_two_pow (bits.trans_le (Nat.pow_le_pow_right (by decide) (Nat.not_lt.1 high)))] at set
    exact Bool.false_ne_true set
  have named : (⟨i, low⟩ : LoopId) ∈ maskLoops m := List.mem_filter.2 ⟨List.mem_finRange _, set⟩
  exact List.ne_nil_of_mem named

/-- A parameter of eight bytes is below 2^64. -/
theorem par_lt (c : Cmd) (off len : Nat) : par c off len < 2 ^ (8 * len) := Nat.mod_lt _ (Nat.two_pow_pos _)

/-- Checks that pass leave the ones after them to decide. -/
theorem firstFail_append {checks : List (Bool × Status × Nat)} (pass : firstFail checks = none) (rest : List (Bool × Status × Nat)) :
    firstFail (checks ++ rest) = firstFail rest := by
  induction checks with
  | nil => rfl
  | cons c checks ih =>
    obtain ⟨bad, st, d⟩ := c
    cases bad with
    | true => cases pass
    | false => exact ih pass

/-- LOOP_LOAD of an image that lies where the loop may use it: the image decides (11 R270). -/
theorem loopLoadBody_captures {q : Submission} (s : State) {l : LoopId} {e : LoopEntry} {ref : CmdRef}
    (neat : tidy q [(8, 1), (16, 8), (24, 4)]) (loop : par q.cmd 8 1 = l.val) (entry : s.loopEntry l = some e)
    (aligned : par q.cmd 16 8 % 64 = 0) (inPart : s.loopPart e (par q.cmd 16 8) (par q.cmd 24 4) = true)
    (length : par q.cmd 24 4 = bankLength e.order) (load : (s.loop l).load = none) (swap : (s.loop l).swap = none)
    (good : s.dramGood (par q.cmd 16 8) (par q.cmd 24 4) = true) :
    loopLoadBody q.cmd ref s = if bankOk (s.dramRead (par q.cmd 16 8) (par q.cmd 24 4)) e = true
      then (s.accept ref).onLoop l fun lp => { lp with load := some (ref, s.dramRead (par q.cmd 16 8) (par q.cmd 24 4)) }
      else s.complete ref .invalid 16 0 := by
  have known : ¬63 < l.val := by omega
  unfold loopLoadBody
  rw [opLoop_named loop]
  simp only [entry, good, Bool.not_true, Bool.and_false, Bool.false_eq_true, if_false, Bool.false_or]
  refine (checked_tidy neat _ _ _).trans ?_
  rw [firstFail_append (by simp [firstFail, loop, known, aligned, inPart, ← length, load, swap])]
  cases bankOk (s.dramRead (par q.cmd 16 8) (par q.cmd 24 4)) e <;> rfl

/-- LOOP_SWAP of loops whose other bank is loaded (11 R271). -/
theorem loopSwapBody_accepts {q : Submission} (s : State) {ref : CmdRef} (neat : tidy q [(8, 8)]) (nonzero : par q.cmd 8 8 ≠ 0)
    (free : ∀ k : LoopId, (par q.cmd 8 8).testBit k.val = true → (s.loopEntry k).isSome = true ∧ (s.loop k).otherBank.isSome = true ∧
      (s.loop k).load = none ∧ (s.loop k).swap = none) :
    loopSwapBody q.cmd ref s =
      forEach (maskLoops (par q.cmd 8 8)) (fun k s => s.onLoop k fun lp => { lp with swap := some ref }) (s.accept ref) := by
  have declared : (maskLoops (par q.cmd 8 8)).any (fun l => (s.loopEntry l).isNone) = false :=
    maskLoops_none fun k hk => by
      obtain ⟨entry, _⟩ := free k hk
      simpa [Option.isSome_iff_ne_none] using entry
  have loaded : (maskLoops (par q.cmd 8 8)).any (fun l => (s.loop l).otherBank.isNone) = false :=
    maskLoops_none fun k hk => by
      obtain ⟨_, bank, _⟩ := free k hk
      simpa [Option.isSome_iff_ne_none] using bank
  have idle : (maskLoops (par q.cmd 8 8)).any (fun l => (s.loop l).load.isSome || (s.loop l).swap.isSome) = false :=
    maskLoops_none fun k hk => by
      obtain ⟨_, _, load, swap⟩ := free k hk
      rw [load, swap]
      rfl
  have named : ¬(maskLoops (par q.cmd 8 8)).isEmpty = true := by
    rw [List.isEmpty_iff]
    exact maskLoops_ne_nil nonzero (par_lt q.cmd 8 8)
  unfold loopSwapBody
  refine (checked_ok _ _ q ref _ s neat ?_).trans (if_neg named)
  simp only [firstFail, declared, loaded, idle, Bool.false_eq_true, if_false]

/-- LOOP_MODE of a mode that the loop's inputs and bank permit (11 R257). -/
theorem loopModeBody_accepts {q : Submission} (s : State) {l : LoopId} {e : LoopEntry} {ref : CmdRef} (neat : tidy q [(8, 1), (9, 1)])
    (loop : par q.cmd 8 1 = l.val) (mode : par q.cmd 9 1 ≤ 3) (entry : s.loopEntry l = some e)
    (cascade : par q.cmd 9 1 = 3 → 2 ≤ e.ins.length) (bank : par q.cmd 9 1 ≠ 0 → (s.loop l).bank.isSome = true)
    (idle : (s.loop l).modeCmd = none) :
    loopModeBody q.cmd ref s = (s.accept ref).onLoop l fun lp => { lp with modeCmd := some (ref, par q.cmd 9 1, s.lamp) } := by
  have known : ¬63 < l.val := by omega
  have inputs : (decide (par q.cmd 9 1 = 3) && decide (e.ins.length < 2)) = false := by
    by_cases three : par q.cmd 9 1 = 3
    · simp [three, Nat.not_lt.2 (cascade three)]
    · simp [three]
  have banked : (decide (par q.cmd 9 1 ≠ 0) && (s.loop l).bank.isNone) = false := by
    by_cases off : par q.cmd 9 1 = 0
    · simp [off]
    · rw [← Option.not_isSome, bank off, Bool.not_true, Bool.and_false]
  unfold loopModeBody
  rw [opLoop_named loop]
  refine checked_ok _ _ q ref _ s neat ?_
  simp only [firstFail, loop, known, Nat.not_lt.2 mode, entry, Option.map_some, Option.getD_some, inputs, banked, idle,
    Option.isNone_some, Option.isSome_none, decide_false, Bool.false_eq_true, if_false]

/-- CAL_RUN of items and sink groups that the Deal gives (12 R284). -/
theorem calRunBody_accepts {q : Submission} (s : State) {ref : CmdRef} (neat : tidy q [(8, 4)]) (nonzero : par q.cmd 8 4 ≠ 0)
    (items : par q.cmd 8 4 < 256) (sinks : ∀ g < 4, (par q.cmd 8 4).testBit (2 + g) = true →
      ∃ d r, s.theDeal = some d ∧ d.accent = some r ∧ (r.1.getD g 0 = 1 ∨ r.1.getD g 0 = 2))
    (cal : s.house.cal = none) (entry : s.house.entry = none) (save : s.house.save = none) (restore : s.house.restore = none) :
    calRunBody q.cmd ref s = (s.accept ref).onHouse fun h => { h with
      cal := some ⟨ref, par q.cmd 8 4, (s.reg Reg.HK_CAL_TOL).toNat, h.round + 1, none, none⟩ } := by
  have mask : ¬(par q.cmd 8 4 = 0 ∨ 256 ≤ par q.cmd 8 4) := by omega
  have groups : ((List.range 4).any fun g => bitAt (par q.cmd 8 4) (2 + g) &&
      !decide ((((s.theDeal.bind (·.accent)).map (fun a => a.1.getD g 0)).getD 0) = 1 ∨
        (((s.theDeal.bind (·.accent)).map (fun a => a.1.getD g 0)).getD 0) = 2)) = false := by
    rw [List.any_eq_false]
    intro g hg
    cases used : bitAt (par q.cmd 8 4) (2 + g)
    · exact Bool.false_ne_true
    · obtain ⟨d, r, deal, accent, sink⟩ := sinks g (List.mem_range.1 hg) used
      simp only [deal, accent, Option.bind_some, Option.map_some, Option.getD_some, sink, decide_true, Bool.not_true, Bool.and_false,
        Bool.false_eq_true, not_false_eq_true]
  unfold calRunBody
  refine checked_ok _ _ q ref _ s neat ?_
  simp only [opItems, firstFail, mask, groups, cal, entry, save, restore, Option.isSome_none, Bool.or_false, decide_false,
    Bool.false_eq_true, if_false]

/-- What is done to a loop is seen at that loop alone. -/
theorem State.onLoop_congr {s : State} {l : LoopId} {f g : LoopSt → LoopSt} (same : f (s.loop l) = g (s.loop l)) :
    s.onLoop l f = s.onLoop l g :=
  congrArg (fun x => s.onCtl fun c => { c with loops := c.loops.set l x }) same

/-- LOOP_LOAD_DONE writes the bank that is not in force (11 R270). -/
theorem State.loopLoadDone_held {s : State} {l : LoopId} {r : CmdRef} {img : Bytes} (load : (s.loop l).load = some (r, img)) :
    s.loopLoadDone l = State.completeOk r 0 (s.onLoop l fun lp => { lp with
      load := none, imgA := if (s.loop l).bankB then some img else (s.loop l).imgA
      imgB := if (s.loop l).bankB then (s.loop l).imgB else some img }) := by
  unfold State.loopLoadDone
  rw [load]
  refine congrArg (State.completeOk r 0) ?_
  refine State.onLoop_congr ?_
  cases (s.loop l).bankB <;> rfl

/-- LOOP_MODE_TIMEOUT ends a mode that waits (11 R257). -/
theorem State.loopModeTimeout_waiting {s : State} {l : LoopId} {r : CmdRef} {m since : Nat}
    (waits : (s.loop l).modeCmd = some (r, m, since)) :
    s.loopModeTimeout l = ((s.advanceTo (since + msCounts 1000)).onLoop l fun lp => { lp with modeCmd := none }).completeWith r .timeout := by
  unfold State.loopModeTimeout
  rw [waits]

end Sys2Proof.Machine
end

section
/-! SUPPORT. FW_STAGE, FW_SWITCH, LIFECYCLE_ADVANCE, PARTNER_JOIN and PARTNER_LEAVE, accepted (14 R328, R329, R337; 17 R393, R396,
R397). -/

namespace Sys2Proof.Machine

open Sys2Proof

/-- With the host ready a command's read of its memory is made at once (16 R364). -/
theorem State.awaitHost_ready {s : State} (ready : s.hostReady = true) (c : Cmd) (ref : CmdRef) (go : State → State) :
    s.awaitHost c ref go = go s := if_neg (by simp [ready])

/-- With the link up the host's memory answers (16 R363). -/
theorem State.hostData_up {s : State} (up : s.host.linkUp = true) (d : HostRead) : s.hostData d = d := if_pos up

/-- FW_STAGE for the slot that is not ACTIVE: the image decides (17 R396). -/
theorem fwStageBody_reads {q : Submission} (s : State) {ref : CmdRef} {b : Bytes} (neat : tidy q [(8, 1), (16, 8), (24, 4)])
    (slot : par q.cmd 8 1 ≤ 1) (other : par q.cmd 8 1 ≠ s.power.active) (stage : s.power.stage = none) (switch : s.power.switch = none)
    (up : s.host.linkUp = true) (ready : s.hostReady = true) :
    fwStageBody (some b) q.cmd ref s = if s.judgeStage (par q.cmd 24 4) b = .ok
      then (s.accept ref).onPower fun p => { p with
        stage := some ⟨ref, par q.cmd 8 1, rd b 16 4, rd b 20 1⟩
        slots := p.slots.set (slotIx (par q.cmd 8 1)) { p.slots.get (slotIx (par q.cmd 8 1)) with valid := false }
        marked := p.marked ||| (1#2 <<< par q.cmd 8 1) }
      else s.complete ref (s.judgeStage (par q.cmd 24 4) b) 16 0 := by
  unfold fwStageBody
  refine (checked_ok _ _ q ref _ s neat ?_).trans ((State.awaitHost_ready ready _ _ _).trans ?_)
  · simp only [firstFail, Nat.not_lt.2 slot, other, decide_false, Bool.false_eq_true, if_false]
  · rw [State.hostData_up up]
    refine (checked_tidy neat _ _ _).trans ?_
    by_cases good : s.judgeStage (par q.cmd 24 4) b = .ok
    · simp only [firstFail, good, State.fwBusy, stage, switch, ne_eq, not_true_eq_false, decide_false, Option.isSome_none, Bool.or_false,
        Bool.false_eq_true, if_false, if_true]
    · simp only [firstFail, good, ne_eq, not_false_eq_true, decide_true, if_true, if_false]

/-- FW_STAGE_DONE with firmware present (17 R396). -/
theorem State.fwStageDone_present {s : State} {j : StageJob} (stage : s.power.stage = some j) (present : s.power.absent = false) :
    s.fwStageDone = State.completeOk j.ref j.version (s.onPower fun p => { p with
      stage := none, slots := p.slots.set (slotIx j.slot) ⟨true, j.version, j.secVer⟩, marked := p.marked &&& ~~~(1#2 <<< j.slot) }) := by
  unfold State.fwStageDone
  rw [stage]
  exact if_neg (Bool.eq_false_iff.1 present)

/-- FW_SWITCH to a valid slot (17 R397). -/
theorem fwSwitchBody_accepts {q : Submission} (s : State) {ref : CmdRef} (neat : tidy q [(8, 1)]) (slot : par q.cmd 8 1 ≤ 1)
    (valid : s.power.valid (par q.cmd 8 1) = true) (stage : s.power.stage = none) (switch : s.power.switch = none) :
    fwSwitchBody q.cmd ref s = ((s.accept ref).onPower fun p => { p with
      switch := some ⟨ref, par q.cmd 8 1, p.active, s.lamp, none⟩ }).coreRestart 3 (some (par q.cmd 8 1)) := by
  unfold fwSwitchBody
  refine checked_ok _ _ q ref _ s neat ?_
  simp only [firstFail, Nat.not_lt.2 slot, valid, State.fwBusy, stage, switch, Option.isSome_none, Bool.or_false, Bool.not_true,
    decide_false, Bool.false_eq_true, if_false]

/-- LIFECYCLE_ADVANCE: the authorisation decides (17 R393). -/
theorem lifecycleBody_reads {q : Submission} (s : State) {ref : CmdRef} {b : Bytes} (neat : tidy q [(8, 1), (16, 8), (24, 4)])
    (target : par q.cmd 8 1 ≤ 3) (aligned : par q.cmd 16 8 % 64 = 0) (least : 192 ≤ par q.cmd 24 4) (most : par q.cmd 24 4 ≤ 512)
    (up : s.host.linkUp = true) (ready : s.hostReady = true) :
    lifecycleBody (some b) q.cmd ref s = (match firstFail (s.authChecks (par q.cmd 8 1) (par q.cmd 24 4) b) with
      | none => (s.accept ref).onPower fun p => { p with
          fuseJobs := p.fuseJobs ++ [⟨ref, par q.cmd 8 1, authOps b, !s.power.absent⟩] }
      | some (st, d) => s.complete ref st d 0) := by
  unfold lifecycleBody
  refine (checked_ok _ _ q ref _ s neat ?_).trans ((State.awaitHost_ready ready _ _ _).trans ?_)
  · simp [firstFail, target, aligned, least, most]
  · rw [State.hostData_up up]
    exact checked_tidy neat _ _ _

/-- PARTNER_JOIN of a chip with a ROLE that does not join already (14 R328, R329). -/
theorem partnerJoinBody_accepts {q : Submission} (s : State) {ref : CmdRef} (neat : tidy q []) (role : s.role ≠ 0)
    (idle : s.partner.state ≠ 1) :
    partnerJoinBody q.cmd ref s = if s.partner.state = 2 then (s.accept ref).completeOk ref 0
      else (s.accept ref).onPartner fun p => { p with
        state := 1, join := some (ref, s.lamp), joinStep := 0, peer := none, peerAdmitted := 0 } := by
  unfold partnerJoinBody
  refine checked_ok _ _ q ref _ s neat ?_
  simp only [firstFail, role, idle, decide_false, Bool.false_eq_true, if_false]

/-- PARTNER_LEAVE of a chip with a ROLE (14 R337). -/
theorem partnerLeaveBody_accepts {q : Submission} (s : State) {ref : CmdRef} (neat : tidy q []) (role : s.role ≠ 0)
    (stays : s.partner.leave = none) :
    partnerLeaveBody q.cmd ref s =
      (let t := (s.accept ref).onPartner fun p => { p with leave := some ref }
       if s.partner.state = 2 then t.emit (.partner .leave) else t) := by
  unfold partnerLeaveBody
  refine checked_ok _ _ q ref _ s neat ?_
  simp only [firstFail, role, stays, Option.isSome_none, decide_false, Bool.false_eq_true, if_false]

end Sys2Proof.Machine
end

section
/-! SUPPORT. A header that step 1 turns away, and a command that waits at step 3 (03 R63, R66, R73). -/

namespace Sys2Proof.Machine

open Sys2Proof

/-- The Dealer reads no command in OFF (03 R50). -/
theorem State.readable_on {s : State} {op : Nat} {q : Submission} (read : s.readable op q) : s.on := by
  obtain ⟨may, _, _⟩ := read
  intro off
  simp [State.canRead, State.unread, off] at may

/-- A malformed header completes INVALID at the first bad byte (03 R66 step 1). -/
theorem State.unknownOpcode_malformed {s : State} {op : Nat} {q : Submission} {d : Nat} (read : s.readable op q)
    (fault : headerFault op q.cmd = some d) :
    s.unknownOpcode op q = (s.fetched q).complete (s.refOf op q) .invalid d 0 := by
  unfold State.unknownOpcode
  rw [if_neg (by simp [fault]), State.dealerRun_readable op q _ s read, State.dealerSteps, fault]

/-- An unknown opcode is the first byte that is malformed (03 R63). -/
theorem headerFault_unknown {op : Nat} {c : Cmd} {d : Nat} (unknown : ¬knownOpcodes.contains op) (fault : headerFault op c = some d) :
    d = 0 := by
  rw [headerFault, if_pos unknown] at fault
  exact (Option.some.inj fault).symm

/-- A command whose wait at step 3 is met goes on from step 4, last in the order of acceptance (03 R72, R73). -/
theorem State.waitRelease_met {s : State} {r : RingId} {w : WaitingCmd} {body : Nat → Body} (waits : (s.ring r).waiting = some w)
    (met : s.waitsMet r w.cmd = true) (atStepThree : w.reading = false) (other : isStateCmd w.ref.opcode = false) :
    s.waitRelease r body = State.dealerCheck w.ref.opcode w.cmd { w.ref with id := s.dealer.nextId } (body w.ref.opcode)
      ((s.onRing r fun x => { x with waiting := none }).onDealer fun d => { d with nextId := d.nextId + 1 }) := by
  have may : s.mayRelease r w = true := by simp [State.mayRelease, atStepThree, met, other]
  unfold State.waitRelease
  rw [waits]
  exact (if_neg (by simp [may])).trans (if_neg (Bool.eq_false_iff.1 atStepThree))

/-- NOP from step 4 on: accepted and completed at once (03 R67). -/
theorem State.dealerCheck_nop {s : State} {c : Cmd} {ref : CmdRef} (legal : legalIn 0x01 s.dev.state = true)
    (neat : unusedByte [] c = none) :
    s.dealerCheck 0x01 c ref nopBody = ((s.enterWindow 0x01 c ref).accept ref).completeOk ref 0 := by
  have legal' : legalIn 0x01 (s.enterWindow 0x01 c ref).dev.state = true := legal
  have each : primaryOnly 0x01 c = false := rfl
  have noTile : namesTile 0x01 = false := rfl
  have body : nopBody c ref (s.enterWindow 0x01 c ref) = ((s.enterWindow 0x01 c ref).accept ref).completeOk ref 0 := by
    unfold nopBody checked
    rw [neat]
    rfl
  unfold State.dealerCheck
  simp only [legal', each, noTile, body, Bool.not_true, Bool.and_false, Bool.false_and, Bool.false_eq_true, if_false]

/-- A command whose wait is not met times out 1,000 ms after it was read (03 R73). -/
theorem State.waitTimeout_unmet {s : State} {r : RingId} {w : WaitingCmd} (waits : (s.ring r).waiting = some w)
    (atStepThree : w.reading = false) (unmet : s.waitsMet r w.cmd = false) :
    s.waitTimeout r =
      ((s.advanceTo (w.since + msCounts 1000)).onRing r fun x => { x with waiting := none }).completeWith w.ref .timeout := by
  unfold State.waitTimeout
  rw [waits]
  exact if_neg (by simp [atStepThree, unmet])

end Sys2Proof.Machine
end

section
/-! PROOFS. The statements of the states and commands chapter that are settled: O59, O1, O2, O4, O15, O37, O53, O8, O10, O13, O14, O22, O23, O25, O26, O27, O28, O29, O30, O58. -/

namespace Sys2Proof.Machine

open Sys2Proof

/-- Settles O59: idling keeps both, and every command ends with the entries taken and the pins driven. -/
theorem everyStepLeavesPinsAndEntriesInOrder : Obligations.EveryStepLeavesPinsAndEntriesInOrder := by
  unfold Obligations.EveryStepLeavesPinsAndEntriesInOrder
  have settled {s t : State} (busy : s.pending ≠ []) (stepped : step s = .next t) : t.pinsFollow ∧ t.entriesTaken := by
    obtain ⟨x, answer⟩ := step_settles busy
    rw [Host.Outcome.next.inj (stepped.symm.trans answer)]
    exact ⟨settle_pinsFollow x, settle_entriesTaken x⟩
  refine ⟨fun s t pins taken stepped => ?_, fun s t => settled, fun s busy => ?_⟩
  · by_cases empty : s.pending = []
    · rw [Host.Outcome.next.inj (stepped.symm.trans (step_nil empty))]
      exact State.idle_inOrder pins taken
    · exact settled empty stepped
  · obtain ⟨x, answer⟩ := step_settles busy
    exact ⟨_, answer⟩

/-- Settles O1: each fall of supply ends in OFF with the pins as the statement has them, and OFF keeps what R387 keeps. -/
theorem powerLossEntersOff : Obligations.PowerLossEntersOff := by
  unfold Obligations.PowerLossEntersOff
  refine fun s on => ⟨fun pin => ?_, fun rail => ?_⟩
  · obtain ⟨x, lamp, power, tiles, off⟩ := State.powerOff_on on pin
    obtain ⟨lost, pins⟩ := State.unpowered_settle power tiles lamp _
    refine ⟨_, congrArg finish off, lost, pins.trans ?_⟩
    cases pin <;> rfl
  · obtain ⟨x, lamp, power, tiles, off⟩ := State.brownOut_on on rail
    obtain ⟨lost, pins⟩ := State.unpowered_settle power tiles lamp _
    refine ⟨_, congrArg finish off, lost, pins.trans ?_⟩
    cases rail <;> rfl

/-- Settles O2: POWER_ON starts an OFF device from reset, and a device that is on ignores it. -/
theorem powerOnEntersPasteurise : Obligations.PowerOnEntersPasteurise := by
  unfold Obligations.PowerOnEntersPasteurise
  refine fun s straps => ⟨fun off => ?_, fun on => congrArg finish (State.powerOn_on on straps)⟩
  obtain ⟨x, power, pins, powered⟩ := State.powerOn_off off straps
  have calm : (x.powered straps).quiet := ⟨rfl, rfl⟩
  refine ⟨_, congrArg finish powered, ?_, ?_, ?_, fun off notAudit => ?_, ?_, ?_, ?_, ?_, ?_⟩
  · exact settle_field (·.dev.state) calm fun _ => rfl
  · exact settle_field (·.lamp) calm fun _ => rfl
  · exact settle_field (·.timing) calm fun _ => rfl
  · exact settle_reg calm notAudit
  · exact settle_field (·.rings) calm fun _ => rfl
  · exact settle_field (·.deal) calm fun _ => rfl
  · rw [settle_field (·.pins) calm fun _ => rfl, ← pins]
    rfl
  · exact (settle_field (·.power.efuse) calm fun _ => rfl).trans (congrArg (·.efuse) power)
  · exact (settle_field (·.power.efuseShown) calm fun _ => rfl).trans (congrArg (·.efuse) power)

/-- Settles O4: the wipe ends within its limit, and the transition to BOOT makes nothing due. -/
theorem pasteuriseEndsInBoot : Obligations.PasteuriseEndsInBoot := by
  unfold Obligations.PasteuriseEndsInBoot
  intro s paste quiet
  have on : s.on := by rw [State.on, paste]; decide
  obtain ⟨fatalDue, safeDue⟩ := quiet
  obtain ⟨vitals, lamp, dram, ready⟩ := boot_frame 0x02 s.pasteurised
  have before := s.pasteurised_vitals
  unfold State.vitals at vitals before
  simp only [Prod.mk.injEq] at vitals before
  obtain ⟨state, prev, cause, safe, fatal⟩ := vitals
  obtain ⟨wasState, _, _, wasSafe, wasFatal⟩ := before
  have calm : (s.pasteurised.setDevState .boot 0x02).applyDomains.quiet :=
    ⟨fatal.trans (wasFatal.trans fatalDue), safe.trans (wasSafe.trans safeDue)⟩
  have clock := (settle_field (·.lamp) calm fun _ => rfl).trans lamp
  obtain ⟨forward, inTime⟩ := s.pasteurised_lamp
  refine ⟨_, exec_row on rfl (State.pasteuriseComplete_eq paste), ?_, ?_, ?_, ?_, ?_, fun a => ?_, ?_⟩
  · exact (settle_field (·.dev.state) calm fun _ => rfl).trans state
  · exact (settle_field (·.dev.cause) calm fun _ => rfl).trans cause
  · rw [settle_field (·.dev.prev) calm fun _ => rfl, prev, wasState, paste]
  · rw [clock]
    exact inTime
  · rw [clock]
    exact forward
  · rw [settle_field (·.dram) calm fun _ => rfl, dram]
    exact s.get_pasteurised a
  · rw [settle_field (·.power.ready) calm fun _ => rfl, ready, s.pasteurised_ready]

/-- Settles O15: a loss of the link is one change of the host port, the rings and the queues; what Bus Master Enable, D3hot and D0
bring beside the host port answers what waited. -/
theorem hostLinkLostAndRegained : Obligations.HostLinkLostAndRegained := by
  unfold Obligations.HostLinkLostAndRegained
  refine ⟨fun s on up => ⟨s.linkLost, fun hot => ?_, exec_row on rfl (State.linkDown_up up), ?lost⟩,
    fun s on quiet powered => ?_,
    fun s en clear on up awake => ⟨_, exec_row on rfl (State.d3hotEntry_awake up awake en clear), ?_, fun r => ?_⟩,
    fun s en clear on up asleep => ⟨exec_row on rfl (State.d0Return_asleep up asleep en clear), ?_⟩⟩
  case lost =>
    refine ⟨?_, ?_, ?_, ?_, ?_, ?_, ?_, fun v => ?_, ?_, s.linkLost_ring, fun q => s.linkLost_disables, ?_, ?_, ?_, ?_, ?_, ?_, ?_⟩
    · exact s.linkLost_keeps (·.host.linkUp) fun _ => rfl
    · exact s.linkLost_keeps (·.host.bme) fun _ => rfl
    · exact s.linkLost_keeps (·.host.d3hot) fun _ => rfl
    · exact s.linkLost_keeps (·.host.pmeEn) fun _ => rfl
    · exact s.linkLost_keeps (·.host.inL1) fun _ => rfl
    · exact s.linkLost_keeps (·.host.speed) fun _ => rfl
    · exact s.linkLost_keeps (·.host.width) fun _ => rfl
    · rw [s.linkLost_keeps (·.host.msix) fun _ => rfl]
      unfold HostPort.down
      simp
    · exact s.linkLost_keeps (·.host.linkDownCnt) fun _ => rfl
    · exact s.linkLost_keeps (·.dram) fun _ => rfl
    · exact s.linkLost_keeps (·.dev) fun _ => rfl
    · exact s.linkLost_keeps (·.timing) fun _ => rfl
    · exact s.linkLost_keeps (·.churns) fun _ => rfl
    · exact s.linkLost_keeps (·.ports) fun _ => rfl
    · exact s.linkLost_keeps (·.lamp) fun _ => rfl
    · exact s.linkLost_reg (by decide)
  · cases hot <;> exact exec_row on rfl (State.linkDown_up up)
  · have answers := State.busMasterEnable_answers powered
    have calm : s.busMasterEnable.quiet := ⟨(answers_field (·.faults.fatalDue) answers fun _ => rfl).trans quiet.1,
      (answers_field (·.faults.safeDue) answers fun _ => rfl).trans quiet.2⟩
    refine ⟨_, exec_row on rfl rfl, ?_, ?_, ?_, ?_, ?_⟩
    · exact (settle_field (·.host.linkUp) calm fun _ => rfl).trans (answers_field (·.host.linkUp) answers fun _ => rfl)
    · exact (settle_field (·.host.bme) calm fun _ => rfl).trans (answers_field (·.host.bme) answers fun _ => rfl)
    · exact (settle_field (·.host.d3hot) calm fun _ => rfl).trans (answers_field (s := s.onHost _) (·.host.d3hot) answers fun _ => rfl)
    · exact (settle_field (fun t => { t.dev with reported := s.dev.reported }) calm fun _ => rfl).trans
        (answers_field (fun t => { t.dev with reported := s.dev.reported }) answers fun _ => rfl)
    · exact (settle_field (·.timing) calm fun _ => rfl).trans (answers_field (s := s.onHost _) (·.timing) answers fun _ => rfl)
  · exact State.stopHostRings_keeps (·.host) _ _ fun _ => rfl
  · simp only [State.stopHostRings_ring, decide_eq_true_iff]
    rfl
  · exact answers_field (·.host.d3hot) (answers_awakening _) fun _ => rfl

/-- Settles O37: a line that is taken writes its pixels and its fence word; one turned away leaves DRAM as it is. -/
theorem videoLineWritesItsPixels : Obligations.VideoLineWritesItsPixels := by
  unfold Obligations.VideoLineWritesItsPixels
  intro s p on quiet up
  have row (room : Bool) : exec (.videoLine p room) s = .next (State.settle (s.videoLine p room)) := exec_row on rfl rfl
  have away {room : Bool} (h : room = false ∨ ¬s.takesVideo p) : ∃ t, exec (.videoLine p room) s = .next t ∧ t.dram = s.dram ∧
      t.rings = s.rings ∧ t.churns = s.churns ∧ t.timing = s.timing := by
    have calm : (s.videoLine p room).quiet := by
      rw [State.quiet, State.videoLine_turnedAway (·.faults) h fun _ => rfl]
      exact quiet
    refine ⟨_, row room, ?_, ?_, ?_, ?_⟩
    · exact (settle_field (·.dram) calm fun _ => rfl).trans (State.videoLine_turnedAway (·.dram) h fun _ => rfl)
    · exact (settle_field (·.rings) calm fun _ => rfl).trans (State.videoLine_turnedAway (·.rings) h fun _ => rfl)
    · exact (settle_field (·.churns) calm fun _ => rfl).trans (State.videoLine_turnedAway (·.churns) h fun _ => rfl)
    · exact (settle_field (·.timing) calm fun _ => rfl).trans (State.videoLine_turnedAway (·.timing) h fun _ => rfl)
  refine ⟨fun header data fence apart => ?_, fun refused => away (.inr refused), away (.inl rfl)⟩
  have takes : s.takesVideo p := ⟨header, data, fence, apart⟩
  have calm : (s.videoLine p true).quiet := by
    rw [State.quiet, State.videoLine_keeps (·.faults) up takes fun _ => rfl]
    exact quiet
  refine ⟨_, row true, fun j => ?_, fun wf => ?_, ?_, ?_, ?_⟩
  · rw [settle_field (·.dram) calm fun _ => rfl]
    exact State.get_videoLine up takes j
  · rw [settle_field (·.dram) calm fun _ => rfl]
    exact State.videoLine_wf up takes wf
  · exact (settle_field (·.rings) calm fun _ => rfl).trans (State.videoLine_keeps (·.rings) up takes fun _ => rfl)
  · exact (settle_field (·.churns) calm fun _ => rfl).trans (State.videoLine_keeps (·.churns) up takes fun _ => rfl)
  · exact (settle_field (·.timing) calm fun _ => rfl).trans (State.videoLine_keeps (·.timing) up takes fun _ => rfl)

/-- Settles O53: a raise is one equation of the collector; the clears and the timer change the collector alone; an entry that is
due is the transition of the device state. -/
theorem raisesAndTheirEntries : Obligations.RaisesAndTheirEntries := by
  unfold Obligations.RaisesAndTheirEntries
  intro s
  refine ⟨fun i d on => ⟨fun unlisted => ⟨?_, ?_⟩, fun listed => ⟨?_, fun again => ?_, fun anew => ?_⟩⟩,
    fun m value serves => ⟨fun unlisted => ?_, fun listed => ?_⟩, fun m value serves => ⟨fun one => ?_, fun zero => ?_⟩,
    fun m w value serves => ?_, fun t on running => ?_, fun c due on booted alive => ?_, fun c noFatal due lit => ?_⟩
  · refine exec_row on rfl ((if_neg on).trans ?_)
    rw [State.inputShows_unlisted unlisted, State.raise_unlisted unlisted]
  · exact exec_row on rfl ((if_neg on).trans (if_pos unlisted))
  · obtain ⟨raised, pairs, _⟩ := raised_raiseAs i.isLt (Iff.rfl (a := faultClass i = 3)) d.toNat false false (s.inputShows i)
    refine ⟨_, exec_row on rfl ((if_neg on).trans (State.raise_listed listed d.isLt _)), raised, pairs.trans ?_⟩
    unfold State.inputShows
    split <;> rfl
  · refine exec_row on rfl ((if_neg on).trans ?_)
    rw [State.brokenPair_listed listed, if_pos ((s.stillBroken_iff i).2 again)]
    rfl
  · have gone : ¬s.stillBroken i = true := by
      rw [State.stillBroken_iff]
      rintro ⟨b, known, same, recent⟩
      exact Nat.not_le.2 recent (anew b known same)
    have broken := (State.brokenPair_listed listed s).trans (if_neg gone)
    obtain ⟨raised, pairs, times⟩ := raised_raiseAs i.isLt (c := max 2 (faultClass i)) (by omega) 0xFFFF false true
      (s.onFaults fun f => { f with brokenAt := s.faults.seen i s.lamp, broken := f.broken ||| (1#128 <<< i.val) })
    exact ⟨_, exec_row on rfl ((if_neg on).trans broken), raised, pairs, times⟩
  · have nothing := (State.inject_eq value.isLt s).trans (if_pos unlisted)
    exact exec_row serves.1 rfl ((State.write_FLT_INJECT serves _).trans nothing)
  · have injects := (State.inject_eq value.isLt s).trans (if_neg listed)
    obtain ⟨raised, pairs, _⟩ := raised_raiseAs (Nat.mod_lt value.toNat (by decide : 0 < 128))
      (Iff.rfl (a := faultClass (value.toNat % 128) = 3)) (value.toNat / 65536) true false s
    exact ⟨_, exec_row serves.1 rfl ((State.write_FLT_INJECT serves _).trans injects), raised, pairs⟩
  · exact exec_row serves.1 rfl ((State.write_FLT_FIRST serves _).trans (if_pos one))
  · exact exec_row serves.1 rfl ((State.write_FLT_FIRST serves _).trans (if_neg (Bool.eq_false_iff.1 zero)))
  · refine ⟨_, exec_row serves.1 rfl (State.write_FLT_PEND w serves _), ?_⟩
    rw [State.clearPend_eq]
    refine ⟨State.timerCheck_keeps (·.beyond) _ fun _ => rfl, State.timerCheck_keeps (·.regs) _ fun _ => rfl, fun i => ?_,
      State.timerCheck_keeps (·.faults.first) _ fun _ => rfl, State.timerCheck_keeps (·.faults.cntC) _ fun _ => rfl,
      State.timerCheck_keeps (·.faults.cntD) _ fun _ => rfl, State.timerCheck_keeps (·.faults.broken) _ fun _ => rfl,
      fun none => ?_, fun some => ?_⟩
    · rw [State.timerCheck_keeps (·.faults.pend) _ fun _ => rfl, State.pendCleared_pend]
      have word : 32 * w.val + i.val % 32 = i.val ∨ i.val / 32 ≠ w.val := by omega
      rcases word with here | elsewhere
      · unfold State.clearable
        rw [here, Bool.and_assoc]
      · simp [elsewhere]
    · rw [State.timerCheck_keeps (·.faults.urgent) _ fun _ => rfl] at none
      rw [State.timerCheck_stops none]
      exact ⟨rfl, rfl⟩
    · rw [State.timerCheck_keeps (·.faults.urgent) _ fun _ => rfl] at some
      rw [State.timerCheck_runs some]
      exact ⟨rfl, rfl⟩
  · refine ⟨_, exec_row on rfl rfl, ?_, ?_, ?_, ?_, ?_, ?_, fun lit calm noDue => ?_, fun stays => ?_⟩
    · exact State.timerExpiry_keeps (·.dev) running (fun _ _ => rfl) fun _ => rfl
    · exact State.timerExpiry_keeps (·.lamp) running (fun _ _ => rfl) fun _ => rfl
    · exact State.timerExpiry_keeps (·.faults.pend) running (fun _ _ => rfl) fun _ => rfl
    · exact State.timerExpiry_keeps (·.faults.timer) running (fun _ _ => rfl) fun _ => rfl
    · exact State.timerExpiry_keeps (·.faults.expired) running (fun _ _ => rfl) fun _ => rfl
    · exact State.timerExpiry_keeps (·.faults.fatalDue) running (fun _ _ => rfl) fun _ => rfl
    · have moves : s.expiryMoves = true := by
        unfold State.expiryMoves
        simp [lit, calm]
      rw [State.timerExpiry_safeDue running, if_pos ⟨moves, noDue⟩]
    · rw [State.timerExpiry_safeDue running, if_neg]
      rintro ⟨moves, _⟩
      unfold State.expiryMoves at moves
      simp only [Bool.and_eq_true, decide_eq_true_eq] at moves
      tauto
  · have vitals := (vitals_settle s).trans (State.dueEntries_fatal_vitals due on booted alive)
    unfold State.vitals at vitals
    simp only [Prod.mk.injEq] at vitals
    obtain ⟨state, prev, cause, _⟩ := vitals
    exact ⟨state, prev, cause⟩
  · have vitals := (vitals_settle s).trans (State.dueEntries_safe_vitals noFatal due lit)
    unfold State.vitals at vitals
    simp only [Prod.mk.injEq] at vitals
    obtain ⟨state, prev, cause, _⟩ := vitals
    exact ⟨state, prev, cause⟩

/-- Settles O8: with no FW_SWITCH to the start, the slot that R395 picks starts and becomes ACTIVE. -/
theorem firmwareSlotChosen : Obligations.FirmwareSlotChosen := by
  unfold Obligations.FirmwareSlotChosen
  intro s imageA imageB run due noSwitch
  have on : s.on := by
    rintro off
    simp [State.coresRun, off] at run
  have unswitched : (s.judgedPower imageA imageB).switch = none := noSwitch
  refine exec_row on rfl ((State.firmwareSlotStart_due run due noSwitch imageA imageB).trans ?_)
  change (s.slotPicked (s.judgedPower imageA imageB)).elim _ _ = match s.slotPicked (s.judgedPower imageA imageB) with
    | some n => _
    | none => _
  cases s.slotPicked (s.judgedPower imageA imageB) with
  | none => rfl
  | some n => exact State.startSlot_unswitched unswitched n

/-- Settles O10: an absence that lasts; raising and completing leave its start as it was, and the restart leaves the time. -/
theorem absenceReachesItsLimit : Obligations.AbsenceReachesItsLimit := by
  unfold Obligations.AbsenceReachesItsLimit
  intro s run absent
  have on : s.on := by
    rintro off
    simp [State.coresRun, off] at run
  exact exec_row on rfl (State.fwAbsenceLimit_absent run absent)

/-- Settles O13: a pointer moves where R60 lets it, and the ring's error is set otherwise. -/
theorem ringPointersMoveForward : Obligations.RingPointersMoveForward := by
  unfold Obligations.RingPointersMoveForward
  intro s m r value
  refine ⟨fun serves => ?_, fun serves => ?_⟩
  · refine exec_row serves.1 rfl ((State.write_SQ_TAIL r serves _).trans ?_)
    rw [State.writeSqTail, State.ringError_tail]
    rfl
  · refine exec_row serves.1 rfl ((State.write_CQ_HEAD r serves _).trans ?_)
    rw [State.writeCqHead, State.ringError_tail]
    rfl

/-- Settles O14: the four writes of DEV_RINGn_CFG and the clearing write of DEV_RINGn_STAT. -/
theorem ringConfigured : Obligations.RingConfigured := by
  unfold Obligations.RingConfigured
  intro s m r value
  refine ⟨fun serves stopped one allowed => ?_, fun serves stopped one refused => ?_, fun serves runs zero => ?_,
    fun serves stopped zero flush => ?_, fun serves => ?_⟩
  · have taken : ¬s.enableRefused ((s.ring r).configured value.toNat) = true := fun h => allowed (State.enableRefused_iff.1 h)
    refine exec_row serves.1 rfl ((State.write_RING_CFG r serves _).trans ?_)
    rw [State.writeRingCfg_enable stopped one, if_neg taken]
    rfl
  · have discarded : s.enableRefused ((s.ring r).configured value.toNat) = true := State.enableRefused_iff.2 refused
    refine exec_row serves.1 rfl ((State.write_RING_CFG r serves _).trans ?_)
    rw [State.writeRingCfg_enable stopped one, if_pos discarded]
  · exact exec_row serves.1 rfl ((State.write_RING_CFG r serves _).trans (State.writeRingCfg_disable runs zero))
  · refine exec_row serves.1 rfl ((State.write_RING_CFG r serves _).trans ?_)
    rw [State.writeRingCfg_configure stopped zero, Ring.configured, if_pos flush]
    rfl
  · refine exec_row serves.1 rfl ((State.write_RING_STAT r serves _).trans ?_)
    rw [State.writeRingStat, State.ring_onRing_self]
    rfl

/-- Settles O22: each state command's checks pass, and its action is acceptance and the wait for the cut. -/
theorem stateCommandsWaitForTheirCut : Obligations.StateCommandsWaitForTheirCut := by
  unfold Obligations.StateCommandsWaitForTheirCut
  intro s q
  refine ⟨fun pass neat nonzero admitted => ?_, fun pass neat nonzero lit => ?_, fun pass neat => ?_, fun pass neat may => ?_⟩
  · exact exec_accepted pass (lightBody_accepts (s.taken 0x05 q) neat nonzero admitted _) rfl rfl
  · exact exec_accepted pass (darkenBody_accepts (s.taken 0x06 q) neat nonzero lit _) rfl rfl
  · exact exec_accepted pass (holdBody_accepts (s.taken 0x07 q) neat _) rfl rfl
  · exact exec_accepted pass (resumeBody_accepts (s.taken 0x08 q) neat may _) rfl rfl

/-- Settles O23: each command's checks pass; NOP is accepted and completed, the others are accepted and begin. -/
theorem transferCommandsAccepted : Obligations.TransferCommandsAccepted := by
  unfold Obligations.TransferCommandsAccepted
  intro s q
  refine ⟨fun pass neat => ?_, fun pass neat aligned opts => ?_,
    fun p pass neat src dst least most whole part kind base within room => ?_,
    fun pass neat dst off len nonzero done there within => ?_, fun u pass neat unit alg nonzero within idle => ?_⟩
  · exact exec_each pass rfl (checked_ok _ _ q _ _ _ neat rfl) rfl
  · exact exec_each pass rfl (syncBody_accepts (s.taken 0x02 q) neat aligned opts _) rfl
  · exact exec_each pass rfl
      (surfaceCopyBody_accepts (s.taken 0x12 q) neat src dst least most whole part kind base within room _) rfl
  · exact exec_each pass rfl (dumpFetchBody_accepts (s.taken 0x48 q) neat dst off len nonzero done there within _) rfl
  · exact exec_each pass rfl (crcScanBody_accepts (s.taken 0x40 q) u neat unit alg nonzero within idle _) rfl

/-- Settles O25: a commit's checks decide it, and good memory keeps the reads they make silent; LAYER_DISABLE and TRUMP_SELECT
pass their checks. -/
theorem slotCommandsAccepted : Obligations.SlotCommandsAccepted := by
  unfold Obligations.SlotCommandsAccepted
  intro s q n sl
  refine ⟨fun e pass neat tile slot entry good => ⟨fun role layer => ?_, fun role trump whole => ?_⟩,
    fun e pass neat tile slot layer declared entry allowed => ?_, fun pass neat page held => ?_⟩
  · have named : (s.taken 0x10 q).slotEntry (par q.cmd 8 1) (par q.cmd 9 1) = some e := by rw [tile, slot]; exact entry
    have other : opSlot q.cmd ≠ 0 := opSlot_named slot ▸ layer
    refine (exec_each pass rfl (layerCommitBody_layer neat named role good) rfl).trans ?_
    rw [commitAccept_layer other]
    unfold commitPut
    rw [opTile_named tile, opSlot_named slot]
    rfl
  · have named : (s.taken 0x10 q).slotEntry (par q.cmd 8 1) (par q.cmd 9 1) = some e := by rw [tile, slot]; exact entry
    have zero : opSlot q.cmd = 0 := (opSlot_named slot).trans trump
    refine (exec_each pass rfl (layerCommitBody_trump neat named role good whole) rfl).trans ?_
    rw [commitAccept_trump zero]
    unfold commitReturned commitPut
    rw [opTile_named tile, opSlot_named slot]
    rfl
  · exact exec_each pass rfl (layerDisableBody_accepts (s.taken 0x11 q) neat tile slot layer declared entry allowed) rfl
  · refine exec_counted pass (trumpSelectBody_accepts (s.taken 0x13 q) neat page held) ?_ rfl
    exact (Closes.foldl (fun s o => closes_abortTrumpSel o s) _ (s.accepted 0x13 q)).2 q.ring

/-- Settles O26: the checks of either command pass; a set staged before makes way for the new one. -/
theorem skimCommandsAccepted : Obligations.SkimCommandsAccepted := by
  unfold Obligations.SkimCommandsAccepted
  intro s q
  refine ⟨fun pass neat nonzero most aligned inPart good encoded declared => ?_, fun pass neat empty address => ?_,
    fun pass neat seconds declared => ?_⟩
  · exact exec_each pass rfl
      (skimZonesSetBody_accepts (s.taken 0x18 q) rfl neat nonzero most aligned inPart good encoded declared) rfl
  · exact exec_each pass rfl (skimZonesSetBody_empty (s.taken 0x18 q) neat empty address) rfl
  · exact exec_each pass rfl (skimMaintWindowBody_accepts (s.taken 0x19 q) neat seconds declared) rfl

/-- Settles O27: each command's checks pass, and its action begins the tile's work beyond the rings. -/
theorem tileCommandsAccepted : Obligations.TileCommandsAccepted := by
  unfold Obligations.TileCommandsAccepted
  intro s q n
  refine ⟨fun pass neat tile on training ret lanes lit ident caps free => ?_, fun pass neat tile admitted lit free => ?_,
    fun part pass neat tile present entry holds job flash => ⟨fun target aligned length => ?_, fun target known length thermal => ?_⟩,
    fun pass neat tile declared length => ?_, fun pass neat tile nonzero lanes frames may idle => ?_⟩
  · obtain ⟨admission, retirement⟩ := free
    have may : s.canAdmit n = true := by simp [State.canAdmit, on, training, ret, lanes]
    have accepted := tileAdmitBody_accepts (ref := s.refOf 0x20 q) (s.taken 0x20 q) neat tile may lit ident caps admission retirement
    exact exec_accepted pass accepted ((State.rings_control _ _ _ _ _).trans rfl) rfl
  · obtain ⟨admission, retirement⟩ := free
    exact exec_accepted pass (tileRetireBody_accepts (s.taken 0x21 q) neat tile admitted lit admission retirement) rfl rfl
  · have accepted := tileCalLoadBody_chip (ref := s.refOf 0x22 q) (s.taken 0x22 q) neat tile present entry holds job flash target aligned length
    refine (exec_accepted pass accepted rfl rfl).trans ?_
    rw [State.told_of_each (by simp [primaryOnly, target])]
    rfl
  · obtain ⟨i, known, caps⟩ := known
    exact exec_accepted pass
      (tileCalLoadBody_flash (s.taken 0x22 q) neat tile present entry holds job flash target known caps length thermal) rfl rfl
  · refine exec_accepted pass (tileCalReadBody_accepts (s.taken 0x23 q) neat tile declared length) ?_ rfl
    split
    · exact (State.rings_askFlash _ _ _ _ _).trans rfl
    · rfl
  · exact exec_accepted pass (linkTestBody_accepts (s.taken 0x28 q) neat tile nonzero lanes frames may idle)
      ((State.rings_control _ _ _ _ _).trans rfl) rfl

/-- Settles O28: each command's checks pass and its action is held for its tick; a load and a mode end as R257 and R270 say. -/
theorem loopCommandsAccepted : Obligations.LoopCommandsAccepted := by
  unfold Obligations.LoopCommandsAccepted
  intro s q l
  refine ⟨fun e pass neat loop entry aligned inPart length load swap good => ?_, fun r img on load => ?_, fun pass neat nonzero free => ?_,
    fun e pass neat loop mode entry cascade bank idle => ?_, fun r m since on waits => ?_,
    fun pass neat nonzero items sinks cal entry save restore => ?_⟩
  · exact exec_each pass rfl (loopLoadBody_captures (s.taken 0x30 q) neat loop entry aligned inPart length load swap good) rfl
  · exact exec_row on rfl (State.loopLoadDone_held load)
  · exact exec_each pass rfl (loopSwapBody_accepts (s.taken 0x31 q) neat nonzero free) rfl
  · exact exec_each pass rfl (loopModeBody_accepts (s.taken 0x32 q) neat loop mode entry cascade bank idle) rfl
  · exact exec_row on rfl (State.loopModeTimeout_waiting waits)
  · exact exec_each pass rfl (calRunBody_accepts (s.taken 0x38 q) neat nonzero items sinks cal entry save restore) rfl

/-- Settles O29: each command's checks pass; what the host's memory gives decides FW_STAGE and LIFECYCLE_ADVANCE. -/
theorem firmwareAndPartnerCommandsAccepted : Obligations.FirmwareAndPartnerCommandsAccepted := by
  unfold Obligations.FirmwareAndPartnerCommandsAccepted
  intro s q
  refine ⟨fun b pass neat slot other stage switch up ready => ?_, fun j on stage present => ?_,
    fun pass neat slot valid stage switch => ?_, fun b pass neat target aligned least most up ready => ?_,
    fun pass neat role idle => ?_, fun pass neat role stays => ?_⟩
  · exact exec_each pass rfl (fwStageBody_reads (s.taken 0x50 q) neat slot other stage switch up ready) rfl
  · exact exec_row on rfl (State.fwStageDone_present stage present)
  · exact exec_each pass rfl (fwSwitchBody_accepts (s.taken 0x51 q) neat slot valid stage switch) rfl
  · exact exec_each pass rfl (lifecycleBody_reads (s.taken 0x58 q) neat target aligned least most up ready) rfl
  · exact exec_each pass rfl (partnerJoinBody_accepts (s.taken 0x60 q) neat role idle) rfl
  · exact exec_each pass rfl (partnerLeaveBody_accepts (s.taken 0x61 q) neat role stays) rfl

/-- Settles O30: step 1 completes what it turns away; a released NOP goes on from step 4, and a wait that is not met times out. -/
theorem stepOneAndTheWaits : Obligations.StepOneAndTheWaits := by
  unfold Obligations.StepOneAndTheWaits
  refine ⟨fun s op q d read fault => ⟨?_, fun unknown => headerFault_unknown unknown fault⟩,
    fun s r w data on waits ring nop atStepThree met legal neat => ?_, fun s r w on waits atStepThree unmet => ?_⟩
  · exact exec_row (State.readable_on read) rfl (State.unknownOpcode_malformed read fault)
  · subst ring
    have released := State.waitRelease_met (body := bodyOf data) waits met atStepThree (by rw [nop]; rfl)
    rw [nop] at released
    exact exec_row on rfl (released.trans (State.dealerCheck_nop legal neat))
  · exact exec_row on rfl (State.waitTimeout_unmet waits atStepThree unmet)

/-- Settles O58: by what is in front of the queue; idling is one lamp count outside OFF. -/
theorem stepTakesTheFrontCommand : Obligations.StepTakesTheFrontCommand := by
  unfold Obligations.StepTakesTheFrontCommand
  refine ⟨fun s c rest => step_cons rfl, fun s empty => ?_⟩
  rw [step_nil empty, State.idle]
  split
  · next off => rw [if_pos off]
  all_goals
    next on => rw [if_neg (by rw [on]; decide)]

end Sys2Proof.Machine
end

section
/-! SUPPORT. The placement of ticks (04 R78, R79). -/

namespace Sys2Proof.Machine

open Sys2Proof

theorem rateHz_bounds (rate : Nat) : 0 < rateHz rate ∧ rateHz rate ≤ 480 := by
  unfold rateHz
  split <;> decide

/-- Ticks of an epoch do not go back. -/
theorem tickAt_le_succ (e f m : Nat) : tickAt e f m ≤ tickAt e f (m + 1) :=
  Nat.add_le_add_left (Nat.div_le_div_right (Nat.mul_le_mul_right _ (Nat.le_succ m))) e

/-- Every tick of an epoch but the first lies after it. -/
theorem epoch_lt_tickAt_succ (e rate m : Nat) : e < tickAt e (rateHz rate) (m + 1) := by
  obtain ⟨positive, small⟩ := rateHz_bounds rate
  have long : rateHz rate ≤ (m + 1) * 100000000 := by omega
  exact Nat.lt_add_of_pos_right (Nat.div_pos long positive)

/-- The free-running generator's next tick is the next one of its epoch. -/
theorem State.nextTick_free {s : State} (placed : s.timing.lastTick = tickAt s.timing.epoch (rateHz s.timing.rate) s.timing.m)
    (free : s.timing.period = s.timing.freePeriod) :
    s.nextTick = tickAt s.timing.epoch (rateHz s.timing.rate) (s.timing.m + 1) := by
  rw [State.nextTick, placed, free, Timing.freePeriod, Nat.add_sub_cancel' (tickAt_le_succ _ _ _)]

/-- The free-running period does not depend on the period placed last. -/
theorem Timing.freePeriod_period (t : Timing) (p : Nat) : { t with period := p }.freePeriod = t.freePeriod := by
  simp only [Timing.freePeriod]

/-- A free-running generator as it is once the tick after this epoch's tick m is placed at `at0`. -/
def Timing.placed (at0 : Nat) (t : Timing) : Timing := { t with
  started := true, frame := (t.frame + 1) % 2 ^ 32, lastTick := at0, m := t.m + 1
  sample := 0, nextSample := 0, pastCut := false, fenced := false, pastHorizon := false }

/-- A started generator that follows neither SYNC_IN nor a partner places the next tick of its epoch where its period ends. -/
theorem State.placeTick_free {s : State} (started : s.timing.started = true) (free : s.follows = false)
    (own : s.partner.timing = none) (later : s.timing.epoch ≠ s.nextTick) :
    s.placeTick = (s.advanceTo s.nextTick).onTiming fun t => { t.placed s.nextTick with period := (t.placed s.nextTick).freePeriod } := by
  have follows : (s.advanceTo s.nextTick).follows = false := free
  unfold State.placeTick State.onTiming
  rw [own]
  simp only [started, if_true, follows, Timing.placePeriod, Bool.false_and, Bool.false_eq_true, if_false, State.advanceTo_timing,
    Bool.not_true, later, or_self]
  rfl

end Sys2Proof.Machine
end

section
/-! SUPPORT. SYNC_IN, SYNC_OUT and the end of a re-phase window (04 R83 to R85, R92; 13 R306). -/

namespace Sys2Proof.Machine

open Sys2Proof

theorem State.syncInEdge_other {s : State} {falling : Bool} (other : falling ≠ s.bit Reg.TICK_SYNC_CFG 2) :
    s.syncInEdge falling = s := if_pos (.inl other)

/-- An edge of the selected polarity reaches the follower, where there is one, and the matrix. -/
theorem State.syncInEdge_selected {s : State} {falling : Bool} (selected : falling = s.bit Reg.TICK_SYNC_CFG 2)
    (started : s.timing.started = true) : s.syncInEdge falling = (if s.follows then s.followEdge else s).matrixEdge :=
  if_neg (by simp [selected, started])

/-- A first edge in SEEK is noted. -/
theorem State.followEdge_first {s : State} (seek : s.timing.lock.state = 0) (first : s.timing.lock.lastEdge = none) :
    s.followEdge = s.onTiming fun t => { t with lock := { t.lock with lastEdge := some s.lamp, validRun := 0 } } := by
  unfold State.followEdge
  simp [seek, first]

/-- An edge before the loss of lock, whose interval lies within 0.1 % of DIV frames, is valid. -/
theorem State.followEdge_valid {s : State} {l : Nat} (inTime : s.lamp ≤ s.lockLimit) (last : s.timing.lock.lastEdge = some l)
    (long : 999 * (s.syncDiv * s.timing.period) ≤ 1000 * (s.lamp - l))
    (short : 1000 * (s.lamp - l) ≤ 1001 * (s.syncDiv * s.timing.period)) : s.followEdge = s.validEdge (s.lamp - l) := by
  unfold State.followEdge
  simp only [Nat.not_lt.2 inTime, decide_false, Bool.and_false, Bool.false_eq_true, if_false, last]
  exact if_pos ⟨long, short⟩

/-- A valid edge within LOCKED leaves it LOCKED, with its phase error to be corrected. -/
theorem State.validEdge_locked {s : State} (locked : s.timing.lock.state = 2) (interval : Nat) :
    s.validEdge interval = s.onTiming fun t => { t with lock := { t.lock with
      lastEdge := some s.lamp, validRun := min 8 (t.lock.validRun + 1), measured := interval / s.syncDiv
      inWindow := if s.phaseError.natAbs ≤ 100 then min 8 (t.lock.inWindow + 1) else 0
      err := s.phaseError, remaining := s.phaseError } } := by
  simp [State.validEdge, State.onTiming, locked, satAdd]

theorem State.syncLockLost_locked {s : State} (follows : s.follows = true) (locked : 1 ≤ s.timing.lock.state) :
    s.syncLockLost = (s.advanceTo s.lockLimit).loseLock := if_pos (by simp [follows, locked])

/-- With a Deal in force, the pulse of a tick due rises LEAD before it. -/
theorem State.syncOutPulse_rises {s : State} (deal : s.dev.state.dealtOrLater = true) (started : s.timing.started = true)
    (enabled : s.bit Reg.TICK_SYNC_CFG 8 = true) (low : s.timing.syncOut = false)
    (due : s.nextFrame % 2 ^ s.fld Reg.TICK_SYNC_CFG 10 9 = 0) :
    let x := s.advanceTo (s.nextTick - s.syncLead)
    s.syncOutPulse true = (x.onTiming fun t => { t with syncOut := true, syncOutAt := x.lamp }).emit (.syncOut true) := by
  unfold State.syncOutPulse
  simp [deal, started, enabled, low, due]

/-- A pulse falls after OUT_WIDTH, of at least 1 µs. -/
theorem State.syncOutPulse_falls {s : State} (high : s.timing.syncOut = true) :
    s.syncOutPulse false = ((s.advanceTo (s.timing.syncOutAt + usCounts (max 1 (s.fld Reg.TICK_SYNC_CFG 23 16)))).onTiming
      fun t => { t with syncOut := false }).emit (.syncOut false) := by
  unfold State.syncOutPulse
  simp [high]

theorem State.rephaseOver_open {s : State} {e : Nat} (window : s.timing.rephaseEnd = some e) :
    s.rephaseOver = (s.advanceTo e).onTiming fun t => { t with rephaseEnd := none } := by
  unfold State.rephaseOver
  rw [window]

end Sys2Proof.Machine
end

section
/-! SUPPORT. The feed port's lanes, packet errors, time stamps and LANE_EN, and the checked registers of the scalers (04 R87;
06 R143; 16 R367 to R372, R383). -/

namespace Sys2Proof.Machine

open Sys2Proof

/-! ### Fields of the registers -/

/-- A field of another register reads as before. -/
theorem State.fld_setFld_other (s : State) {off o : Nat} (other : o ≠ off) (hi lo v hi' lo' : Nat) :
    (s.setFld off hi lo v).fld o hi' lo' = s.fld o hi' lo' :=
  congrArg (fun w : Word => bitsOf w.toNat hi' lo') (State.reg_setReg_other s off _ other)

/-- A field apart from the one set reads as before. -/
theorem State.fld_setFld_apart (s : State) (off : Nat) {hi lo hi' lo' : Nat} (v : Nat) (fits : lo ≤ hi ∧ hi < 32) (order : lo' ≤ hi')
    (apart : hi < lo' ∨ hi' < lo) : (s.setFld off hi lo v).fld off hi' lo' = s.fld off hi' lo' := by
  rw [State.fld, State.setFld, State.reg_setReg]
  exact bitsOf_putBits_other _ _ _ _ _ _ fits.1 fits.2 order apart

/-! ### Lanes (R367, R368) -/

/-- The port is aligned once every enabled lane, and there is one, holds both locks within the skew. -/
theorem State.feedAligned_iff {s : State} {lane : Fin 4} (enabled : s.laneEn.testBit lane.val = true) :
    s.feedAligned = true ↔ s.feed.skew ≤ 64 ∧ ∀ i : Fin 4, s.laneEn.testBit i.val = true →
      s.feed.blockLock.getLsbD i.val = true ∧ s.feed.markerLock.getLsbD i.val = true := by
  have someLane : s.laneEn ≠ 0 := by
    intro none
    rw [none, Nat.zero_testBit] at enabled
    cases enabled
  simp only [State.feedAligned, bitAt, Bool.and_eq_true, decide_eq_true_eq, someLane, not_false_eq_true, ne_eq, true_and,
    List.all_eq_true, List.mem_range, Bool.or_eq_true, Bool.not_eq_true', ← Bool.not_eq_true, ← imp_iff_not_or, Fin.forall_iff]

/-- The feed port once a lane has taken its lock: marker lock, with the skew then measured, where it has block lock, or
block lock. -/
def Feed.lockedOn (lane : Fin 4) (marker : Bool) (skew : Nat) (f : Feed) : Feed :=
  if marker then { f with markerLock := f.markerLock ||| ((1#4 <<< lane.val) &&& f.blockLock), skew := skew % 128 }
  else { f with blockLock := f.blockLock ||| (1#4 <<< lane.val) }

/-- A lane that takes its lock brings the port UP or, where a lane is left that has not, takes it out of UP. -/
theorem State.feedLaneLock_enabled {s : State} {lane : Fin 4} (enabled : s.laneEn.testBit lane.val = true) (marker : Bool)
    (skew : Nat) :
    let x := s.onFeed (Feed.lockedOn lane marker skew)
    s.feedLaneLock lane marker skew = if x.feedAligned then x.onFeed fun f => { f with state := 2 } else x.feedLeaves lane.val := by
  unfold State.feedLaneLock Feed.lockedOn bitAt
  rw [enabled, if_neg (by decide)]
  cases marker <;> rfl

theorem State.feedLaneLost_enabled {s : State} {lane : Fin 4} (enabled : s.laneEn.testBit lane.val = true) (marker : Bool) :
    s.feedLaneLost lane marker = (s.feedLeaves lane.val).onFeed fun f => { f with
      markerLock := f.markerLock &&& ~~~(1#4 <<< lane.val)
      blockLock := if marker then f.blockLock else f.blockLock &&& ~~~(1#4 <<< lane.val) } := by
  unfold State.feedLaneLost bitAt
  rw [enabled]
  exact if_neg (by decide)

/-- A written LANE_EN that R368 permits and that differs from the one in force restarts alignment. -/
theorem State.writeFeedCfg_differs {s : State} {v : Nat} (differs : bitsOf v 3 0 ≠ s.laneEn)
    (permitted : bitsOf v 3 0 = 0 ∨ bitsOf v 3 0 = 1 ∨ bitsOf v 3 0 = 3 ∨ bitsOf v 3 0 = 15) :
    s.writeFeedCfg v = (((s.setFld Reg.FEED_CFG 9 8 (bitsOf v 9 8)).feedLeaves 0).setFld Reg.FEED_CFG 3 0 (bitsOf v 3 0)).onFeed
      fun f => { f with
        state := if bitsOf v 3 0 = 0 then 0 else 1, markerLock := 0, blockLock := f.blockLock &&& BitVec.ofNat 4 (bitsOf v 3 0) } := by
  have kept : (s.setFld Reg.FEED_CFG 9 8 (bitsOf v 9 8)).laneEn = s.laneEn :=
    State.fld_setFld_apart s _ _ (by decide) (by decide) (by decide)
  unfold State.writeFeedCfg
  dsimp only
  rw [kept]
  exact if_pos ⟨permitted, differs⟩

/-! ### Packets (R369, R372) -/

theorem State.feedPacketError_up {s : State} (up : s.feed.state = 2) (kind : PacketError) :
    s.feedPacketError kind = s.feedBad (decide (kind = .crc)) := if_pos (decide_eq_true up)

theorem State.feedUnknown_up {s : State} (up : s.feed.state = 2) {type : Byte} (notList : type ≠ 1) (notVideo : type ≠ 2)
    (notRequest : type ≠ 4) :
    s.feedUnknown type.toNat = (s.goodPacket.setFlag Reg.FEED_EVT 6).addSat Reg.FEED_DROP2 31 16 1 := by
  have code {k : Byte} (differs : type ≠ k) : type.toNat ≠ k.toNat := fun same => differs (BitVec.eq_of_toNat_eq same)
  have known : ¬(type.toNat = 1 ∨ type.toNat = 2 ∨ type.toNat = 4) := by
    rintro (one | two | four)
    · exact code notList one
    · exact code notVideo two
    · exact code notRequest four
  unfold State.feedUnknown State.feedUp
  rw [decide_eq_true up]
  exact if_neg (by simpa using known)

/-- A TS_REQUEST of 16 bytes, with the replies enabled and the last one launched, is answered; its reply is launched a free
time later (log 60). -/
theorem State.tsRequest_answered {s : State} {p : Bytes} (up : s.feed.state = 2) (whole : p.length = 16)
    (idle : s.timing.tsBusyUntil ≤ s.lamp) (enabled : s.bit Reg.FEED_CFG 8 = true) :
    let t2 := s.lamp + 2 ^ 64 - s.fld Reg.TICK_TS_LAT 7 0
    let t3 := s.lamp + s.free % 4900 + s.fld Reg.TICK_TS_LAT 15 8
    s.tsRequest p = (s.goodPacket.useFree.onTiming fun t => { t with tsBusyUntil := t3 }).emit
      (.feedPacket 5 (slice p 0 12 ++ zeros 4 ++ le 8 (t2 % 2 ^ 64) ++ le 8 (t3 % 2 ^ 64))) := by
  have counted {o : Nat} (other : o ≠ Reg.FEED_CNT) (hi lo : Nat) : s.goodPacket.fld o hi lo = s.fld o hi lo :=
    State.fld_setFld_other s other ..
  have enabled' : s.goodPacket.bit Reg.FEED_CFG 8 = true := by
    rw [State.bit, counted (by decide)]
    exact enabled
  have notBusy : ¬s.goodPacket.lamp < s.goodPacket.timing.tsBusyUntil := Nat.not_lt.2 idle
  unfold State.tsRequest State.feedUp
  dsimp only
  rw [decide_eq_true up, if_neg (by decide), if_neg (not_not.2 whole), if_neg notBusy, enabled', if_neg (by decide),
    counted (by decide), counted (by decide)]
  rfl

/-! ### The scalers' checked registers (06 R143) -/

theorem State.writeScalerCfg_checked {s : State} {k v : Nat} (ok : s.scalerCfgOk k v = true) : s.writeScalerCfg k v =
    s.writeFields (Reg.SCL_CFG k) [⟨1, 0, .rws, 1⟩, ⟨3, 2, .rws, 1⟩, ⟨11, 8, .rws, 2⟩, ⟨15, 12, .rws, 2⟩] v := if_pos ok

theorem State.writeScalerCfg_rejected {s : State} {k v : Nat} (bad : s.scalerCfgOk k v = false) :
    s.writeScalerCfg k v = s.setFlag (Reg.SCL_STAT k) 24 := if_neg (by rw [bad]; exact Bool.false_ne_true)

/-- TABLE_WR 1 is rejected while a slot claims a context of the scaler. -/
theorem State.writeTableWr_claimed {s : State} {k v : Nat} (there : (s.scalerEntry k).isSome = true) (set : bitAt v 0 = true)
    (claimed : s.claims k 1 ≠ []) : s.writeTableWr k v = s.setFlag (Reg.SCL_STAT k) 24 := by
  unfold State.writeTableWr
  rw [if_neg (by simp [Option.isSome_iff_ne_none.1 there]), if_pos (by simp [set, claimed])]

theorem State.writeTableWr_taken {s : State} {k v : Nat} (there : (s.scalerEntry k).isSome = true)
    (may : bitAt v 0 = false ∨ s.claims k 1 = []) : s.writeTableWr k v = s.setFld (Reg.SCL_TABLE_CTL k) 0 0 v := by
  unfold State.writeTableWr
  rw [if_neg (by simp [Option.isSome_iff_ne_none.1 there]), if_neg]
  rcases may with clear | unclaimed
  · simp [clear]
  · simp [unclaimed]

end Sys2Proof.Machine
end

section
/-! SUPPORT. The ends of admissions and retirements, and RETIME_ACK (04 R90; 09 R223, R224, R226; log 91). -/

namespace Sys2Proof.Machine

open Sys2Proof

/-- What hearing an event leaves of its port. -/
theorem State.heard_port (s : State) (n : TileId) (r : RecHdr) (e : EventBody) :
    (s.heard n r e).port n = { s.port n with
      lastRseq := some r.rseq.toNat, retAt := s.lamp, events := (e.id.toNat :: (s.port n).events).take 16 } := by
  rw [State.heard, State.port_onPort_self, State.received_port]

@[simp] theorem State.heard_admission (s : State) (n : TileId) (r : RecHdr) (e : EventBody) :
    ((s.heard n r e).port n).admission = (s.port n).admission := by rw [State.heard_port]
@[simp] theorem State.heard_retirement (s : State) (n : TileId) (r : RecHdr) (e : EventBody) :
    ((s.heard n r e).port n).retirement = (s.port n).retirement := by rw [State.heard_port]
@[simp] theorem State.heard_tracks (s : State) (n : TileId) (r : RecHdr) (e : EventBody) :
    ((s.heard n r e).port n).tracks = (s.port n).tracks := by rw [State.heard_port]
@[simp] theorem State.heard_timing (s : State) (n : TileId) (r : RecHdr) (e : EventBody) : (s.heard n r e).timing = s.timing := rfl

/-- A command whose event is heard. -/
theorem exec_event {s x : State} {n : TileId} {r : RecHdr} {e : EventBody} {i : Instr} {act : State → State} (hears : s.hears n e)
    (meaning : exec i s = finish (s.alive fun s => s.eventIn n r e act)) (effect : act (s.heard n r e) = x) :
    exec i s = .next (State.settle x) :=
  exec_row hears.1 meaning ((State.eventIn_hears hears r act).trans effect)

theorem State.admitAckIn_first {s : State} {n : TileId} {a : Admission} (runs : (s.port n).admission = some a)
    (first : a.acked = false) (e : EventBody) :
    s.admitAckIn n e = ((s.releases n e.relA e.relB e.relK).onPort n fun p => { p with
      admission := some { a with acked := true } }).sendFallbackSet n := by
  unfold State.admitAckIn
  rw [runs]
  exact if_neg (by rw [first]; exact Bool.false_ne_true)

/-- An admission ends 100 ms after it began. -/
theorem State.admitTimeout_running {s : State} {n : TileId} {a : Admission} (runs : (s.port n).admission = some a) :
    let ended := (s.advanceTo (a.since + 10000000)).onPort n fun p => { p with
      admission := none, tracks := p.tracks.filter (!·.admits) }
    s.admitTimeout n = match a.ref with
      | some ref => ended.completeWith ref .timeout
      | none => ended := by
  unfold State.admitTimeout
  rw [runs]
  rfl

/-- The retirement check of a port that has had RETIRE_ACK: the end, where every parcel is acknowledged or has failed. -/
theorem State.retireCheck_acked {s : State} {n : TileId} {r : Retirement} (runs : (s.port n).retirement = some r)
    (acked : r.stage = 4) :
    s.retireCheck n = if ∀ t ∈ (s.port n).tracks, t.acked = true ∨ t.failed = true then s.retireDone n 1 .ok else s := by
  unfold State.retireCheck
  rw [runs]
  simp only [acked, true_and, List.all_eq_true, Bool.or_eq_true]

/-- RETIRE_ACK of a retirement that has sent RETIRE: only the other parcels are waited for (log 91). -/
theorem State.retireAckIn_sent {s : State} {n : TileId} {r : Retirement} (runs : (s.port n).retirement = some r)
    (sent : 2 ≤ r.stage) :
    let x := s.onPort n fun p => { p with
      retirement := some { r with stage := 4 }, tracks := p.tracks.filter fun t => t.tn ≠ 6 }
    s.retireAckIn n = if ∀ t ∈ (s.port n).tracks, t.tn = 6 ∨ t.acked = true ∨ t.failed = true then x.retireDone n 1 .ok else x := by
  intro x
  have port : x.port n = { s.port n with
      retirement := some { r with stage := 4 }, tracks := (s.port n).tracks.filter fun t => t.tn ≠ 6 } :=
    State.port_onPort_self n _ s
  have others : (∀ t ∈ (x.port n).tracks, t.acked = true ∨ t.failed = true) ↔
      ∀ t ∈ (s.port n).tracks, t.tn = 6 ∨ t.acked = true ∨ t.failed = true := by
    simp only [port, List.mem_filter, decide_eq_true_eq, ne_eq, and_imp, imp_iff_not_or (a := ¬_), not_not]
  unfold State.retireAckIn
  rw [runs]
  dsimp only
  rw [if_pos sent]
  refine (State.retireCheck_acked (congrArg (·.retirement) port) rfl).trans ?_
  exact if_congr others rfl rfl

theorem State.retireTimeout_due {s : State} {n : TileId} {r : Retirement} (runs : (s.port n).retirement = some r)
    (long : 16 ≤ r.frames) : s.retireTimeout n = s.retireDone n 3 .timeout := by
  unfold State.retireTimeout
  rw [runs]
  exact if_pos long

theorem State.retimeAckIn_noticed {s : State} {n : TileId} {r : Retime} (runs : s.timing.retime = some r)
    (noticed : r.noticed.getLsbD n.val = true) (undecided : r.decided = none) :
    s.retimeAckIn n = s.onTiming fun t => { t with retime := some { r with acked := r.acked ||| (1#16 <<< n.val) } } := by
  unfold State.retimeAckIn State.onTiming
  simp [runs, noticed, undecided]

end Sys2Proof.Machine
end

section
/-! SUPPORT. Tile ends: one tile of the sixteen, what sending a record leaves of it, its ticks, the frame swap, the hold and the
measurements (04 R80, R91; 09 R198, R215, R216, R218; 10 R233 to R236; logs 27, 82, 84). -/

namespace Sys2Proof.Machine

open Sys2Proof

/-! ### One tile -/

theorem State.tile_onTile_self (n : TileId) (f : Tile → Tile) (s : State) : (s.onTile n f).tile n = f (s.tile n) := by
  simp [State.tile, vector_get_set]

/-- Two changes of a tile, one after the other, are one. -/
theorem State.onTile_onTile (n : TileId) (f g : Tile → Tile) (s : State) :
    (s.onTile n f).onTile n g = s.onTile n fun t => g (f t) := by
  simp [State.onTile, vector_get_set]

/-- A change of a tile is what it makes of the tile that is there. -/
theorem State.onTile_congr {n : TileId} {f g : Tile → Tile} {s : State} (h : f (s.tile n) = g (s.tile n)) :
    s.onTile n f = s.onTile n g := by
  have same : f (s.tiles.get n) = g (s.tiles.get n) := h
  rw [State.onTile, State.onTile, same]

/-! ### What a tick, and the records sent at it, leave of a tile -/

/-- The tile apart from what placing a tick and sending records change: its state, numbers and counts, its buffers, its frame and
its test. -/
def Tile.beyondTick (t : Tile) : Tile := { t with
  state := 0, rseq := 0, eventId := 0, holdCount := 0, frame := 0, test := none, swapDue := false
  segs := [], probes := [], close := none, dueSegs := [], dueProbes := [], dueClose := none }

/-- Nothing of tile `n` differs but what a tick and records change. -/
def KeepsTile (n : TileId) (s t : State) : Prop := (t.tile n).beyondTick = (s.tile n).beyondTick

theorem KeepsTile.refl (n : TileId) (s : State) : KeepsTile n s s := rfl
theorem KeepsTile.trans {n : TileId} {s t u : State} (h : KeepsTile n s t) (k : KeepsTile n t u) : KeepsTile n s u := Eq.trans k h
/-- A reading that does not look at what a tick changes is the same. -/
theorem KeepsTile.field {β : Type} (g : Tile → β) {n : TileId} {s t : State} (h : KeepsTile n s t)
    (hg : ∀ x : Tile, g x = g x.beyondTick := by intro _; rfl) : g (t.tile n) = g (s.tile n) := by
  rw [hg, h, ← hg]
theorem KeepsTile.each {α : Type} {n : TileId} {f : α → State → State} (h : ∀ a s, KeepsTile n s (f a s)) (l : List α) (s : State) :
    KeepsTile n s (forEach l f s) := forEach_keeps (fun s => (s.tile n).beyondTick) h l s
theorem keepsTile_onTile (n : TileId) (f : Tile → Tile) (s : State)
    (h : ∀ t, (f t).beyondTick = t.beyondTick := by intro _; rfl) : KeepsTile n s (s.onTile n f) := by
  rw [KeepsTile, State.tile_onTile_self, h]

theorem keepsTile_useFree (n : TileId) (s : State) : KeepsTile n s s.useFree := rfl

theorem keepsTile_tileSend (n : TileId) (out : Nat) (mk : RecHdr → Record) (s : State) : KeepsTile n s (s.tileSend n out mk) := by
  unfold State.tileSend
  dsimp only
  split
  · exact .refl n s
  · exact keepsTile_onTile n (fun t => { t with rseq := inc16 t.rseq }) s

theorem keepsTile_tileEvent (n : TileId) (out code arg value : Nat) (s : State) :
    KeepsTile n s (s.tileEvent n out code arg value) := by
  unfold State.tileEvent
  dsimp only
  refine .trans ?_ (keepsTile_onTile ..)
  exact .trans (.trans (keepsTile_tileSend ..) (keepsTile_tileSend ..)) (keepsTile_tileSend ..)

theorem keepsTile_tileStatus (n : TileId) (s : State) : KeepsTile n s (s.tileStatus n) :=
  .each (fun o => keepsTile_tileSend n o _) _ s

theorem keepsTile_setTile (n : TileId) (st : Nat) (s : State) : KeepsTile n s (s.setTile n st) := by
  unfold State.setTile
  split
  · exact .refl n s
  · exact (keepsTile_onTile ..).trans (keepsTile_tileStatus n _)

theorem keepsTile_tileHoldTick (n : TileId) (at0 : Nat) (s : State) : KeepsTile n s (s.tileHoldTick n at0) := by
  unfold State.tileHoldTick
  dsimp only
  split
  · exact .refl n s
  · split
    · exact (keepsTile_onTile ..).trans (keepsTile_setTile n 4 _)
    · exact keepsTile_onTile ..

/-- The buffer that filled becomes due, or the hold counts. -/
def State.bufferTick (n : TileId) (at0 : Nat) (s : State) : State := match (s.tile n).close with
  | some c => s.onTile n fun t => { t with dueSegs := t.segs, dueProbes := t.probes, dueClose := some c, swapDue := true }
  | none => s.tileHoldTick n at0

/-- The report of a lane's test that has ended. -/
def State.testResult (n : TileId) (x : Tile) (m : Nat) (l : TxLane) (s : State) : State :=
  if bitAt m (laneNum l) then (s.tileEvent n (x.outputOf l) 7 (laneNum l) s.free).useFree else s

/-- A tick of the link test that tile `x` had running: it goes on, or ends with a report for each of its lanes. -/
def State.testTick (n : TileId) (x : Tile) (s : State) : State := match x.test with
  | none => s
  | some (m, k) =>
    if 0 < k then s.onTile n fun t => { t with test := some (m, k - 1) }
    else forEach [TxLane.a, .b] (State.testResult n x m) (s.onTile n fun t => { t with test := none })

/-- The three parts of a tick. -/
theorem State.tileTick_eq (n : TileId) (frame at0 : Nat) (s : State) :
    s.tileTick n frame at0 = ((s.bufferTick n at0).onTile n fun t => { t with
      segs := [], probes := [], close := none, frame := frame % 2 ^ 32 }).testTick n (s.tile n) := rfl

theorem keepsTile_bufferTick (n : TileId) (at0 : Nat) (s : State) : KeepsTile n s (s.bufferTick n at0) := by
  unfold State.bufferTick
  split
  · exact keepsTile_onTile ..
  · exact keepsTile_tileHoldTick n at0 s

theorem keepsTile_testResult (n : TileId) (x : Tile) (m : Nat) (l : TxLane) (s : State) : KeepsTile n s (s.testResult n x m l) := by
  unfold State.testResult
  split
  · exact .trans (keepsTile_tileEvent ..) (keepsTile_useFree n _)
  · exact .refl n s

theorem keepsTile_testTick (n : TileId) (x : Tile) (s : State) : KeepsTile n s (s.testTick n x) := by
  unfold State.testTick
  split
  · exact .refl n s
  · split
    · exact keepsTile_onTile ..
    · exact .trans (keepsTile_onTile ..) (.each (keepsTile_testResult n x _) _ _)

theorem keepsTile_tileTick (n : TileId) (frame at0 : Nat) (s : State) : KeepsTile n s (s.tileTick n frame at0) := by
  rw [State.tileTick_eq]
  refine .trans ?_ (keepsTile_testTick n (s.tile n) _)
  exact .trans (keepsTile_bufferTick n at0 s) (keepsTile_onTile ..)

/-! ### TICK blocks and the flywheel (R198) -/

/-- The state once a TICK block's tick has come: where the flywheel placed it, it has come already. -/
def State.tickCome (n : TileId) (frame : Nat) (s : State) : State :=
  if (s.tile n).flew = true ∧ (s.tile n).frame = frame then s else s.tileTick n frame s.lamp

theorem keepsTile_tickCome (n : TileId) (frame : Nat) (s : State) : KeepsTile n s (s.tickCome n frame) := by
  unfold State.tickCome
  split
  · exact .refl n s
  · exact keepsTile_tileTick n frame s.lamp s

/-- The first TICK block of a frame re-aligns the tile, with the tick gap since the block before (log 84). -/
theorem State.tileTickBlock_first {s : State} {n : TileId} {l : TxLane} {frame : Nat} (on : (s.tile n).state ≠ 0)
    (locked : (s.tile n).lock l = true) (first : ∀ b, (s.tile n).block = some b → b.2 ≠ frame) (rate : Nat) (newRate : Bool) :
    let y := s.tickCome n frame
    s.tileTickBlock n l frame rate newRate = (y.onTile n fun t => { t with
      tickGap := (s.tile n).gapAt y.lamp frame rate, lastTick := y.lamp, block := some (y.lamp, frame), flew := false }).tileRate n
        frame rate newRate := by
  have new : ¬((s.tile n).block.any fun b => decide (b.2 = frame)) = true := by
    rw [Option.any_eq_true]
    rintro ⟨b, block, same⟩
    exact first b block (of_decide_eq_true same)
  have gap (lamp : Nat) : ((s.tickCome n frame).tile n).gapAt lamp frame rate = (s.tile n).gapAt lamp frame rate :=
    (keepsTile_tickCome n frame s).field fun x => x.gapAt lamp frame rate
  unfold State.tileTickBlock
  dsimp only
  rw [if_neg (by simp [on, locked, new])]
  refine congrArg (State.tileRate n frame rate newRate) (State.onTile_congr (s := s.tickCome n frame) ?_)
  rw [← gap]
  rfl

/-- The flywheel places the tick where it is expected, and no later than 2 µs after it. -/
theorem State.tileFlywheel_flies {s : State} {n : TileId} (on : (s.tile n).state ≠ 0) (gap : (s.tile n).tickGap ≠ 0) :
    let due := (s.tile n).lastTick + (s.tile n).tickGap
    s.tileFlywheel n = (State.tileTick n (((s.tile n).frame + 1) % 2 ^ 32) due (s.advanceTo (due + 200))).onTile n fun t => { t with
      lastTick := due, flew := true } := by
  intro due
  have kept := keepsTile_tileTick n (((s.tile n).frame + 1) % 2 ^ 32) due (s.advanceTo (due + 200))
  let flown := (State.tileTick n (((s.tile n).frame + 1) % 2 ^ 32) due (s.advanceTo (due + 200))).tile n
  have placed : flown.lastTick + flown.tickGap = due := kept.field fun x => x.lastTick + x.tickGap
  unfold State.tileFlywheel
  dsimp only
  rw [if_neg (by simp [on, gap])]
  exact State.onTile_congr (congrArg (fun at0 => ({ flown with lastTick := at0, flew := true } : Tile)) placed)

/-! ### The frame swap (R215; 04 R91) -/

theorem Tile.rephasing_iff (t : Tile) (lamp : Nat) : t.rephasing lamp = true ↔ ∃ e, t.rephaseEnd = some e ∧ lamp < e := by
  simp [Tile.rephasing, Option.any_eq_true]

/-- Subframe 0 begins PHASE_SLOT sixty-fourths of the period after the tick (04 R80). -/
theorem State.subframeAt_zero {s : State} {n : TileId} {g : TileCfg} (cfg : (s.tile n).cfg = some g) :
    s.subframeAt n 0 = (s.tile n).lastTick + g.phaseSlot * s.tilePeriod n / 64 := by
  simp [State.subframeAt, cfg]

/-- The lamp time at which the tile swaps frames. -/
def State.swapAt (s : State) (n : TileId) : Nat := max s.lamp (s.subframeAt n 0)

theorem State.swapAt_eq {s : State} {n : TileId} {g : TileCfg} (cfg : (s.tile n).cfg = some g) :
    s.swapAt n = max s.lamp ((s.tile n).lastTick + g.phaseSlot * s.tilePeriod n / 64) := by
  rw [State.swapAt, State.subframeAt_zero cfg]

/-- The tile as subframe 0 finds it outside a re-phase. -/
def Tile.idle (t : Tile) : Tile := { t with sensorIndex := 0, probed := [], rephaseEnd := none }

/-- Inside a re-phase what is due is discarded. -/
theorem State.tileFrameSwap_rephasing {s : State} {n : TileId} {g : TileCfg} {now : Nat} (cfg : (s.tile n).cfg = some g)
    (on : (s.tile n).state ≠ 0) (swap : s.swapAt n = now) (busy : ∃ e, (s.tile n).rephaseEnd = some e ∧ now < e) :
    s.tileFrameSwap n = State.tileStatus n { s with
      lamp := now, tiles := s.tiles.set n ({ s.tile n with sensorIndex := 0 }).dropDue } := by
  subst swap
  have busy' : (s.tile n).rephasing (s.advanceTo (s.subframeAt n 0)).lamp = true := ((s.tile n).rephasing_iff _).2 busy
  unfold State.tileFrameSwap
  dsimp only
  rw [if_neg (by simp [cfg, on]), busy']
  simp only [if_true, State.onTile_onTile]
  rfl

/-- Outside a re-phase the tile is idle until the frame due, if any, is loaded. -/
theorem State.tileFrameSwap_free {s : State} {n : TileId} {g : TileCfg} {now : Nat} (cfg : (s.tile n).cfg = some g)
    (on : (s.tile n).state ≠ 0) (swap : s.swapAt n = now) (free : ¬∃ e, (s.tile n).rephaseEnd = some e ∧ now < e) :
    let x := State.onTile n Tile.idle { s with lamp := now }
    s.tileFrameSwap n = State.tileStatus n (match (s.tile n).dueClose with
      | some c => if (s.tile n).swapDue && (s.tile n).admitted then x.tileLoad n c else x.tileHoldExpiry n
      | none => x.tileHoldExpiry n) := by
  subst swap
  have free' : (s.tile n).rephasing (s.advanceTo (s.subframeAt n 0)).lamp = false :=
    Bool.eq_false_iff.2 fun busy => free (((s.tile n).rephasing_iff _).1 busy)
  unfold State.tileFrameSwap
  dsimp only
  rw [if_neg (by simp [cfg, on]), free']
  simp only [Bool.false_eq_true, if_false, State.onTile_onTile]
  rfl

/-- Without a frame due the hold may expire. -/
theorem State.tileFrameSwap_holds {s : State} {n : TileId} {g : TileCfg} {now : Nat} (cfg : (s.tile n).cfg = some g)
    (on : (s.tile n).state ≠ 0) (swap : s.swapAt n = now) (free : ¬∃ e, (s.tile n).rephaseEnd = some e ∧ now < e)
    (nothing : (s.tile n).dueClose = none ∨ (s.tile n).swapDue = false ∨ (s.tile n).admitted = false) :
    s.tileFrameSwap n = State.tileStatus n (State.tileHoldExpiry n
      { s with lamp := now, tiles := s.tiles.set n (s.tile n).idle }) := by
  rw [State.tileFrameSwap_free cfg on swap free]
  refine congrArg (State.tileStatus n) ?_
  split
  next c due => exact if_neg (by simpa [due, ← Bool.not_eq_true, imp_iff_not_or] using nothing)
  next => rfl

/-- The tile once a frame is loaded, with the limits that its serial number gives it (R215; log 27). -/
def Tile.load (c : CloseBody) (serial : Nat) (t : Tile) : Tile :=
  let base := { t with
    swapDue := false, shown := c.frame, iRef := min c.iRef (Config.tileIRefLimit serial), vHr := min c.vHr (Config.tileVHrLimit serial) }
  let shown := if c.dark then { base with latches := [], loaded := 0, kept := 0, fired := 0, state := 2 }
    else { (if c.showFallback then base.loadPattern else base.loadLines c) with holdCount := 0, state := 3 }
  { shown with dueSegs := [], dueProbes := [], dueClose := none }

theorem State.tileLoad_eq (n : TileId) (c : CloseBody) (s : State) :
    s.tileLoad n c = s.onTile n fun t => t.load c ((t.made.map (·.serial.toNat)).getD 0) := rfl

/-- A frame due is loaded. -/
theorem State.tileFrameSwap_loads {s : State} {n : TileId} {g : TileCfg} {c : CloseBody} {m : TileMaker} {now : Nat}
    (cfg : (s.tile n).cfg = some g) (on : (s.tile n).state ≠ 0) (swap : s.swapAt n = now)
    (free : ¬∃ e, (s.tile n).rephaseEnd = some e ∧ now < e) (due : (s.tile n).dueClose = some c) (made : (s.tile n).made = some m)
    (swapDue : (s.tile n).swapDue = true) (admitted : (s.tile n).admitted = true) :
    s.tileFrameSwap n = State.tileStatus n
      { s with lamp := now, tiles := s.tiles.set n ((s.tile n).idle.load c m.serial.toNat) } := by
  have serial : (((s.tile n).idle.made.map (·.serial.toNat)).getD 0) = m.serial.toNat := by
    rw [show (s.tile n).idle.made = some m from made]
    rfl
  rw [State.tileFrameSwap_free cfg on swap free, due, swapDue, admitted]
  dsimp only
  rw [if_pos (by decide), State.tileLoad_eq, State.onTile_onTile, ← serial]
  rfl

/-! ### The hold (R216) -/

/-- A hold that is too long ends in FALLBACK. -/
theorem State.tileHoldExpiry_lit {s : State} {n : TileId} {g : TileCfg} (cfg : (s.tile n).cfg = some g)
    (long : g.holdFrames < (s.tile n).holdCount) (lit : (s.tile n).state = 3 ∨ (s.tile n).state = 4) :
    s.tileHoldExpiry n = (s.onTile n Tile.loadPattern).setTile n 5 := by
  unfold State.tileHoldExpiry
  exact if_pos (by simp [cfg, long, lit])

/-- In TRAINING a hold that runs on loads the pattern alone. -/
theorem State.tileHoldExpiry_training {s : State} {n : TileId} {g : TileCfg} (cfg : (s.tile n).cfg = some g)
    (long : g.holdFrames < (s.tile n).holdCount) (training : (s.tile n).state = 1) (holds : (s.tile n).holdRuns = true) :
    s.tileHoldExpiry n = s.onTile n Tile.loadPattern := by
  unfold State.tileHoldExpiry
  simp [cfg, long, training, holds]

/-! ### The measurements of a frame (10 R233 to R236) -/

/-- The codes of the scan record that begins at column 48 i of a line. -/
def State.scanCodes (s : State) (n : TileId) (m : TileMaker) (meas : List PixelMeas) (y i : Nat) : Bytes :=
  (List.range (min 48 ((s.tile n).width - 48 * i))).map fun j => BitVec.ofNat 8 (s.scanCode n m meas (48 * i + j) y)

/-- An admitted tile without a fired probe sends the records of its scan lines, on each of its outputs. -/
theorem State.tileSubframeStart_unprobed {s : State} {n : TileId} {m : TileMaker} (made : (s.tile n).made = some m)
    (admitted : (s.tile n).admitted = true) (unprobed : (s.tile n).probed = []) (meas : List PixelMeas) :
    let lines := (List.range (s.tile n).height).filter fun y => y % 64 = (s.tile n).frame % 64
    s.tileSubframeStart n meas = { forEach lines (fun y t => forEach (List.range (ceilDiv (s.tile n).width 48)) (fun i t =>
      forEach (s.tile n).outputs (fun o t => t.tileSend n o fun h => .vf h ⟨b16 y, b16 (48 * i), false, s.scanCodes n m meas y i⟩) t) t) s with
      freeSeq := s.freeSeq + 2 ^ 21 } := by
  unfold State.tileSubframeStart
  dsimp only
  rw [made]
  dsimp only
  rw [admitted, if_neg (by decide), unprobed]
  rfl

end Sys2Proof.Machine
end

section
/-! PROOFS. The statements of the timing chapter that are settled: O33, O35, O38, O42, O47. -/

namespace Sys2Proof.Machine

open Sys2Proof

/-- Settles O33: the next tick is the next one of the epoch, and lies after the epoch, so the count of ticks goes on. -/
theorem freeRunningTicksDoNotDrift : Obligations.FreeRunningTicksDoNotDrift := by
  unfold Obligations.FreeRunningTicksDoNotDrift
  intro s started free own placed period inFrame _
  have next : s.nextTick = tickAt s.timing.epoch (rateHz s.timing.rate) (s.timing.m + 1) := State.nextTick_free placed period
  have later : s.timing.epoch ≠ s.nextTick := by
    rw [next]
    exact (epoch_lt_tickAt_succ _ _ _).ne
  rw [State.placeTick_free started free own later]
  exact ⟨next, Nat.max_eq_right inFrame, next, (Timing.freePeriod_period _ _).symm, rfl, rfl, rfl, rfl, rfl⟩

/-- Settles O35: each row is its operation, whose conditions hold, followed by what every command brings. -/
theorem syncInAndOut : Obligations.SyncInAndOut := by
  unfold Obligations.SyncInAndOut
  refine fun s on => ⟨fun falling other => ?_, fun falling selected started => ⟨fun free => ?_, fun follows seek first => ?_,
    fun l follows locked last inTime long short => ?_⟩, fun follows locked => ?_, fun deal started enabled low due => ?_,
    fun high => ?_, fun e window => ?_⟩
  · exact exec_row on rfl (State.syncInEdge_other other)
  · refine exec_row on rfl ((State.syncInEdge_selected selected started).trans ?_)
    rw [free, if_neg Bool.false_ne_true]
  · refine exec_row on rfl ((State.syncInEdge_selected selected started).trans ?_)
    rw [if_pos follows, State.followEdge_first seek first]
    rfl
  · refine exec_row on rfl ((State.syncInEdge_selected selected started).trans ?_)
    rw [if_pos follows, State.followEdge_valid inTime last long short, State.validEdge_locked locked]
    rfl
  · exact exec_row on rfl (State.syncLockLost_locked follows locked)
  · exact exec_row on rfl (State.syncOutPulse_rises deal started enabled low due)
  · refine exec_row on rfl ((State.syncOutPulse_falls high).trans ?_)
    rw [usCounts, Nat.mul_comm]
    rfl
  · exact exec_row on rfl (State.rephaseOver_open window)

/-- Settles O38: each row is its operation, whose conditions hold, followed by what every command brings. -/
theorem feedPortRows : Obligations.FeedPortRows := by
  unfold Obligations.FeedPortRows
  refine fun s on => ⟨fun lane marker skew enabled => ⟨?_, ?_⟩, fun up => ⟨?_, ?_, fun type notList notVideo notRequest => ?_,
    fun p whole idle replies => ?_⟩, fun m value serves permitted differs => ?_, fun m k value serves => ⟨fun ok => ?_, fun bad => ?_⟩,
    fun m k value serves there => ⟨fun set claimed => ?_, fun may => ?_⟩⟩
  · refine exec_row on rfl ((State.feedLaneLock_enabled enabled marker skew).trans ?_)
    exact if_congr (State.feedAligned_iff (s := s.onFeed (Feed.lockedOn lane marker skew)) enabled) rfl rfl
  · exact exec_row on rfl (State.feedLaneLost_enabled enabled marker)
  · exact exec_row on rfl (State.feedPacketError_up up .crc)
  · exact exec_row on rfl (State.feedPacketError_up up .format)
  · exact exec_row on rfl (State.feedUnknown_up up notList notVideo notRequest)
  · exact exec_row on rfl (State.tsRequest_answered up whole idle replies)
  · exact exec_row on rfl ((State.write_FEED_CFG serves _).trans (State.writeFeedCfg_differs differs permitted))
  · exact exec_row on rfl ((State.write_SCL_CFG k serves _).trans (State.writeScalerCfg_checked ok))
  · exact exec_row on rfl ((State.write_SCL_CFG k serves _).trans (State.writeScalerCfg_rejected bad))
  · exact exec_row on rfl ((State.write_SCL_TABLE_CTL k serves _).trans (State.writeTableWr_claimed there set claimed))
  · exact exec_row on rfl ((State.write_SCL_TABLE_CTL k serves _).trans (State.writeTableWr_taken there may))

/-- Settles O42: an event that is heard acts on a port whose job is the one that it found, and each limit ends its job. -/
theorem admissionsAndRetirementsEnd : Obligations.AdmissionsAndRetirementsEnd := by
  unfold Obligations.AdmissionsAndRetirementsEnd
  refine fun s n => ⟨fun h e a hears runs first => ?_, fun h e r hears runs sent => ?_, fun h e r hears runs noticed undecided => ?_,
    fun a on runs => ?_, fun r on runs long => ?_⟩
  · exact exec_event hears rfl (State.admitAckIn_first ((s.heard_admission n h e).trans runs) first e)
  · refine exec_event hears rfl ((State.retireAckIn_sent ((s.heard_retirement n h e).trans runs) sent).trans ?_)
    rw [State.heard_tracks]
  · exact exec_event hears rfl (State.retimeAckIn_noticed (s := s.heard n h e) runs noticed undecided)
  · exact exec_row on rfl (State.admitTimeout_running runs)
  · exact exec_row on rfl (State.retireTimeout_due runs long)

/-- Settles O47: a tick leaves the tile's last block, rate and tick gap, and each row is its operation, whose conditions hold. -/
theorem tileTicksAndFrames : Obligations.TileTicksAndFrames := by
  unfold Obligations.TileTicksAndFrames
  refine fun s n => ⟨fun l frame rate newRate on locked first => ?_, fun on gap => ?_,
    fun g cfg on => ⟨fun busy => ?_, fun free nothing => ?_, fun c m due made swapDue admitted free => ?_⟩,
    fun g cfg long => ⟨fun lit => ?_, fun training holds => ?_⟩, fun m meas made admitted unprobed => ?_⟩
  · exact congrArg finish (State.tileTickBlock_first on locked first rate newRate)
  · exact congrArg finish (State.tileFlywheel_flies on gap)
  · exact congrArg finish (State.tileFrameSwap_rephasing cfg on (State.swapAt_eq cfg) busy)
  · exact congrArg finish (State.tileFrameSwap_holds cfg on (State.swapAt_eq cfg) free nothing)
  · exact congrArg finish (State.tileFrameSwap_loads cfg on (State.swapAt_eq cfg) free due made swapDue admitted)
  · exact congrArg finish (State.tileHoldExpiry_lit cfg long lit)
  · exact congrArg finish (State.tileHoldExpiry_training cfg long training holds)
  · exact congrArg finish (State.tileSubframeStart_unprobed made admitted unprobed meas)

end Sys2Proof.Machine
end

section
/-! SUPPORT. A line of a churn, the end of a skim setup, the checks of a calibration load, and OBJECT_LIST (05 R96, R115, R126;
06 R134; 07 R149, R152, R167; 08 R183). -/

namespace Sys2Proof.Machine

open Sys2Proof

/-! ### CHURN_LINE (05 R96, R115) -/

/-- The line that a churn composes next. -/
def Churn.nextLine (c : Churn) : Nat := match c.line with
  | some l => l + 1
  | none => 0

/-- The next line of a composing churn, at its start: a drained churn sends it as REPEAT before any of its data is read, any other
churn once its faults are noted. -/
theorem State.churnLine_next {s : State} {n : TileId} {y : Nat} (composing : (s.churn n).composing = true)
    (beforeCut : s.timing.pastCut = false) (next : y = (s.churn n).nextLine) (inside : y < (s.tileEntry n).height) (env : LineEnv) :
    let due := s.advanceTo (s.lineStart n y)
    let causes := due.repeatCauses n y env
    let seen := (due.lineFaults n y env).trumpLineCheck n y env
    s.churnLine n y env =
      if (s.churn n).drained then (due.repeatLine n y 0 0).lineDone n y
      else if causes.1 ≠ 0 then (seen.repeatLine n y causes.1 causes.2).lineDone n y
      else (seen.composeLine n y env).lineDone n y := by
  intro due causes seen
  have acts : ¬(!(s.churn n).composing || s.timing.pastCut || decide (y ≠ (s.churn n).nextLine) ||
      decide ((s.tileEntry n).height ≤ y)) = true := by
    simp [composing, beforeCut, ← next, inside]
  refine (if_neg acts).trans (if_congr Iff.rfl rfl ?_)
  exact apply_ite (State.lineDone n y) ..

/-! ### SKIM_SETUP_DONE (07 R167) -/

/-- What is done for each member of a list, and does nothing for any, leaves the state as it is. -/
theorem forEach_idle {α : Type} {f : α → State → State} (idle : ∀ a s, f a s = s) (l : List α) (s : State) : forEach l f s = s :=
  forEach_keeps id idle l s

/-- An uncorrectable table read abandons the setup. -/
theorem State.setupDone_ecc {s : State} {u : SkimSetup} (found : s.skim.setup = some u) (running : u.done = false) (counts : Nat) :
    s.setupDone counts true =
      (((((s.advanceTo (u.begun + counts)).setFld Reg.SKM_SETUP 15 0 (min 65535 counts)).onSkim fun k => { k with
        setup := some { u with done := true, abandoned := true } }).setFlag Reg.SKM_EVT 8).raise 7 3).raise 36 0 := by
  unfold State.setupDone
  rw [found]
  dsimp only
  rw [running, if_neg Bool.false_ne_true, if_pos rfl]

/-- A setup whose tiles have nothing to report ends without an event. -/
theorem State.setupDone_clean {s : State} {u : SkimSetup} (found : s.skim.setup = some u) (running : u.done = false)
    (clean : ∀ n : TileId, (u.tiles.get n).outOfField = false ∧ (u.tiles.get n).merged = false) (counts : Nat) :
    s.setupDone counts false =
      ((s.advanceTo (u.begun + counts)).setFld Reg.SKM_SETUP 15 0 (min 65535 counts)).onSkim fun k => { k with
        setup := some { u with done := true } } := by
  unfold State.setupDone
  rw [found]
  dsimp only
  rw [running, if_neg Bool.false_ne_true, if_neg Bool.false_ne_true]
  refine forEach_idle (fun n x => ?_) ..
  obtain ⟨inField, unmerged⟩ := clean n
  rw [inField, unmerged]
  rfl

/-! ### CAL_CHECKS_COMPLETE (06 R134, 08 R183) -/

/-- The checks of an image that reads without error: a good one is ready to enter, a bad one ends the load INVALID. -/
theorem State.calChecksDone_readable {s : State} {n : TileId} {j : CalJob} (loads : (s.phot n).calJob = some j)
    (unchecked : j.table = none) (readable : s.dramGood j.addr j.len = true) :
    let h := s.dramRead j.addr 64
    s.calChecksDone n =
      if s.calContentOk (s.tileEntry n) j.addr j.len = true then
        s.onPhot n fun p => { p with calJob := some { j with table := some ⟨j.addr, j.len, rd h 10 1, rd h 12 4⟩ } }
      else (s.onPhot n fun p => { p with calJob := none }).complete j.ref .invalid 16 0 := by
  unfold State.calChecksDone
  rw [loads]
  dsimp only
  rw [unchecked, readable, if_neg (by decide), if_pos rfl]

/-! ### OBJECT_LIST (07 R149, R152) -/

theorem State.objectList_badLength {s : State} {p : Bytes} (up : s.feed.state = 2)
    (bad : p.length < 16 ∨ p.length ≠ 16 + 64 * rd p 6 1) : s.objectList p = s.goodPacket.feedBad false := by
  unfold State.objectList State.feedUp
  rw [decide_eq_true up, if_neg (by decide)]
  exact if_pos bad

theorem State.objectList_goodLength {s : State} {p : Bytes} (up : s.feed.state = 2) (header : 16 ≤ p.length)
    (records : p.length = 16 + 64 * rd p 6 1) : s.objectList p = s.goodPacket.skimPacket s.nextCut p := by
  unfold State.objectList State.feedUp
  rw [decide_eq_true up, if_neg (by decide)]
  exact if_neg (by omega)

/-- The assembly of a list that packet `p` alone makes up. -/
def SkimAsm.single (p : Bytes) : SkimAsm := ⟨rd p 0 2, 1, rd p 4 2, false, [(0, p)]⟩

/-- Where no list is in assembly, to drop the one in assembly changes nothing. -/
theorem Skim.dropAsm_idle {k : Skim} (idle : k.asm = none) : { k with asm := none } = k := by
  rw [← idle]

/-- A packet that is a whole list is judged at once, and leaves no list in assembly. -/
theorem State.skimPacket_single {s : State} {p : Bytes} (idle : s.skim.asm = none) (one : rd p 3 1 = 1) (first : rd p 2 1 = 0)
    (cut : Nat) :
    s.skimPacket cut p =
      if (SkimAsm.single p).valid cut then
        s.onSkim fun k => { k with done := k.done ++ [⟨rd p 0 2, (SkimAsm.single p).records⟩] }
      else s.badList := by
  have dropped : (s.onSkim fun k => { k with asm := none }) = s :=
    congrArg (fun k => { s with skim := k }) (Skim.dropAsm_idle idle)
  have agrees : ¬(1 ≤ 0 ∨ 1 ≠ 1 ∨ rd p 4 2 ≠ rd p 4 2) := by simp
  have new : ¬(Sparse.find? ([] : List (Nat × Bytes)) 0).isSome = true := Bool.false_ne_true
  have whole : ¬(Sparse.put 0 p []).length < 1 := Nat.lt_irrefl 1
  unfold State.skimPacket
  rw [idle]
  dsimp only
  rw [idle]
  dsimp only
  rw [one, first, if_neg Bool.false_ne_true, if_neg agrees, if_neg new, if_neg whole, dropped]
  rfl

end Sys2Proof.Machine
end

section
/-! PROOFS. The statement of the layers chapter that is settled: O36. -/

namespace Sys2Proof.Machine

open Sys2Proof

/-- Settles O36: each row is its operation, whose conditions hold, followed by what every command brings. -/
theorem linesSetupsAndTables : Obligations.LinesSetupsAndTables := by
  unfold Obligations.LinesSetupsAndTables
  refine fun s on => ⟨fun n y env composing beforeCut next inside => ?_, fun u counts found running => ⟨?_, fun clean => ?_⟩,
    fun n j loads unchecked readable => ?_, fun p up => ⟨fun bad => ?_, fun header records idle one first => ⟨fun valid => ?_,
    fun invalid => ?_⟩⟩⟩
  · exact exec_row on rfl (State.churnLine_next composing beforeCut next inside env)
  · exact exec_row on rfl (State.setupDone_ecc found running counts)
  · exact exec_row on rfl (State.setupDone_clean found running clean counts)
  · exact exec_row on rfl (State.calChecksDone_readable loads unchecked readable)
  · exact exec_row on rfl (State.objectList_badLength up bad)
  · refine exec_row on rfl ((State.objectList_goodLength up header records).trans ?_)
    exact (State.skimPacket_single (s := s.goodPacket) idle one first _).trans (if_pos valid)
  · refine exec_row on rfl ((State.objectList_goodLength up header records).trans ?_)
    exact (State.skimPacket_single (s := s.goodPacket) idle one first _).trans (if_neg (Bool.eq_false_iff.1 invalid))

end Sys2Proof.Machine
end

section
/-! SUPPORT. Copies of parcels at a tile end (09 R202 to R206, R209, R210, R213, R217, R218, R228 to R230; 14 R330): what a good copy
counts, what the first of its SEQ does, and what a bad one answers. -/

namespace Sys2Proof.Machine

open Sys2Proof

/-! ### The tile after a good copy -/

/-- The state with another tile end at port `n`. -/
def State.withTile (n : TileId) (y : Tile) (s : State) : State := { s with tiles := s.tiles.set n y }

theorem State.onTile_eq (n : TileId) (f : Tile → Tile) (s : State) : s.onTile n f = s.withTile n (f (s.tile n)) := rfl
@[simp] theorem State.tile_withTile (n : TileId) (y : Tile) (s : State) : (s.withTile n y).tile n = y :=
  State.tile_onTile_self n (fun _ => y) s
@[simp] theorem State.onTile_withTile (n : TileId) (f : Tile → Tile) (y : Tile) (s : State) :
    (s.withTile n y).onTile n f = s.withTile n (f y) := State.onTile_onTile n (fun _ => y) f s

/-- The tile once a good copy has counted on its lane and released a credit of the pool it took (09 R209, R210). -/
def Tile.counted (l : TxLane) (p : Parcel) (t : Tile) : Tile :=
  let t := t.setRx l ((t.rx l + 1) % 65536)
  if p.kitty then t.releaseKitty l else t.releaseLane l 1

/-- The tile once the first good copy of a SEQ has also entered the window of 512 (09 R213). -/
def Tile.fresh (l : TxLane) (p : Parcel) (t : Tile) : Tile :=
  { t.counted l p with window := (p.seq.toNat :: t.window).take 512 }

/-- The credits that an ADMIT on a lane grants: its lane's in a pair, else both lanes' (09 R223; 14 R330). -/
def Tile.granted (l : TxLane) (t : Tile) : Tile :=
  if t.paired then t.releaseLane l 64 else (t.releaseLane .a 64).releaseLane .b 64

/-- The tile apart from its counts of copies and releases, and its window. -/
def Tile.uncopied (t : Tile) : Tile := { t with rxA := 0, rxB := 0, relA := 0, relB := 0, relK := 0, relK2 := 0, window := [] }

theorem Tile.uncopied_setRx (l : TxLane) (v : Nat) (t : Tile) : (t.setRx l v).uncopied = t.uncopied := by cases l <;> rfl
theorem Tile.uncopied_releaseLane (l : TxLane) (k : Nat) (t : Tile) : (t.releaseLane l k).uncopied = t.uncopied := by cases l <;> rfl
theorem Tile.uncopied_releaseKitty (l : TxLane) (t : Tile) : (t.releaseKitty l).uncopied = t.uncopied := by
  unfold Tile.releaseKitty
  split <;> rfl

theorem Tile.uncopied_counted (l : TxLane) (p : Parcel) (t : Tile) : (t.counted l p).uncopied = t.uncopied := by
  unfold Tile.counted
  dsimp only
  split
  · rw [Tile.uncopied_releaseKitty, Tile.uncopied_setRx]
  · rw [Tile.uncopied_releaseLane, Tile.uncopied_setRx]

theorem Tile.uncopied_fresh (l : TxLane) (p : Parcel) (t : Tile) : (t.fresh l p).uncopied = t.uncopied := t.uncopied_counted l p

theorem Tile.uncopied_granted (l : TxLane) (t : Tile) : (t.granted l).uncopied = t.uncopied := by
  unfold Tile.granted
  split
  · exact Tile.uncopied_releaseLane ..
  · rw [Tile.uncopied_releaseLane, Tile.uncopied_releaseLane]

/-- A reading that does not look at the counts is the same. -/
theorem Tile.uncopied_field {β : Type} (g : Tile → β) {t u : Tile} (h : u.uncopied = t.uncopied)
    (hg : ∀ x : Tile, g x = g x.uncopied := by intro _; rfl) : g u = g t := by
  rw [hg, h, ← hg]

@[simp] theorem Tile.setRx_window (l : TxLane) (v : Nat) (t : Tile) : (t.setRx l v).window = t.window := by cases l <;> rfl
@[simp] theorem Tile.releaseLane_window (l : TxLane) (k : Nat) (t : Tile) : (t.releaseLane l k).window = t.window := by cases l <;> rfl
@[simp] theorem Tile.releaseKitty_window (l : TxLane) (t : Tile) : (t.releaseKitty l).window = t.window := by
  unfold Tile.releaseKitty
  split <;> rfl

/-- Counting a copy leaves the window, which tells whether its SEQ is new. -/
@[simp] theorem Tile.counted_window (l : TxLane) (p : Parcel) (t : Tile) : (t.counted l p).window = t.window := by
  unfold Tile.counted
  dsimp only
  split
  · rw [Tile.releaseKitty_window, Tile.setRx_window]
  · rw [Tile.releaseLane_window, Tile.setRx_window]

section
variable (l : TxLane) (p : Parcel) (t : Tile)

@[simp] theorem Tile.counted_dup : (t.counted l p).dup = t.dup := Tile.uncopied_field (·.dup) (t.uncopied_counted l p) fun _ => rfl
@[simp] theorem Tile.fresh_state : (t.fresh l p).state = t.state := Tile.uncopied_field (·.state) (t.uncopied_fresh l p) fun _ => rfl
@[simp] theorem Tile.fresh_frame : (t.fresh l p).frame = t.frame := Tile.uncopied_field (·.frame) (t.uncopied_fresh l p) fun _ => rfl
@[simp] theorem Tile.fresh_stale : (t.fresh l p).stale = t.stale := Tile.uncopied_field (·.stale) (t.uncopied_fresh l p) fun _ => rfl
@[simp] theorem Tile.fresh_admitted : (t.fresh l p).admitted = t.admitted :=
  Tile.uncopied_field (·.admitted) (t.uncopied_fresh l p) fun _ => rfl
@[simp] theorem Tile.fresh_adm : (t.fresh l p).adm = t.adm := Tile.uncopied_field (·.adm) (t.uncopied_fresh l p) fun _ => rfl
@[simp] theorem Tile.fresh_lanesOf (k : TxLane) : (t.fresh l p).lanesOf k = t.lanesOf k :=
  Tile.uncopied_field (·.lanesOf k) (t.uncopied_fresh l p) fun _ => rfl
@[simp] theorem Tile.fresh_outputOf (k : TxLane) : (t.fresh l p).outputOf k = t.outputOf k :=
  Tile.uncopied_field (·.outputOf k) (t.uncopied_fresh l p) fun _ => rfl
@[simp] theorem Tile.fresh_cfg : (t.fresh l p).cfg = t.cfg := Tile.uncopied_field (·.cfg) (t.uncopied_fresh l p) fun _ => rfl
@[simp] theorem Tile.fresh_segs : (t.fresh l p).segs = t.segs := Tile.uncopied_field (·.segs) (t.uncopied_fresh l p) fun _ => rfl
@[simp] theorem Tile.fresh_probes : (t.fresh l p).probes = t.probes := Tile.uncopied_field (·.probes) (t.uncopied_fresh l p) fun _ => rfl
@[simp] theorem Tile.fresh_retime : (t.fresh l p).retime = t.retime := Tile.uncopied_field (·.retime) (t.uncopied_fresh l p) fun _ => rfl
@[simp] theorem Tile.fresh_patternSet : (t.fresh l p).patternSet = t.patternSet :=
  Tile.uncopied_field (·.patternSet) (t.uncopied_fresh l p) fun _ => rfl
@[simp] theorem Tile.fresh_patternParts : (t.fresh l p).patternParts = t.patternParts :=
  Tile.uncopied_field (·.patternParts) (t.uncopied_fresh l p) fun _ => rfl
@[simp] theorem Tile.fresh_flash : (t.fresh l p).flash = t.flash := Tile.uncopied_field (·.flash) (t.uncopied_fresh l p) fun _ => rfl
@[simp] theorem Tile.fresh_flashIn : (t.fresh l p).flashIn = t.flashIn :=
  Tile.uncopied_field (·.flashIn) (t.uncopied_fresh l p) fun _ => rfl
@[simp] theorem Tile.granted_state : (t.granted l).state = t.state := Tile.uncopied_field (·.state) (t.uncopied_granted l) fun _ => rfl
@[simp] theorem Tile.granted_adm : (t.granted l).adm = t.adm := Tile.uncopied_field (·.adm) (t.uncopied_granted l) fun _ => rfl

end

/-- A good copy on a locked lane of a tile that is on counts; its SEQ and its type then decide. -/
theorem State.tileCopy_counts {s : State} {n : TileId} {l : TxLane} (on : (s.tile n).state ≠ 0) (locked : (s.tile n).lock l = true)
    (p : Parcel) (act : State → State) :
    let counted := (s.tile n).counted l p
    s.tileCopy n l p act =
      if (s.tile n).window.contains p.seq.toNat then s.withTile n { counted with
        dup := inc16 counted.dup, window := p.seq.toNat :: (s.tile n).window.erase p.seq.toNat }
      else if knownType p then act (s.withTile n ((s.tile n).fresh l p)) else s.withTile n ((s.tile n).fresh l p) := by
  have counted : (s.onTile n fun t =>
      let t := t.setRx l (inc16 (t.rx l))
      if p.kitty then t.releaseKitty l else t.releaseLane l 1) = s.withTile n ((s.tile n).counted l p) := rfl
  unfold State.tileCopy
  dsimp only
  rw [if_neg (by simp [on, locked]), counted, State.onTile_withTile, State.onTile_withTile, Tile.counted_window]
  rfl

/-! ### First copies -/

section
variable {s : State} {n : TileId} {l : TxLane} {p : Parcel}

/-- The first good copy of its SEQ that a tile receives, on a locked lane. -/
structure State.FirstCopy (s : State) (n : TileId) (l : TxLane) (p : Parcel) : Prop where
  on : (s.tile n).state ≠ 0
  locked : (s.tile n).lock l = true
  new : (s.tile n).window.contains p.seq.toNat = false

/-- The same, of a parcel whose type 09 R202 lists. -/
structure State.FirstKnown (s : State) (n : TileId) (l : TxLane) (p : Parcel) : Prop extends s.FirstCopy n l p where
  known : knownType p = true

/-- A further copy of a SEQ counts as a duplicate, and its SEQ becomes the newest of the window. -/
theorem State.tileCopy_duplicate (on : (s.tile n).state ≠ 0) (locked : (s.tile n).lock l = true)
    (seen : (s.tile n).window.contains p.seq.toNat = true) (act : State → State) :
    s.tileCopy n l p act = s.withTile n { (s.tile n).counted l p with
      dup := inc16 (s.tile n).dup, window := p.seq.toNat :: (s.tile n).window.erase p.seq.toNat } := by
  rw [State.tileCopy_counts on locked, if_pos seen, Tile.counted_dup]

/-- A parcel of an unknown type is ignored once it has entered the window. -/
theorem State.tileCopy_unknown (first : s.FirstCopy n l p) (unknown : knownType p = false) (act : State → State) :
    s.tileCopy n l p act = s.withTile n ((s.tile n).fresh l p) := by
  rw [State.tileCopy_counts first.on first.locked, first.new, unknown]
  rfl

theorem State.tileCopy_acts (first : s.FirstKnown n l p) (act : State → State) :
    s.tileCopy n l p act = act (s.withTile n ((s.tile n).fresh l p)) := by
  rw [State.tileCopy_counts first.on first.locked, first.new, first.known]
  rfl

/-! ### PIXELS, PROBES and CLOSE (09 R203 to R205) -/

/-- A parcel of another frame is stale; one of the tile's frame is taken where the tile is admitted. -/
theorem State.tileFrameCopy_first (first : s.FirstKnown n l p) (act : Tile → Tile) :
    let fresh := (s.tile n).fresh l p
    s.tileFrameCopy n l p act = if p.frame.toNat ≠ fresh.frame % 256 then s.withTile n { fresh with stale := inc16 fresh.stale }
      else if fresh.admitted then s.withTile n (act fresh) else s.withTile n fresh := by
  unfold State.tileFrameCopy
  rw [State.tileCopy_acts first]
  dsimp only
  rw [State.tile_withTile, State.onTile_withTile, State.onTile_withTile]

theorem State.tileFrameCopy_stale (first : s.FirstKnown n l p) (other : p.frame.toNat ≠ (s.tile n).frame % 256) (act : Tile → Tile) :
    s.tileFrameCopy n l p act = s.withTile n { (s.tile n).fresh l p with stale := inc16 (s.tile n).stale } := by
  rw [State.tileFrameCopy_first first, if_pos (by simpa using other), Tile.fresh_stale]

theorem State.tileFrameCopy_unadmitted (first : s.FirstKnown n l p) (same : p.frame.toNat = (s.tile n).frame % 256)
    (out : (s.tile n).admitted = false) (act : Tile → Tile) :
    s.tileFrameCopy n l p act = s.withTile n ((s.tile n).fresh l p) := by
  rw [State.tileFrameCopy_first first, if_neg (by simpa using same), if_neg (by simp [out])]

theorem State.tileFrameCopy_taken (first : s.FirstKnown n l p) (same : p.frame.toNat = (s.tile n).frame % 256)
    (admitted : (s.tile n).admitted = true) (act : Tile → Tile) :
    s.tileFrameCopy n l p act = s.withTile n (act ((s.tile n).fresh l p)) := by
  rw [State.tileFrameCopy_first first, if_neg (by simpa using same), if_pos (by simpa using admitted)]

/-! ### RETIME (09 R218) -/

/-- A notice is kept and answered, a confirm marks it, and an end drops it. -/
theorem State.retimeIn_first (first : s.FirstKnown n l p) (admitted : (s.tile n).admitted = true) :
    let fresh := (s.tile n).fresh l p
    s.retimeIn n l p =
      if p.arg.toNat % 4 = 1 then
        (s.withTile n { fresh with retime := some ⟨rd p.payload 0 1, rd p.payload 4 4, false⟩ }).tileEvent n ((s.tile n).outputOf l) 3 0 0
      else if p.arg.toNat % 4 = 2 then
        s.withTile n { fresh with retime := (s.tile n).retime.map fun r => { r with confirmed := true } }
      else s.withTile n { fresh with retime := none } := by
  unfold State.retimeIn
  rw [State.tileCopy_acts first]
  dsimp only
  rw [State.tile_withTile, Tile.fresh_admitted, admitted, if_neg (by decide), Tile.fresh_outputOf]
  simp only [State.onTile_withTile]
  rw [Tile.fresh_retime]

/-! ### ADMIT and RETIRE (09 R206, R223, R224; 14 R330) -/

/-- The tile of a new admission on a lane; in TRAINING it is configured too, and its buffers are empty. -/
def Tile.joins (l : TxLane) (p : Parcel) (t : Tile) : Tile :=
  let t := { t.granted l with adm := (t.granted l).adm ||| t.lanesOf l }
  if t.state = 1 then { t with cfg := some (parseAdmit p.payload), holdRuns := false, segs := [], probes := [], close := none } else t

/-- What the first copy of an ADMIT does. -/
def State.admitCopy (n : TileId) (l : TxLane) (p : Parcel) (s : State) : State :=
  let t := s.tile n
  if t.adm &&& t.lanesOf l = t.lanesOf l
  then s.onTile n fun t => { t with cfg := t.cfg.map fun c => c.retake (parseAdmit p.payload) }
  else if t.state = 0 ∨ t.state = 6 then s
  else
    let s := (s.onTile n (Tile.joins l p)).tileEvent n (t.outputOf l) 1 0 0
    if t.state = 1 then s.setTile n 2 else s

theorem State.admitIn_eq (n : TileId) (l : TxLane) (p : Parcel) (s : State) :
    s.admitIn n l p = s.tileCopy n l p (State.admitCopy n l p) := rfl

/-- On the lanes that it is admitted on already, a tile takes the fields that a re-deal changes without a handshake (log 90). -/
theorem State.admitIn_again (first : s.FirstKnown n l p) (held : (s.tile n).adm &&& (s.tile n).lanesOf l = (s.tile n).lanesOf l) :
    s.admitIn n l p = s.withTile n { (s.tile n).fresh l p with
      cfg := (s.tile n).cfg.map fun c => c.retake (parseAdmit p.payload) } := by
  rw [State.admitIn_eq, State.tileCopy_acts first, State.admitCopy, State.tile_withTile, if_pos (by simpa using held),
    State.onTile_withTile, Tile.fresh_cfg]

/-- The tile once it has been admitted on a lane. -/
def Tile.joined (l : TxLane) (p : Parcel) (t : Tile) : Tile := { (t.fresh l p).granted l with adm := t.adm ||| t.lanesOf l }

/-- A further admission grants credits and is answered; one in TRAINING configures the tile too, which is then ADMITTED. -/
theorem State.admitIn_new (first : s.FirstKnown n l p) (new : (s.tile n).adm &&& (s.tile n).lanesOf l ≠ (s.tile n).lanesOf l)
    (taking : (s.tile n).state ≠ 6) :
    let told := (s.withTile n (((s.tile n).fresh l p).joins l p)).tileEvent n ((s.tile n).outputOf l) 1 0 0
    s.admitIn n l p = if (s.tile n).state = 1 then told.setTile n 2 else told := by
  rw [State.admitIn_eq, State.tileCopy_acts first, State.admitCopy, State.tile_withTile, if_neg (by simpa using new),
    if_neg (by simp [first.on, taking]), State.onTile_withTile, Tile.fresh_outputOf, Tile.fresh_state]

theorem Tile.joins_fresh_training (t : Tile) (training : t.state = 1) : (t.fresh l p).joins l p = { t.joined l p with
    cfg := some (parseAdmit p.payload), holdRuns := false, segs := [], probes := [], close := none } := by
  rw [Tile.joins, Tile.granted_adm, Tile.fresh_adm, Tile.fresh_lanesOf, if_pos (by simpa using training)]
  rfl

theorem Tile.joins_fresh_admitted (t : Tile) (admitted : t.state ≠ 1) : (t.fresh l p).joins l p = t.joined l p := by
  rw [Tile.joins, Tile.granted_adm, Tile.fresh_adm, Tile.fresh_lanesOf, if_neg (by simpa using admitted)]
  rfl

/-- RETIRE on one lane of a pair ends the admission there, and the tile goes on with the other (log 94). -/
theorem State.retireIn_leaves (first : s.FirstKnown n l p) (admitted : (s.tile n).admitted = true)
    (other : (s.tile n).adm &&& ~~~(s.tile n).lanesOf l ≠ 0) :
    s.retireIn n l p = ((s.withTile n ((s.tile n).fresh l p)).tileEvent n ((s.tile n).outputOf l) 2 0 0).onTile n (Tile.leaveLane l) := by
  unfold State.retireIn
  rw [State.tileCopy_acts first]
  dsimp only
  rw [State.tile_withTile, Tile.fresh_admitted, admitted, if_neg (by decide), if_pos (by simpa using other), Tile.fresh_outputOf]

/-- The tile with its latches dark, and its window and buffers empty. -/
def Tile.cleared (t : Tile) : Tile := { t with
  latches := [], window := [], segs := [], probes := [], close := none, dueSegs := [], dueProbes := [], dueClose := none
  swapDue := false, probed := [], holdRuns := false }

/-- RETIRE on all lanes of a tile: it answers, its counters start again, and it is RETIRED. -/
theorem State.retireIn_last (first : s.FirstKnown n l p) (admitted : (s.tile n).admitted = true)
    (last : (s.tile n).adm &&& ~~~(s.tile n).lanesOf l = 0) :
    s.retireIn n l p = (((s.withTile n ((s.tile n).fresh l p).cleared).tileEvent n ((s.tile n).outputOf l) 2 0 0).onTile n fun t => { t with
      relA := 0, relB := 0, relK := 0, relK2 := 0, adm := 0 }).setTile n 6 := by
  unfold State.retireIn
  rw [State.tileCopy_acts first]
  dsimp only
  rw [State.tile_withTile, Tile.fresh_admitted, admitted, if_neg (by decide), if_neg (by simpa using last), Tile.fresh_outputOf,
    State.onTile_withTile]
  rfl

/-! ### FALLBACK (09 R217) -/

/-- The parts of the pattern that the tile holds with this one: those of the same SET. -/
def Tile.patternWith (p : Parcel) (t : Tile) : List (Nat × Bytes) :=
  Sparse.put (p.arg.toNat % 8) p.payload (if t.patternSet = bitsOf p.arg.toNat 15 8 then t.patternParts else [])

theorem State.fallbackIn_first (first : s.FirstKnown n l p) : s.fallbackIn n l p = s.withTile n
    (if ((s.tile n).patternWith p).length = 8
      then { (s.tile n).fresh l p with
        patternSet := bitsOf p.arg.toNat 15 8, patternParts := [], pattern := some (((s.tile n).patternWith p).flatMap (·.2)) }
      else { (s.tile n).fresh l p with patternSet := bitsOf p.arg.toNat 15 8, patternParts := (s.tile n).patternWith p }) := by
  unfold State.fallbackIn
  rw [State.tileCopy_acts first, State.onTile_withTile, Tile.fresh_patternSet, Tile.fresh_patternParts]
  rfl

/-! ### FLASH (09 R228) -/

theorem State.flashIn_chunk (first : s.FirstKnown n l p) (chunk : p.arg.toNat % 4 = 0) :
    s.flashIn n l p = s.withTile n { (s.tile n).fresh l p with flashIn := Sparse.put p.addr.toNat p.payload (s.tile n).flashIn } := by
  unfold State.flashIn
  rw [State.tileCopy_acts first, chunk]
  refine (State.onTile_withTile ..).trans ?_
  rw [Tile.fresh_flashIn]

/-- The chunks of an image of `len` bytes, where they have come. -/
def Tile.flashChunks (len : Nat) (t : Tile) : List (Option Bytes) :=
  (List.range (ceilDiv len 256)).map fun i => Sparse.find? t.flashIn i
/-- The image that the chunks make up. -/
def Tile.flashImage (len : Nat) (t : Tile) : Bytes := ((t.flashChunks len).flatMap fun c => c.getD []).take len
/-- The image is whole, and its check value is the one that the commit gives. -/
def Tile.flashWhole (len crc : Nat) (t : Tile) : Bool := (t.flashChunks len).all Option.isSome && decide (crc32c (t.flashImage len) = crc)

theorem State.flashIn_commit (first : s.FirstKnown n l p) (commit : p.arg.toNat % 4 = 1) :
    let len := rd p.payload 0 4
    let ok := (s.tile n).flashWhole len (rd p.payload 4 4)
    s.flashIn n l p = (s.withTile n { (s.tile n).fresh l p with
      flashIn := [], flash := if ok then (s.tile n).flashImage len else (s.tile n).flash }).tileEvent n ((s.tile n).outputOf l) 8
        (b2n (!ok)) 0 := by
  unfold State.flashIn
  rw [State.tileCopy_acts first, commit]
  simp only [State.tile_withTile, State.onTile_withTile, Tile.fresh_outputOf]
  rw [Tile.fresh_flash, Tile.fresh_flashIn]
  rfl

/-- A read request is answered in bodies of 48 bytes. -/
theorem State.flashIn_read (first : s.FirstKnown n l p) (read : p.arg.toNat % 4 = 2) :
    let off := rd p.payload 0 4
    let sent := forEach (List.range (ceilDiv (min (rd p.payload 4 4) 49152) 48)) (fun i t =>
      t.tileSend n ((s.tile n).outputOf l) fun h => .flashData h (BitVec.ofNat 32 (off + 48 * i))
        ((List.range 48).map fun j => t.flashByte n (off + 48 * i + j))) (s.withTile n ((s.tile n).fresh l p))
    s.flashIn n l p = { sent with freeSeq := sent.freeSeq + 2 ^ 32 } := by
  unfold State.flashIn
  rw [State.tileCopy_acts first, read]
  simp only [State.tile_withTile, Tile.fresh_outputOf]

theorem State.flashIn_other (first : s.FirstKnown n l p) (other : p.arg.toNat % 4 = 3) :
    s.flashIn n l p = s.withTile n ((s.tile n).fresh l p) := by
  unfold State.flashIn
  rw [State.tileCopy_acts first, other]
  rfl

/-! ### LANE (09 R221, R229, R230) -/

theorem State.laneIn_ls2 (first : s.FirstKnown n l p) (entry : p.arg.toNat % 16 = 1) :
    s.laneIn n l p = ((s.withTile n ((s.tile n).fresh l p)).tileEvent n ((s.tile n).outputOf l) 9 0 0).onTile n fun t => { t with
      ls2 := true, lockA := false, lockB := false, retOn := false } := by
  unfold State.laneIn
  rw [State.tileCopy_acts first, entry]
  simp only [State.tile_withTile, Tile.fresh_outputOf]

theorem State.laneIn_test (first : s.FirstKnown n l p) (start : p.arg.toNat % 16 = 2) :
    s.laneIn n l p = s.withTile n { (s.tile n).fresh l p with test := some (rd p.payload 0 1, rd p.payload 2 2) } := by
  unfold State.laneIn
  rw [State.tileCopy_acts first, start]
  simp only [State.onTile_withTile]

theorem State.laneIn_resync (first : s.FirstKnown n l p) (resync : p.arg.toNat % 16 = 3) :
    s.laneIn n l p = (s.withTile n ((s.tile n).fresh l p)).tileEvent n ((s.tile n).outputOf l) 6 0 0 := by
  unfold State.laneIn
  rw [State.tileCopy_acts first, resync]
  simp only [State.tile_withTile, Tile.fresh_outputOf]

theorem State.laneIn_other (first : s.FirstKnown n l p) (other : p.arg.toNat % 16 = 0 ∨ 4 ≤ p.arg.toNat % 16) :
    s.laneIn n l p = s.withTile n ((s.tile n).fresh l p) := by
  unfold State.laneIn
  rw [State.tileCopy_acts first]
  dsimp only
  split
  next entry => omega
  next start => omega
  next resync => omega
  next => rfl

end

/-! ### Bad copies (09 R209, R210) -/

/-- A bad copy counts, releases its lane's credit and is answered by NAK. -/
theorem State.tileBadCopy_answered {s : State} {n : TileId} {l : TxLane} (on : (s.tile n).state ≠ 0)
    (locked : (s.tile n).lock l = true) (runt : Bool) (seq : BitVec 16) :
    let x := s.tile n
    s.tileBadCopy n l runt seq = (s.withTile n (((x.setRx l (inc16 (x.rx l))).countCrc l).releaseLane l 1)).tileSend n (x.outputOf l)
      fun h => .nak h ⟨l, runt, b16 (x.rx l), seq⟩ := by
  unfold State.tileBadCopy
  exact if_neg (by simp [on, locked])

/-! ### What a copy leaves alone -/

/-- A command that changes one tile end alone leaves the ports and the lamp clock, in what every command brings too. -/
theorem exec_tile {s x : State} {n : TileId} {y : Tile} {i : Instr} (quiet : s.quiet) (meaning : exec i s = finish x)
    (effect : x = s.withTile n y) :
    ∃ t, exec i s = .next t ∧ t.tiles = s.tiles.set n y ∧ t.ports = s.ports ∧ t.lamp = s.lamp := by
  subst effect
  have still : (s.withTile n y).quiet := quiet
  exact ⟨_, meaning, settle_field (·.tiles) still, settle_field (·.ports) still, settle_field (·.lamp) still⟩

end Sys2Proof.Machine
end

section
/-! SUPPORT. A tile end's power-up, IDENT, lanes, acknowledgements and sensors (09 R207, R210, R219, R221, R222, R227; 14 R330;
17 R390; log 94). -/

namespace Sys2Proof.Machine

open Sys2Proof

section
variable {s : State} {n : TileId} {l : TxLane}

/-- Power-up starts a tile in TRAINING; the flash of the same serial keeps its content. -/
theorem State.tilePowerUp_eq (s : State) (n : TileId) (m : TileMaker) : s.tilePowerUp n m = s.withTile n {
    made := some m, state := 1, retOn := true
    flash := if (s.tile n).made.map (·.serial) = some m.serial then (s.tile n).flash else [] } := by
  unfold State.tilePowerUp
  dsimp only
  rw [State.onTile_eq]
  simp only [decide_eq_true_eq]

/-! ### IDENT (R222) -/

/-- The outputs on which a tile sends IDENT: its one output in TRAINING, and in a pair each output that it is not admitted on. -/
theorem Tile.training_eq {t : Tile} {m : TileMaker} {outs : List Nat} (made : t.made = some m)
    (sends : (outs = [0] ∧ m.paired = false ∧ t.state = 1) ∨
      (outs ≠ [] ∧ m.paired = true ∧ t.state ≠ 0 ∧ t.state ≠ 6 ∧ outs = [0, 1].filter fun o => !t.adm.getLsbD o)) :
    t.training = outs := by
  have paired : t.paired = m.paired := by simp [Tile.paired, made]
  unfold Tile.training
  rw [paired]
  rcases sends with ⟨one, alone, training⟩ | ⟨_, pair, on, unretired, unadmitted⟩
  · simp [one, alone, training]
  · simp [pair, on, unretired, unadmitted]

/-- The tile once it has granted the kitty on the outputs whose first IDENT it sends. -/
def Tile.identified (outs : List Nat) (grant : Nat) (t : Tile) : Tile :=
  let first (sent : Bool) (o : Nat) : Bool := !sent && outs.contains o
  { t with
    identSent := t.identSent || outs.contains 0, relK := if first t.identSent 0 then grant else t.relK
    identSent2 := t.identSent2 || outs.contains 1, relK2 := if first t.identSent2 1 then grant else t.relK2 }

/-- A loop over steps that agree while a property of the state holds, which each step keeps. -/
theorem forEach_congr {α : Type} {f g : α → State → State} {P : State → Prop} (same : ∀ a t, P t → f a t = g a t)
    (keeps : ∀ a t, P t → P (g a t)) (as : List α) {s : State} (start : P s) : forEach as f s = forEach as g s := by
  unfold forEach
  induction as generalizing s with
  | nil => rfl
  | cons a as ih =>
    rw [List.foldl_cons, List.foldl_cons, same a s start]
    exact ih (keeps a s start)

/-- The IDENT records of a tile: their REL_K is what it has just granted, which sending records does not change. -/
theorem State.tileIdent_sends {m : TileMaker} {outs : List Nat} (made : (s.tile n).made = some m)
    (sends : (s.tile n).training = outs) (nonempty : outs ≠ []) :
    let x := s.tile n
    let y := x.identified outs (if m.paired then 8 else 16)
    s.tileIdent n = forEach outs (fun o t => t.tileSend n o fun h => .ident h
      ⟨m.tileType, m.serial, m.arrayW.setWidth 16, m.arrayH.setWidth 16, BitVec.ofNat 8 (b2n x.lockA + 2 * b2n x.lockB),
        m.caps, m.vfBase, m.vfStep, b16 (y.relKOf o)⟩) (s.withTile n y) := by
  intro x y
  have grants (sent : Bool) (o old grant : Nat) : (if sent || !outs.contains o then old else grant) =
      if !sent && outs.contains o then grant else old := by
    cases sent <;> cases outs.contains o <;> rfl
  have identified : (s.onTile n fun t => { t with
      identSent := t.identSent || outs.contains 0
      relK := if t.identSent || !outs.contains 0 then t.relK else if m.paired then 8 else 16
      identSent2 := t.identSent2 || outs.contains 1
      relK2 := if t.identSent2 || !outs.contains 1 then t.relK2 else if m.paired then 8 else 16 }) = s.withTile n y := by
    simp only [State.onTile_eq, grants]
    rfl
  unfold State.tileIdent
  dsimp only
  rw [made]
  dsimp only
  rw [sends, if_neg nonempty, identified]
  refine forEach_congr (P := KeepsTile n (s.withTile n y)) (fun o t kept => ?_) (fun o t kept => kept.trans (keepsTile_tileSend ..)) outs
    (.refl n _)
  have granted : (t.tile n).relKOf o = y.relKOf o := (kept.field (·.relKOf o)).trans (by rw [State.tile_withTile])
  rw [granted]

/-! ### Lanes (R219, R221) -/

/-- A locked lane that is lost, with the copy that it cut counted and released, is told by an event and STATUS. -/
theorem State.tileLaneLost_locked (on : (s.tile n).state ≠ 0) (locked : (s.tile n).lock l = true) (part : Bool) :
    let x := s.tile n
    let y := x.setLock l false
    let cut := if part then ((y.setRx l (inc16 (y.rx l))).countCrc l).releaseLane l 1 else y
    s.tileLaneLost n l part = ((s.withTile n cut).tileEvent n (x.outputOf l) 4 (laneNum l) 0).tileStatus n := by
  unfold State.tileLaneLost
  exact if_neg (by simp [on, locked])

/-- A lane that locks is told by an event and STATUS, and its copies are numbered from 0. -/
theorem State.tileLaneLock_unlocked (on : (s.tile n).state ≠ 0) (unlocked : (s.tile n).lock l = false) :
    let x := s.tile n
    s.tileLaneLock n l = ((s.withTile n { (x.setLock l true).setRx l 0 with ls2 := false, retOn := true }).tileEvent n (x.outputOf l) 5
      (laneNum l) 0).tileStatus n := by
  unfold State.tileLaneLock
  exact if_neg (by simp [on, unlocked])

/-- Without a transmit lane that it is admitted on, a tile goes to TRAINING, where a hold runs on. -/
theorem State.tileTransmitLoss_all (on : 2 ≤ (s.tile n).state) (awake : (s.tile n).ls2 = false)
    (lost : ∀ k : TxLane, (s.tile n).lock k = true → (s.tile n).adm.getLsbD (laneNum k) = false) :
    let x := s.tile n
    s.tileTransmitLoss n = (s.withTile n { x with
      window := [], relA := 0, relB := 0, relK := 0, relK2 := 0, identSent := false, identSent2 := false, adm := 0
      holdRuns := decide (3 ≤ x.state ∧ x.state ≤ 5), retime := none, test := none }).setTile n 1 := by
  have out (k : TxLane) : ((s.tile n).lock k && (s.tile n).adm.getLsbD (laneNum k)) = false := by
    cases locked : (s.tile n).lock k
    · rfl
    · exact lost k locked
  have powered : (s.tile n).state ≠ 0 := by omega
  unfold State.tileTransmitLoss
  dsimp only
  rw [if_neg (not_or.2 ⟨Nat.not_lt.2 on, Bool.eq_false_iff.1 awake⟩), if_pos (by simp [out])]
  unfold State.tileTrain
  dsimp only
  rw [if_neg powered]
  rfl

/-- A pair that keeps one lane leaves the admission of the other alone (log 94). -/
theorem State.tileTransmitLoss_one {k : TxLane} (on : 2 ≤ (s.tile n).state) (awake : (s.tile n).ls2 = false)
    (pair : (s.tile n).paired = true) (kept : (s.tile n).lock k = true) (keptOn : (s.tile n).adm.getLsbD (laneNum k) = true)
    (lost : (s.tile n).lock l = false) (lostOn : (s.tile n).adm.getLsbD (laneNum l) = true) :
    s.tileTransmitLoss n = s.withTile n ((s.tile n).leaveLane l) := by
  unfold State.tileTransmitLoss
  dsimp only
  rw [if_neg (not_or.2 ⟨Nat.not_lt.2 on, Bool.eq_false_iff.1 awake⟩)]
  cases k <;> cases l
  case a.a => rw [kept] at lost; cases lost
  case b.b => rw [kept] at lost; cases lost
  case a.b => simp [forEach, pair, kept, keptOn, lost, lostOn, State.onTile_eq]
  case b.a => simp [forEach, pair, kept, keptOn, lost, lostOn, State.onTile_eq]

/-! ### Sensors (R227) -/

/-- An admitted tile sends its sensors, and the next record of the frame has the next index. -/
theorem State.tileSensor_admitted (admitted : (s.tile n).admitted = true) (r : SensorReading) :
    let x := s.tile n
    s.tileSensor n r = (forEach x.outputs (fun o t => t.tileSend n o fun h => .sensor h
      ⟨r.vfMean, r.tSink, r.light, r.vSupply, r.iSupply, BitVec.ofNat 8 x.sensorIndex⟩) s).onTile n
        fun t => { t with sensorIndex := (x.sensorIndex + 1) % 8 } := by
  intro x
  unfold State.tileSensor
  dsimp only
  rw [if_pos admitted]
  refine State.onTile_congr ?_
  rw [(KeepsTile.each (fun o t => keepsTile_tileSend n o _ t) _ s).field (·.sensorIndex)]

end

end Sys2Proof.Machine
end

section
/-! SUPPORT. A good return record at its port; link tests and the flash of a tile at the chip (09 R226, R228, R230; 16 R364, R435). -/

namespace Sys2Proof.Machine

open Sys2Proof

/-! ### Records (R226) -/

/-- A good record acts under return-lane lock, at a port that works. -/
theorem State.recordIn_served {s : State} {n : TileId} (locked : (s.port n).retLock = true) (served : s.served n = true) (r : RecHdr)
    (f : State → State) : s.recordIn n r f = f (s.received n r) := by
  unfold State.recordIn
  exact if_neg (by simp [locked, served])

/-- Receiving a record leaves the host port as it is. -/
theorem State.received_host (s : State) (n : TileId) (r : RecHdr) : (s.received n r).host = s.host := by
  rw [State.received, State.addWrap_host, State.onPort_host]
theorem State.received_hostReady (s : State) (n : TileId) (r : RecHdr) : (s.received n r).hostReady = s.hostReady := by
  unfold State.hostReady
  rw [State.received_host]

/-- A command whose record is received. -/
theorem exec_record {s x : State} {n : TileId} {r : RecHdr} {i : Instr} {act : State → State} (on : s.on)
    (locked : (s.port n).retLock = true) (served : s.served n = true)
    (meaning : exec i s = finish (s.alive fun s => s.recordIn n r act)) (effect : act (s.received n r) = x) :
    exec i s = .next (State.settle x) :=
  exec_row on meaning ((State.recordIn_served locked served r act).trans effect)

section
variable {s : State} {n : TileId}

/-! ### Link tests (R230) -/

/-- The test that port `n` runs after a result of a lane that is awaited. -/
theorem State.testResultIn_awaited {t : LinkTest} {l : TxLane} (runs : (s.port n).test = some t)
    (awaited : t.wait.testBit (laneNum l) = true) (e : EventBody) :
    s.testResultIn n l e = (s.onPort n fun p => { p with test := some { t with
      wait := t.wait - 2 ^ laneNum l, errors := min (2 ^ 32 - 1) (t.errors + e.value.toNat) } }).testDone n := by
  unfold State.testResultIn
  rw [runs]
  exact if_pos awaited

/-- A lane of the test that is locked gets its parked credits back. -/
def Port.testUnparks (mask : Nat) (l : TxLane) (p : Port) : Port :=
  if mask.testBit (laneNum l) = true ∧ p.lock l = true then (p.setCred l (p.cred l + p.park l)).setPark l 0 else p

/-- The test after its last frame: the return lane's count is in. -/
def LinkTest.ended (errors : Nat) (t : LinkTest) : LinkTest := { t with
  running := false
  errors := if t.mask.testBit 2 then min (2 ^ 32 - 1) (t.errors + min (2 ^ 32 - 1) errors) else t.errors
  wait := if t.mask.testBit 2 then t.wait % 4 else t.wait }

theorem State.testEnd_last {t : LinkTest} (test : (s.port n).test = some t) (runs : t.running = true) (last : t.left = 0)
    (errors : Nat) :
    s.testEnd n errors = (s.onPort n fun p =>
      { (p.testUnparks t.mask .a).testUnparks t.mask .b with test := some (t.ended errors) }).testDone n := by
  have unparks (l : TxLane) (p : Port) : (if bitAt t.mask (laneNum l) && p.lock l
      then (p.setCred l (p.cred l + p.park l)).setPark l 0 else p) = p.testUnparks t.mask l := by
    simp only [Port.testUnparks, bitAt, Bool.and_eq_true]
  unfold State.testEnd
  rw [test]
  dsimp only
  rw [if_neg (by simp [runs, last])]
  simp only [unparks]
  rfl

/-! ### Flash (R228) -/

/-- A job that is there ends with its completion. -/
theorem State.flashEnd_job {j : FlashJob} (job : (s.port n).flash = some j) (st : Status) :
    s.flashEnd n st = (s.onPort n fun p => { p with flash := none }).completeWith j.ref st := by
  unfold State.flashEnd
  rw [job]

theorem State.flashDoneIn_committed {j : FlashJob} (job : (s.port n).flash = some j) (committed : j.committed.isSome = true)
    (failed : Bool) :
    s.flashDoneIn n failed = (s.onPort n fun p => { p with flash := none }).completeWith j.ref (if failed then .invalid else .ok) := by
  unfold State.flashDoneIn
  rw [job]
  exact (if_pos committed).trans (State.flashEnd_job job _)

/-- A committed load times out 30 s after its commit. -/
theorem State.flashTimeout_committed {j : FlashJob} {t0 : Nat} (job : (s.port n).flash = some j) (committed : j.committed = some t0) :
    s.flashTimeout n =
      ((s.advanceTo (t0 + 3000000000)).onPort n fun p => { p with flash := none }).completeWith j.ref .timeout := by
  have later : ((s.advanceTo (t0 + 3000000000)).port n).flash = some j := job
  unfold State.flashTimeout
  rw [job]
  dsimp only
  rw [committed]
  exact State.flashEnd_job later .timeout

/-- The offset is one of the bodies of the request outstanding. -/
abbrev ReadJob.asks (j : ReadJob) (off : Nat) : Prop := j.at0 ≤ off ∧ off < j.upTo ∧ (off - j.at0) % 48 = 0

/-- With the link down the read ends, TIMEOUT (16 R364, R435). -/
theorem State.flashDataIn_linkDown {j : ReadJob} {off : Nat} (job : (s.port n).read = some j) (asked : j.asks off)
    (down : s.host.linkUp = false) (data : Bytes) :
    s.flashDataIn n off data = s.readEnd n fun t => t.completeWith j.ref .timeout := by
  unfold State.flashDataIn
  rw [job]
  dsimp only
  rw [if_pos asked, down]
  rfl

/-- The read once a body of it has come. -/
def ReadJob.took (j : ReadJob) (off : Nat) : ReadJob :=
  { j with got := if j.got.contains off then j.got else j.got ++ [off], fresh := true }

/-- A body goes to host memory and is noted; the last one of the request has it judged. -/
theorem State.flashDataIn_taken {j : ReadJob} {off : Nat} (job : (s.port n).read = some j) (asked : j.asks off)
    (up : s.host.linkUp = true) (ready : s.hostReady = true) (data : Bytes) :
    let y := (s.emit (.hostWrite (j.addr + off) (padTo (min 48 (j.len - off)) data))).onPort n fun p => { p with read := some (j.took off) }
    s.flashDataIn n off data = if j.upTo ≤ off + 48 then y.judgeRead n (j.took off) else y := by
  have still (e : Emission) : (s.emit e).hostReady = true := ready
  unfold State.flashDataIn
  rw [job]
  dsimp only
  rw [if_pos asked, up, if_neg (by decide), if_pos ready, still, Bool.not_true, Bool.or_false]
  rfl

end

end Sys2Proof.Machine
end

section
/-! SUPPORT. Parcels, acknowledgements and resends of a port (09 R194, R195, R208 to R212; 14 R331). -/

namespace Sys2Proof.Machine

open Sys2Proof

section
variable {s : State} {n : TileId}

/-! ### PARCEL_SEND and CLOSE_SEND (R194, R195, R208, R212) -/

/-- The port on a lane that may carry parcels: the line to send is read back from the spill region, or flash work is queued where
none waits (R195, R208). -/
def State.sendReady (s : State) (n : TileId) (lane : TxLane) : State := match s.nextTrack n lane with
  | some t => s.readSpill n t
  | none => s.queueFlash n

/-- The port sends the next track on a lane; a resend whose retry buffer is bad fails, and raises (01 R21). -/
def State.sendNext (n : TileId) (lane : TxLane) (ecc : Bool) (s : State) : State := match s.nextTrack n lane with
  | none => s
  | some t => if ecc = true ∧ t.copies ≠ [] ∧ (s.port n).blind = false then
      ((s.failTrack n t.seq).raise 7 9).raiseGroup n 13 3 else s.sendCopy n lane t

theorem State.parcelSend_open {lane : TxLane} (on : s.portOn n = true) (isOpen : (s.openLanes n).contains lane = true) (ecc : Bool) :
    s.parcelSend n lane ecc = (s.sendReady n lane).sendNext n lane ecc := by
  have isResend (t : Track) (x : State) : (ecc && !t.copies.isEmpty && !(x.port n).blind) = true ↔
      ecc = true ∧ t.copies ≠ [] ∧ (x.port n).blind = false := by
    simp [and_assoc]
  unfold State.parcelSend
  rw [on, isOpen, if_neg (by decide)]
  unfold State.sendNext
  show (match (s.sendReady n lane).nextTrack n lane with | none => _ | some t => _) = _
  cases (s.sendReady n lane).nextTrack n lane with
  | none => rfl
  | some t => exact if_congr (isResend t (s.sendReady n lane)) rfl rfl

theorem State.closeSend_due {k : Bool × Bool} (owed : s.closeKind n = some k) (first : (s.port n).closeSent = false)
    (own : s.lockedSecondary = false)
    (due : k.1 = true ∨ k.2 = true ∨ s.linesDecided n = true ∨ s.timing.pastHorizon = true) :
    s.closeSend n = s.queueClose n k := by
  unfold State.closeSend
  rw [owed]
  dsimp only
  rw [if_neg (by simp [first, own]), if_pos (by simpa [or_assoc] using due)]

/-! ### RESEND_TIMEOUT (R211, R212) -/

/-- The latest send of a track counts as lost once its acknowledgement is due, where it may still be resent. -/
theorem State.resendTimeout_due {seq : Nat} {x : Track} (found : (s.port n).tracks.find? (fun t => t.seq = seq) = some x)
    (unacked : x.acked = false) (whole : x.failed = false) (sent : x.copies ≠ []) (idle : x.due = []) (seeing : (s.port n).blind = false)
    (may : s.mayGo n x = true) (close : x.isClose = true → x.sentAt + s.ackTimeout n + 1000 < s.nextTick)
    (lines : x.isPixels = true ∨ x.isProbes = true → x.sentAt + s.ackTimeout n < s.horizonAt) :
    s.resendTimeout n seq =
      ((s.advanceTo (x.sentAt + s.ackTimeout n)).laneError n (laneNum x.lane)).sendLost n x := by
  have inTime : (if x.isClose then decide (s.nextTick ≤ x.sentAt + s.ackTimeout n + 1000)
      else (x.isPixels || x.isProbes) && decide (s.horizonAt ≤ x.sentAt + s.ackTimeout n)) = false := by
    split
    next isClose => exact decide_eq_false (Nat.not_le.2 (close isClose))
    next =>
      cases isLine : x.isPixels || x.isProbes
      · rfl
      · exact (Bool.true_and _).trans (decide_eq_false (Nat.not_le.2 (lines (by simpa using isLine))))
  unfold State.resendTimeout
  dsimp only
  rw [found]
  dsimp only
  rw [inTime, if_neg (by simp [unacked, whole, sent, idle, seeing, may])]

/-! ### ACK and NAK (R210, R211) -/

/-- The ACK covers a track of which a copy has been sent. -/
def ackHits (b : AckBody) (t : Track) : Bool := !t.copies.isEmpty && !t.failed && ackCovers b t.seq

/-- The tracks once an ACK has acknowledged those that it covers; finished ones are dropped. -/
def State.ackTracks (n : TileId) (b : AckBody) (frame : Nat) (s : State) : State := s.onPort n fun p => { p with
  tracks := (p.tracks.map fun t => if ackHits b t then t.ackedNow else t).filter fun t => !t.finished
  closeAcked := p.closeAcked || p.tracks.any fun t => t.isClose && decide (t.frame = frame) && ackHits b t }

/-- A held line of tile `n` once the tile has acknowledged what an ACK covers of its plan (14 R331). -/
def HeldLine.acknowledge (n : TileId) (b : AckBody) (g : HeldLine) : HeldLine := if g.tile ≠ n then g else { g with
  acked := g.acked ++ (g.plan.filter fun a => ackCovers b a.2).map Prod.fst, plan := g.plan.filter fun a => !ackCovers b a.2 }

def State.ackHeld (n : TileId) (b : AckBody) (s : State) : State :=
  s.onPartner fun p => { p with held := p.held.map (HeldLine.acknowledge n b) }

/-- Where no line is held, none is acknowledged. -/
theorem State.ackHeld_unheld {b : AckBody} (unheld : s.partner.held = []) : s.ackHeld n b = s := by
  have same : ({ s.partner with held := s.partner.held.map (HeldLine.acknowledge n b) } : Partner) = s.partner := by
    rw [unheld, List.map_nil, ← unheld]
  exact congrArg (fun p : Partner => ({ s with partner := p } : State)) same

/-- Receiving a record leaves the frame that is composed. -/
theorem State.received_frame (s : State) (n : TileId) (r : RecHdr) : (s.received n r).frame = s.frame := by
  rw [State.frame, State.received, State.addWrap_timing, State.onPort_timing, ← State.frame]

/-- ACK counts the releases and acknowledges what its map covers; what waited for it then goes on. -/
theorem State.ackIn_eq (n : TileId) (b : AckBody) (s : State) :
    let acked := ((s.releases n b.relA b.relB b.relK).ackTracks n b s.frame).ackHeld n b
    s.ackIn n b = ((acked.admissionDone n).retireCheck n).enterLs1 n := by
  let x := (s.releases n b.relA b.relB b.relK).ackTracks n b s.frame
  have held : (if x.partner.held.isEmpty then x else x.ackHeld n b) = x.ackHeld n b := by
    split
    next empty => exact (State.ackHeld_unheld (List.isEmpty_iff.1 empty)).symm
    next => rfl
  exact congrArg (fun y : State => ((y.admissionDone n).retireCheck n).enterLs1 n) held

/-- NAK counts, and its copy is lost, unless an older copy of a parcel that has had its last try. -/
theorem State.nakIn_eq (n : TileId) (b : NakBody) (s : State) :
    let l := laneNum b.lane
    let x := ((s.laneError n l).addWrap (Reg.TL_CRC n) (15 + 16 * l) (16 * l) 1).onPort n fun p =>
      p.setCrcSeen b.lane ((p.crcSeen b.lane).map fun v => (v + 1) % 65536)
    s.nakIn n b = match (x.port n).tracks.find? fun t => t.copies.contains (b.lane, b.laneCount.toNat) with
      | none => x
      | some t => if t.parcel.tryN = 3 ∧ t.copies.getLast? ≠ some (b.lane, b.laneCount.toNat) then x else x.sendLost n t := by
  intro l x
  unfold State.nakIn
  show (match (x.port n).tracks.find? _ with | none => _ | some t => _) = _
  cases (x.port n).tracks.find? fun t => t.copies.contains (b.lane, b.laneCount.toNat) with
  | none => rfl
  | some t => exact if_congr (and_congr_right fun _ => decide_eq_false_iff_not) rfl rfl

end

end Sys2Proof.Machine
end

section
/-! SUPPORT. Lanes of a port that go down and come back, resynchronisation, the return lane and LS1; STATUS and IDENT (09 R219 to R222,
R225, R229). -/

namespace Sys2Proof.Machine

open Sys2Proof

/-- Two changes of a port, one after the other, are one. -/
theorem State.onPort_onPort (n : TileId) (f g : Port → Port) (s : State) :
    (s.onPort n f).onPort n g = s.onPort n fun p => g (f p) := by
  simp [State.onPort, vector_get_set]

section
variable {s : State} {n : TileId}

/-! ### Lane events (R219, R221) -/

/-- The lanes that the chip drives follow from the Deal, which a lane event leaves as it is. -/
theorem undomained_sendLost (n : TileId) (t : Track) (s : State) : (s.sendLost n t).undomained = s.undomained := by
  unfold State.sendLost
  exact undomained_ite rfl (undomained_ite (undomained_onPort ..) (undomained_onPort ..))

theorem undomained_laneDownAt (n : TileId) (l : TxLane) (s : State) : (s.laneDownAt n l).undomained = s.undomained := by
  have cut (t : Track) (s : State) :
      ((s.onPort n fun p => p.onTrack t.seq fun t => { t with due := [] }).sendLost n { t with due := [] }).undomained = s.undomained :=
    (undomained_sendLost n _ _).trans (undomained_onPort ..)
  unfold State.laneDownAt
  refine undomained_ite rfl (undomained_ite (undomained_onPort ..) ?_)
  refine (undomained_onPort ..).trans ((forEach_keeps State.undomained cut _ _).trans ?_)
  refine (undomained_posts (posts_laneRecord ..)).trans ?_
  rfl

theorem State.laneDownAt_chipLanes (n : TileId) (l : TxLane) (s : State) : (s.laneDownAt n l).chipLanes = s.chipLanes :=
  undomained_field (·.chipLanes) (undomained_laneDownAt n l s)

theorem State.heard_chipLanes (s : State) (n : TileId) (r : RecHdr) (e : EventBody) : (s.heard n r e).chipLanes = s.chipLanes := by
  have deal : (s.heard n r e).deal = s.deal := by
    rw [State.heard, State.onPort_deal, State.received, State.addWrap_deal, State.onPort_deal]
  unfold State.chipLanes State.role State.theDeal
  rw [deal]

/-- A lane event's counters: the releases of the given lanes and the kitty are counted, and all three are the new baselines. -/
def State.rebase (n : TileId) (lanes : List TxLane) (e : EventBody) (s : State) : State := s.onPort n fun p =>
  { p.takeReleases lanes e.relA.toNat e.relB.toNat e.relK.toNat with
    relA := e.relA.toNat, relB := e.relB.toNat, relK := e.relK.toNat }

theorem State.laneDownIn_eq (n : TileId) (l : TxLane) (e : EventBody) (s : State) :
    s.laneDownIn n l e = (s.laneDownAt n l).rebase n (s.chipLanes.filter (· ≠ l)) e := by
  unfold State.laneDownIn State.baseline State.rebase
  dsimp only
  rw [State.onPort_onPort, State.laneDownAt_chipLanes]

theorem State.laneUpIn_eq (n : TileId) (l : TxLane) (e : EventBody) (s : State) :
    s.laneUpIn n l e = (s.rebase n (s.chipLanes.filter (· ≠ l)) e).laneUpAt n l := by
  unfold State.laneUpIn State.baseline State.rebase
  dsimp only
  rw [State.onPort_onPort]

/-! ### RESYNC (R221, R225) -/

/-- All of a lane's credits are granted to it anew. -/
def Port.gather (l : TxLane) (p : Port) : Port :=
  (((p.setCred l 0).setPark l 0).setInFlight l 0).grant l (p.cred l + p.park l + p.inFlight l)

/-- What the chip knows of a tile from its records: the tile's state and the latest STATUS. -/
def Port.report (p : Port) : Nat × Option StatusBody := (p.state, p.status)

@[simp] theorem Port.setCred_report (l : TxLane) (v : Nat) (p : Port) : (p.setCred l v).report = p.report := by cases l <;> rfl
@[simp] theorem Port.setPark_report (l : TxLane) (v : Nat) (p : Port) : (p.setPark l v).report = p.report := by cases l <;> rfl
@[simp] theorem Port.setInFlight_report (l : TxLane) (v : Nat) (p : Port) : (p.setInFlight l v).report = p.report := by cases l <;> rfl
@[simp] theorem Port.grant_report (l : TxLane) (k : Nat) (p : Port) : (p.grant l k).report = p.report := by
  rcases p.grant_eq l k with usable | parked
  · rw [usable, Port.setCred_report]
  · rw [parked, Port.setPark_report]
@[simp] theorem Port.gather_report (l : TxLane) (p : Port) : (p.gather l).report = p.report := by simp [Port.gather]

/-- Resynchronisation leaves what the chip knows of the tile. -/
theorem State.resyncPort_report (n : TileId) (a b k : Nat) (s : State) :
    ((s.resyncPort n a b k).port n).report = (s.port n).report := by
  rw [State.resyncPort, State.port_onPort_self]
  show (((s.port n).gather .a).gather .b).report = (s.port n).report
  simp

/-- A tile that was ABSENT takes the state that its STATUS reported (R225). -/
def State.takesStatus (n : TileId) (was : Nat) (status : Option StatusBody) (x : State) : State := match status with
  | some b => if was = 0 then x.setTileState n b.state.toNat 2 else x
  | none => x

theorem State.resyncIn_blind (blind : (s.port n).blind = true) (e : EventBody) :
    let x := s.resyncPort n e.relA.toNat e.relB.toNat e.relK.toNat
    s.resyncIn n e = x.takesStatus n (s.port n).state (s.port n).status := by
  intro x
  obtain ⟨state, status⟩ := Prod.mk.inj (s.resyncPort_report n e.relA.toNat e.relB.toNat e.relK.toNat)
  have resynced : s.resyncIn n e = x.takesStatus n (x.port n).state (x.port n).status := by
    unfold State.resyncIn
    exact if_neg (by rw [blind]; decide)
  rw [resynced, state, status]

/-! ### The return lane (R220, R221, R225) and LS1 (R229) -/

theorem State.retLaneLock_declared (unlocked : (s.port n).retLock = false) (declared : s.declared n = true)
    (ready : s.ready (11 + groupOf n) = true) :
    s.retLaneLock n = ((s.onPort n fun p => { p with
      retLock := true, lastRseq := none, retAt := s.lamp, unlockedFrames := 0, missingFrames := 0 }).laneRecord n 2 2).identCheck n := by
  unfold State.retLaneLock
  rw [unlocked, declared, ready]
  exact if_neg (by decide)

/-- In LS2 or under test, a return lane that loses lock is not lost. -/
theorem State.retLaneLost_expected (locked : (s.port n).retLock = true)
    (expected : (s.port n).pwrRet = 2 ∨ (s.port n).testMask.testBit 2 = true) :
    s.retLaneLost n = s.onPort n fun p => { p with retLock := false } := by
  unfold State.retLaneLost
  dsimp only
  rw [locked, if_neg (by decide)]
  exact if_pos expected

/-- A return lane that is lost is recorded; a RETIRED tile is then ABSENT, and any other that is not ABSENT blind. -/
theorem State.retLaneLost_lost (locked : (s.port n).retLock = true) (awake : (s.port n).pwrRet ≠ 2)
    (untested : (s.port n).testMask.testBit 2 = false) :
    let x := ((s.onPort n fun p => { p with retLock := false, unlockedFrames := 0, lostLanes := p.lostLanes ||| 4#3 }).setFlag
      (Reg.TL_LANE_STAT n) 18).laneRecord n 2 1
    s.retLaneLost n = if (s.port n).state = 6 then x.setTileState n 0 5
      else if (s.port n).state = 0 then x else x.enterBlindPort n := by
  unfold State.retLaneLost
  dsimp only
  rw [locked, if_neg (by decide)]
  exact if_neg (by simp [awake, bitAt, untested])

theorem State.ls1Exit_asleep {l : TxLane} (asleep : (s.port n).pwr l = 1) :
    s.ls1Exit n l = ((s.advanceTo (s.nextTick - 200)).onPort n (Port.setPwr l 0)).emit (.laneIdle n l false) := if_pos asleep

/-! ### STATUS, IDENT and a bad record (R222, R225, R226, R434) -/

/-- A STATUS is kept, reports its lanes, and moves the tile's state where R225 permits. -/
theorem State.statusIn_eq (n : TileId) (b : StatusBody) (s : State) :
    let x := (((s.onPort n fun p => { p with status := some b }).crcReport n .a b.crcA.toNat).crcReport n .b b.crcB.toNat).lanesReport
      n b.lanes.toNat
    let st := b.state.toNat
    let y := if statusMove (x.port n).state st ((x.port n).dark || (x.port n).retirement.isSome) = true then x.setTileState n st 2 else x
    s.statusIn n b = (if st = 2 then y.onPort n fun p => { p with dark := false } else y).sendResync n := by
  have admitted : b.state = 2#8 ↔ b.state.toNat = 2 := BitVec.toNat_inj.symm
  exact congrArg (State.sendResync n) (if_congr admitted rfl rfl)

/-- The port as a tile in TRAINING takes it, where it is not there already: its events and its flash work ended, its identity checked. -/
def State.retrain (n : TileId) (s : State) : State :=
  (((s.setTileState n 1 4).strandFlash n).onPort n fun p => { p with
    events := [], dark := false, crcSeenA := none, crcSeenB := none }).identCheck n

/-- The kitty's releases and the lanes that an IDENT tells. -/
def State.identCounts (n : TileId) (b : IdentBody) (s : State) : State :=
  (s.onPort n fun p => { p.releaseKitty (diff16 b.relK.toNat p.relK) with relK := b.relK.toNat }).lanesReport n b.lanes.toNat

theorem State.identIn_eq (n : TileId) (b : IdentBody) (s : State) :
    let x := s.onPort n fun p => { p with ident := some b }
    let z := (if (s.port n).state = 1 ∧ (s.port n).blind = false then x else x.retrain n).identCounts n b
    s.identIn n b = if (z.port n).readmit = true ∧ z.admissible n = true then z.startAdmission n none else z := by
  intro x z
  have blind : (x.port n).blind = (s.port n).blind := by rw [State.port_onPort_self]
  have stays : (decide ((s.port n).state = 1) && !(x.port n).blind) = true ↔ (s.port n).state = 1 ∧ (s.port n).blind = false := by
    simp [blind]
  have counted : (if decide ((s.port n).state = 1) && !(x.port n).blind then x else x.retrain n).identCounts n b = z :=
    congrArg (State.identCounts n b) (if_congr stays rfl rfl)
  have joins : ((z.port n).readmit && z.admissible n) = true ↔ (z.port n).readmit = true ∧ z.admissible n = true := Bool.and_eq_true_iff
  refine Eq.trans ?_ (if_congr joins rfl rfl)
  rw [← counted]
  rfl

theorem State.badRecord_counts (locked : (s.port n).retLock = true) (served : s.served n = true) :
    s.badRecord n = (s.onPort n fun p => { p with retAt := s.lamp }).addWrap (Reg.TL_RET_ERR n) 15 0 1 := by
  unfold State.badRecord
  rw [locked, served]
  exact if_pos rfl

end

end Sys2Proof.Machine
end

section
/-! PROOFS. The statements of the tile link chapter that are settled: O46, O48, O45, O40, O43, O41. -/

namespace Sys2Proof.Machine

open Sys2Proof

/-- Settles O46: a good copy counts and its SEQ decides; each first copy is its operation, and a command that changes one tile end
alone leaves the other tiles and the ports. -/
theorem copiesOfParcels : Obligations.CopiesOfParcels := by
  unfold Obligations.CopiesOfParcels
  intro s n l p quiet on locked x q lanes counted fresh stale after
  refine ⟨fun seen => ?_, fun new unknown => ?_, fun new known => ?_, fun runt seq => ?_⟩
  · have duplicate {i : Instr} {act : State → State} (meaning : exec i s = finish (s.tileCopy n l p act)) :
        after i { counted with dup := (x.dup + 1) % 65536, window := q :: x.window.erase q } :=
      exec_tile quiet meaning (State.tileCopy_duplicate on locked seen act)
    simp only [List.forall_mem_cons]
    exact ⟨duplicate rfl, duplicate rfl, duplicate rfl, duplicate rfl, duplicate rfl, duplicate rfl, duplicate rfl, duplicate rfl,
      duplicate rfl, fun _ empty => absurd empty List.not_mem_nil⟩
  · exact exec_tile quiet rfl (State.tileCopy_unknown ⟨on, locked, new⟩ unknown _)
  · have first : s.FirstKnown n l p := ⟨⟨on, locked, new⟩, known⟩
    refine ⟨fun other => ?_, fun same out => ?_, fun same admitted => ?_, fun admitted confirm => ?_, fun admitted drop => ?_,
      fun admitted notice => ?_, ⟨fun held => ?_, fun further training => ?_, fun further two five => ?_⟩,
      fun admitted => ⟨fun last => ?_, fun goesOn => ?_⟩, ?_, fun chunk => ?_, fun commit => ?_, fun read => ?_, fun ended => ?_,
      fun sleep => ?_, fun other => ?_, fun test => ?_, fun resync => ?_⟩
    · have turned (act : Tile → Tile) : s.tileFrameCopy n l p act = s.withTile n stale := State.tileFrameCopy_stale first other act
      exact ⟨exec_tile quiet rfl (turned _), exec_tile quiet rfl (turned _), exec_tile quiet rfl (turned _)⟩
    · have passed (act : Tile → Tile) : s.tileFrameCopy n l p act = s.withTile n fresh :=
        State.tileFrameCopy_unadmitted first same out act
      exact ⟨exec_tile quiet rfl (passed _), exec_tile quiet rfl (passed _), exec_tile quiet rfl (passed _)⟩
    · have taken (act : Tile → Tile) : s.tileFrameCopy n l p act = s.withTile n (act fresh) :=
        State.tileFrameCopy_taken first same admitted act
      have segs : fresh.segs = x.segs := Tile.fresh_segs l p x
      have probes : fresh.probes = x.probes := Tile.fresh_probes l p x
      rw [← segs, ← probes]
      exact ⟨exec_tile quiet rfl (taken _), exec_tile quiet rfl (taken _), exec_tile quiet rfl (taken _)⟩
    · refine exec_tile quiet rfl ((State.retimeIn_first first admitted).trans ?_)
      rw [confirm, if_neg (by decide), if_pos rfl]
      rfl
    · refine exec_tile quiet rfl ((State.retimeIn_first first admitted).trans ?_)
      rw [if_neg (by omega), if_neg (by omega)]
      rfl
    · exact congrArg finish ((State.retimeIn_first first admitted).trans (if_pos notice))
    · exact exec_tile quiet rfl (State.admitIn_again first held)
    · have taking : x.state ≠ 6 := by omega
      refine congrArg finish ((State.admitIn_new first further taking).trans ?_)
      rw [if_pos training, Tile.joins_fresh_training _ training]
      rfl
    · have taking : x.state ≠ 6 := by omega
      have admitted : x.state ≠ 1 := by omega
      refine congrArg finish ((State.admitIn_new first further taking).trans ?_)
      rw [if_neg admitted, Tile.joins_fresh_admitted _ admitted]
      rfl
    · exact congrArg finish (State.retireIn_last first admitted last)
    · exact congrArg finish (State.retireIn_leaves first admitted goesOn)
    · exact exec_tile quiet rfl (State.fallbackIn_first first)
    · exact exec_tile quiet rfl (State.flashIn_chunk first chunk)
    · exact congrArg finish (State.flashIn_commit first commit)
    · exact congrArg finish (State.flashIn_read first read)
    · exact exec_tile quiet rfl (State.flashIn_other first ended)
    · exact congrArg finish (State.laneIn_ls2 first sleep)
    · exact exec_tile quiet rfl (State.laneIn_other first other)
    · exact exec_tile quiet rfl (State.laneIn_test first test)
    · exact congrArg finish (State.laneIn_resync first resync)
  · exact congrArg finish (State.tileBadCopy_answered on locked runt seq)

/-- Settles O48: each row is its operation, whose conditions hold; sending records leaves the tile's kitty counters and its SENSOR
index. -/
theorem tileRecordsAndLanes : Obligations.TileRecordsAndLanes := by
  unfold Obligations.TileRecordsAndLanes
  refine fun s n => ⟨fun m => ?_, fun m outs made sends => ?_, fun l part on locked => ?_, fun l on unlocked => ?_,
    fun on awake lost => ?_, fun l k on awake pair kept keptOn lost lostOn => ?_, rfl, fun r admitted => ?_⟩
  · exact congrArg finish (State.tilePowerUp_eq s n m)
  · have nonempty : outs ≠ [] := by
      rcases sends with ⟨one, _, _⟩ | ⟨unadmitted, _⟩
      · rw [one]
        exact List.cons_ne_nil 0 []
      · exact unadmitted
    exact congrArg finish (State.tileIdent_sends made (Tile.training_eq made sends) nonempty)
  · exact congrArg finish (State.tileLaneLost_locked on locked part)
  · exact congrArg finish (State.tileLaneLock_unlocked on unlocked)
  · exact congrArg finish (State.tileTransmitLoss_all on awake lost)
  · exact congrArg finish (State.tileTransmitLoss_one on awake pair kept keptOn lost lostOn)
  · exact congrArg finish (State.tileSensor_admitted admitted r)

/-- Settles O45: an event or a record that is received finds the port's test, load or read as it was, and each row is its operation,
whose conditions hold. -/
theorem linkTestsAndTileFlash : Obligations.LinkTestsAndTileFlash := by
  unfold Obligations.LinkTestsAndTileFlash
  refine fun s n => ⟨fun r l e t hears runs awaited => ?_, fun t errors on test runs last => ?_, fun r failed e j hears job committed => ?_,
    fun j t0 on job committed => ?_, fun r off data j on locked served job start upTo body => ?_⟩
  · have still : ((s.heard n r e).port n).test = some t := by rw [State.heard_port, runs]
    exact exec_event hears rfl (State.testResultIn_awaited still awaited e)
  · exact exec_row on rfl (State.testEnd_last test runs last errors)
  · have still : ((s.heard n r e).port n).flash = some j := by rw [State.heard_port, job]
    exact exec_event hears rfl (State.flashDoneIn_committed still committed failed)
  · exact exec_row on rfl (State.flashTimeout_committed job committed)
  · have still : ((s.received n r).port n).read = some j := by rw [State.received_port, job]
    have asked : j.asks off.toNat := ⟨start, upTo, body⟩
    rw [← State.received_host s n r, ← State.received_hostReady s n r]
    exact ⟨fun down => exec_record on locked served rfl (State.flashDataIn_linkDown still asked down data),
      fun up ready => exec_record on locked served rfl (State.flashDataIn_taken still asked up ready data)⟩

/-- Settles O40: each row is its operation, whose conditions hold; where no line is held, ACK has none to acknowledge. -/
theorem parcelsAndAcknowledgements : Obligations.ParcelsAndAcknowledgements := by
  unfold Obligations.ParcelsAndAcknowledgements
  refine fun s n on => ⟨fun lane ecc portOn isOpen => ?_, fun k owed first own due => ?_,
    fun seq x found unacked whole sent idle seeing may close lines => ?_, fun r b locked served => ?_, fun r b locked served => ?_⟩
  · exact exec_row on rfl (State.parcelSend_open portOn isOpen ecc)
  · exact exec_row on rfl (State.closeSend_due owed first own due)
  · exact exec_row on rfl (State.resendTimeout_due found unacked whole sent idle seeing may close lines)
  · rw [← State.received_frame s n r]
    exact exec_record on locked served rfl (State.ackIn_eq n b _)
  · exact exec_record on locked served rfl (State.nakIn_eq n b _)

/-- Settles O43: an event that is heard finds the port's lanes and the Deal as they were, and each row is its operation, whose
conditions hold. -/
theorem lanesGoDownAndComeBack : Obligations.LanesGoDownAndComeBack := by
  unfold Obligations.LanesGoDownAndComeBack
  refine fun s n => ⟨fun r l e hears => ⟨?_, ?_⟩, fun r e hears blind => ?_, fun on unlocked declared ready => ?_,
    fun on locked => ⟨fun expected => ?_, fun awake untested => ?_⟩, fun l on asleep => ?_⟩
  · refine exec_event hears rfl ((State.laneDownIn_eq n l e _).trans ?_)
    rw [State.heard_chipLanes]
    rfl
  · refine exec_event hears rfl ((State.laneUpIn_eq n l e _).trans ?_)
    rw [State.heard_chipLanes]
    rfl
  · have still : ((s.heard n r e).port n).blind = true := by rw [State.heard_port, blind]
    refine exec_event hears rfl ((State.resyncIn_blind still e).trans ?_)
    rw [State.heard_port]
    rfl
  · exact exec_row on rfl (State.retLaneLock_declared unlocked declared ready)
  · exact exec_row on rfl (State.retLaneLost_expected locked expected)
  · exact exec_row on rfl (State.retLaneLost_lost locked awake untested)
  · exact exec_row on rfl (State.ls1Exit_asleep asleep)

/-- Settles O41: a record that is received finds the tile's state at the chip as it was, and each row is its operation, whose
conditions hold. -/
theorem reportsOfTheTile : Obligations.ReportsOfTheTile := by
  unfold Obligations.ReportsOfTheTile
  refine fun s n r on locked served => ⟨fun b => ?_, fun b => ?_, fun b => ?_, fun b => ?_, ?_⟩
  · exact exec_record on locked served rfl (State.statusIn_eq n b _)
  · exact exec_record on locked served rfl rfl
  · exact exec_record on locked served rfl rfl
  · refine exec_record on locked served rfl ((State.identIn_eq n b _).trans ?_)
    rw [State.received_port]
    rfl
  · exact exec_row on rfl (State.badRecord_counts locked served)

end Sys2Proof.Machine
end

section
/-! SUPPORT. The visit that ends a pass or an initialisation, the requests of TLn_DIAG_CTL, trips of residuals and trace channels (10 R238,
R242, R248; 11 R262, R277). -/

namespace Sys2Proof.Machine

open Sys2Proof

/-! ### Pixel diagnostics (10 R238, R242, R248) -/

/-- A visit that is due before the cut is made at the cut's time, for a tile that is visited (log 13). -/
theorem State.visitAtCut_due {s : State} {n : TileId} {due : Bool} (now : due = true) (started : s.timing.started = true)
    (before : s.timing.pastCut = false) (visiting : s.visiting n = true) :
    s.visitAtCut n due = (s.advanceTo (s.nextTick - 25000)).visitCut n :=
  if_pos (by simp [now, started, before, visiting])

/-- Two changes of a tile's diagnostics, one after the other, are one. -/
theorem State.onDiag_onDiag (n : TileId) (f g : Diag → Diag) (s : State) :
    (s.onDiag n f).onDiag n g = s.onDiag n fun d => g (f d) := by
  simp [State.onDiag, vector_get_set]

/-- A change that leaves a tile's diagnostics as they are changes nothing. -/
theorem State.onDiag_id (n : TileId) (s : State) : (s.onDiag n fun d => d) = s := by
  simp [State.onDiag, Vector.get]

/-- A write to TLn_DIAG_CTL requests what its bits 0 and 1 name, and takes no request back. -/
theorem State.writeDiagCtl_eq (n : TileId) (v : Nat) (s : State) : s.writeDiagCtl n v =
    s.onDiag n fun d => { d with fmapInit := d.fmapInit || bitAt v 0, pendFlush := d.pendFlush || bitAt v 1 } := by
  unfold State.writeDiagCtl
  cases init : bitAt v 0 <;> cases flush : bitAt v 1
  case false.false => simp [State.onDiag_id]
  case true.true => simp [State.fmapInitReq, State.pendFlushReq, State.onDiag_onDiag]
  case true.false | false.true => simp [State.fmapInitReq, State.pendFlushReq]

/-! ### The control engine (11 R262, R277) -/

/-- An input that trips is marked and, with RES_ACTION 1, makes a hand-over due; the trip is told and raised (11 R262). -/
theorem State.residualTrip_due {s : State} {l : LoopId} {i : Nat} {b : Bytes} (due : s.tripDue l i = true)
    (bank : (s.loop l).bank = some b) (res : Int) :
    s.residualTrip l i res = (((s.onLoop l fun lp => { lp with
      tripped := lp.tripped.set i true, holdDue := lp.holdDue || decide (resAction b i = 1) }).loopFlag l 0 1).loopEvent l 3 i 0 res
        (resLim b i) 0).raise 27 (l.val + 256 * i) := by
  unfold State.residualTrip
  rw [if_pos due, bank]
  rfl

/-- An armed one-shot channel that has triggered and written its entries stops. -/
theorem TraceCh.postEnd_written {t : TraceCh} (armed : t.armed = true) (triggered : t.triggered = true) (written : t.postLeft = 0) :
    t.postEnd true = { t with armed := false, stopped := true } :=
  if_pos (by simp [armed, triggered, written])

theorem State.tracePostEnd_written {s : State} {c : Fin 4} (armed : (s.ctl.traces.get c).armed = true)
    (triggered : (s.ctl.traces.get c).triggered = true) (oneshot : s.bit (Reg.CTL_TRC_CFG c) 28 = true)
    (written : (s.ctl.traces.get c).postLeft = 0) :
    s.tracePostEnd c = s.onTrace c fun t => { t with armed := false, stopped := true } := by
  rw [State.tracePostEnd, oneshot, State.onTrace, State.onCtl, TraceCh.postEnd_written armed triggered written]
  rfl

end Sys2Proof.Machine
end

section
/-! PROOFS. The statement of the pixel diagnostics chapter that is settled: O49. -/

namespace Sys2Proof.Machine

open Sys2Proof

/-- Settles O49: each row is its operation, whose conditions hold; a served write to TLn_DIAG_CTL or CTL_TRCc_CTL is one action
under both of its rows. -/
theorem diagnosticsAndTraces : Obligations.DiagnosticsAndTraces := by
  unfold Obligations.DiagnosticsAndTraces
  refine fun s => ⟨fun n on started before visiting => ⟨fun last => ?_, fun last => ?_⟩, fun m n value serves => ?_,
    fun l on ended => ?_, fun l i b on due bank => ?_, fun m c value serves => ?_,
    fun c on armed triggered oneshot written => ?_⟩
  · exact exec_row on rfl (State.visitAtCut_due (decide_eq_true last) started before visiting)
  · exact exec_row on rfl (State.visitAtCut_due (decide_eq_true last) started before visiting)
  · have asks := (State.write_DIAG_CTL n serves value.toNat).trans (State.writeDiagCtl_eq n value.toNat s)
    exact ⟨exec_row serves.1 rfl asks, exec_row serves.1 rfl asks⟩
  · exact exec_row on rfl (if_pos ended)
  · refine exec_row on rfl ((if_pos due).trans ?_)
    rw [State.residualTrip_due due bank]
    rfl
  · have asks := State.write_TRC_CTL c serves value.toNat
    exact ⟨exec_row serves.1 rfl asks, exec_row serves.1 rfl asks⟩
  · exact exec_row on rfl (State.tracePostEnd_written armed triggered oneshot written)

end Sys2Proof.Machine
end

section
/-! SUPPORT. The milk round, the thermal monitor's level, the entry of trims, and the save and restore of calibration (12 R279, R286,
R287, R291, R292). -/

namespace Sys2Proof.Machine

open Sys2Proof

/-! ### The milk round and the level in force (12 R279, R292) -/

/-- A decided level comes into force at its time. -/
theorem State.applyLevel_decided {s : State} {l at0 : Nat} (decided : s.house.therm.next = some (l, at0)) :
    s.applyLevel = (s.advanceTo at0).onTherm fun t => { t with level := l, next := none } := by
  rw [State.applyLevel, decided]

/-- A level that comes into force leaves the rounds where they are. -/
theorem State.applyLevel_roundStart (s : State) : s.applyLevel.house.roundStart = s.house.roundStart := by
  cases decided : s.house.therm.next with
  | none => rw [State.applyLevel, decided]
  | some p => rw [State.applyLevel_decided decided]; rfl

/-! ### The judgement of the hottest reading (12 R292) -/

/-- The level that a hottest reading forces: 2 from 122.0 °C, 1 from 118.0 °C. -/
def forcedLevel (h : Int) : Nat := if 1220 ≤ h then 2 else if 1180 ≤ h then 1 else 0
/-- The reading below which an evaluation is cool: 119.0 °C at level 2, 115.0 °C at level 1. -/
def Therm.coolLimit (t : Therm) : Int := if t.lT = 2 then 1190 else 1150

/-- A count of cool evaluations ends where this one is cool and seven went before it. -/
theorem coolCount_eight (h limit : Int) (n : Nat) : 8 ≤ coolCount h limit n ↔ h < limit ∧ 7 ≤ n := by
  unfold coolCount
  split <;> omega

/-- The level rises at once to the forced one, and falls by one at the end of its count of cool evaluations. -/
theorem Therm.judge_lT (h : Int) (t : Therm) : (t.judge h).lT =
    if t.lT < forcedLevel h then forcedLevel h
    else if (h < t.coolLimit ∧ 7 ≤ t.cool) ∧ 0 < t.lT then t.lT - 1 else t.lT := by
  simp only [Therm.judge, coolCount_eight, apply_ite Therm.lT]
  rfl

/-- WARN is set from 110.0 °C, and is cleared at the end of its count of cool evaluations. -/
theorem Therm.judge_warn (h : Int) (t : Therm) :
    (t.judge h).warn = true ↔ 1100 ≤ h ∨ t.warn = true ∧ ¬(h < 1070 ∧ 7 ≤ t.warnCool) := by
  simp only [Therm.judge, apply_ite Therm.warn, ite_self, ← coolCount_eight, not_le, Bool.or_eq_true, Bool.and_eq_true,
    decide_eq_true_eq]

/-- The forced level is reached, whatever the count of cool evaluations: no reading that forces the level in force is cool there. -/
theorem Therm.forcedLevel_le_judge (h : Int) (t : Therm) : forcedLevel h ≤ (t.judge h).lT := by
  rw [Therm.judge_lT]
  unfold forcedLevel Therm.coolLimit
  split_ifs <;> omega

theorem forcedLevel_le_two (h : Int) : forcedLevel h ≤ 2 := by
  unfold forcedLevel
  split_ifs <;> omega

theorem Therm.judge_lT_le_two {t : Therm} (low : t.lT ≤ 2) (h : Int) : (t.judge h).lT ≤ 2 := by
  have := forcedLevel_le_two h
  rw [Therm.judge_lT]
  split_ifs <;> omega

theorem Therm.le_judge_lT_succ (h : Int) (t : Therm) : t.lT ≤ (t.judge h).lT + 1 := by
  rw [Therm.judge_lT]
  split_ifs <;> omega

/-- A level that falls does so at the eighth cool evaluation. -/
theorem Therm.cool_of_judge_lT_lt {h : Int} {t : Therm} (falls : (t.judge h).lT < t.lT) : h < t.coolLimit ∧ 7 ≤ t.cool := by
  by_contra warm
  rw [Therm.judge_lT, if_neg (fun ended => warm ended.1 : ¬((h < t.coolLimit ∧ 7 ≤ t.cool) ∧ 0 < t.lT))] at falls
  split_ifs at falls <;> omega

/-! ### The entry of trims (12 R287) -/

/-- An entry that begins leaves the round as it is. -/
@[simp] theorem House.beginEntry_round (e : TrimEntry) (goal : Nat → Option Int) (h : House) : (h.beginEntry e goal).round = h.round := by
  rw [House.beginEntry]

/-- A trim `j` sixteenths of the way from its old value to its target. -/
def partway (old goal : Int) (j : Nat) : Int := old + (goal - old) * j / 16

@[simp] theorem partway_zero (old goal : Int) : partway old goal 0 = old := by simp [partway]
@[simp] theorem partway_sixteen (old goal : Int) : partway old goal 16 = goal := by
  unfold partway
  omega

theorem partway_rising {old goal : Int} (rises : old ≤ goal) {j : Nat} (steps : j ≤ 16) :
    old ≤ partway old goal j ∧ partway old goal j ≤ goal := by
  have begun : 0 ≤ (goal - old) * j := mul_nonneg (by omega) (by omega)
  have ends : (goal - old) * j ≤ (goal - old) * 16 := mul_le_mul_of_nonneg_left (by omega) (by omega)
  unfold partway
  omega

theorem partway_falling {old goal : Int} (falls : goal ≤ old) {j : Nat} (steps : j ≤ 16) :
    goal ≤ partway old goal j ∧ partway old goal j ≤ old := by
  have begun : (goal - old) * j ≤ 0 := mul_nonpos_of_nonpos_of_nonneg (by omega) (by omega)
  have ends : (goal - old) * 16 ≤ (goal - old) * j := mul_le_mul_of_nonpos_left (by omega) (by omega)
  unfold partway
  omega

/-- A trim whose entry began after round `d` has its old value until then and its target from round `d + 16` on, and is never beyond
either. -/
theorem partway_rounds (old goal : Int) (d r : Nat) :
    let now := partway old goal (min 16 (r - d))
    (d + 16 ≤ r → now = goal) ∧ (r ≤ d → now = old) ∧ (old ≤ goal → old ≤ now ∧ now ≤ goal) ∧ (goal ≤ old → goal ≤ now ∧ now ≤ old) := by
  have steps : min 16 (r - d) ≤ 16 := min_le_left ..
  refine ⟨fun late => ?_, fun early => ?_, fun rises => partway_rising rises steps, fun falls => partway_falling falls steps⟩
  · rw [min_eq_left (by omega), partway_sixteen]
  · rw [Nat.sub_eq_zero_of_le early, min_eq_right (by omega), partway_zero]

/-- In a round of an entry a trim is as many sixteenths of its way as rounds have gone since `e.d`, and at most all of them. -/
theorem House.stepEntry_trim {h : House} {e : TrimEntry} (entry : h.entry = some e) (r : Nat) (w : Fin 30) :
    (h.stepEntry r).trim w = partway ((h.olds.get w).getD (h.trim w)) ((h.targets.get w).getD (h.trim w)) (min 16 (r - e.d)) := by
  simp [House.stepEntry, entry, House.trim, partway]

/-! ### Save and restore (12 R291) -/

theorem bitAt_mod_four (v : Nat) {i : Nat} (low : i < 2) : bitAt v i = bitAt (v % 4) i := by
  simp [bitAt, Nat.testBit_mod_two_pow v 2 i, low]

/-- A write of 1 to SAVE alone. -/
theorem State.writeCalCtl_save {v : Nat} (save : v % 4 = 1) (s : State) : s.writeCalCtl v = s.calStart false := by
  rw [State.writeCalCtl, bitAt_mod_four v (by decide : 0 < 2), bitAt_mod_four v (by decide : 1 < 2), save]
  rfl

/-- A write of 1 to RESTORE alone. -/
theorem State.writeCalCtl_restore {v : Nat} (restore : v % 4 = 2) (s : State) : s.writeCalCtl v = s.calStart true := by
  rw [State.writeCalCtl, bitAt_mod_four v (by decide : 0 < 2), bitAt_mod_four v (by decide : 1 < 2), restore]
  rfl

/-- A served SAVE is a start of a save, and a served RESTORE one of a restore. -/
theorem exec_save {s : State} {m : Master} {value : Word} (serves : s.serves m Reg.HK_CAL_CTL) (save : value.toNat % 4 = 1) :
    exec (.save m value) s = .next (State.settle (s.calStart false)) :=
  exec_row serves.1 rfl ((State.write_CAL_CTL serves _).trans (State.writeCalCtl_save save s))

theorem exec_restore {s : State} {m : Master} {value : Word} (serves : s.serves m Reg.HK_CAL_CTL) (restore : value.toNat % 4 = 2) :
    exec (.restore m value) s = .next (State.settle (s.calStart true)) :=
  exec_row serves.1 rfl ((State.write_CAL_CTL serves _).trans (State.writeCalCtl_restore restore s))

/-- With a run, an entry, a save or a restore in progress a start is rejected. -/
theorem State.calStart_busy {s : State} (busy : s.calSaveBusy = true) (restore : Bool) :
    s.calStart restore = s.setFlag Reg.HK_CAL_RES 20 := if_pos busy

/-- With none of them in progress a save or restore begins where HK_CALSAVE may be used, and fails elsewhere. -/
theorem State.calStart_idle {s : State} (cal : s.house.cal = none) (entry : s.house.entry = none) (save : s.house.save = none)
    (restoring : s.house.restore = none) (restore : Bool) :
    s.calStart restore = if s.calSaveOk s.calSaveAddr = true
      then s.onHouse fun h => if restore then { h with restore := some s.calSaveAddr } else { h with save := some s.calSaveAddr }
      else s.calFailed 7 := by
  have idle : s.calSaveBusy = false := by simp [State.calSaveBusy, cal, entry, save, restoring]
  cases ok : s.calSaveOk s.calSaveAddr <;> simp [State.calStart, idle, ok]

end Sys2Proof.Machine
end

section
/-! PROOFS. The statements of the calibration and thermal chapter that are settled: O50 and O51. -/

namespace Sys2Proof.Machine

open Sys2Proof

/-- Settles O50: each row is its operation, whose conditions hold; the judgement reaches the forced level, and lets the level fall
at the end of its count of cool evaluations alone. -/
theorem milkAndThermalRows : Obligations.MilkAndThermalRows := by
  unfold Obligations.MilkAndThermalRows
  refine fun s => ⟨fun conv on => ?_, fun conv on due => ?_, fun l at0 on decided => ?_, fun h t low => ?_⟩
  · refine exec_row on rfl ?_
    rw [State.applyLevel_roundStart]
    rfl
  · exact exec_row on rfl (if_pos due)
  · exact exec_row on rfl (State.applyLevel_decided decided)
  · have forced := t.forcedLevel_le_judge h
    have top := Therm.judge_lT_le_two low h
    refine ⟨fun hot => ?_, fun warm => ?_, t.le_judge_lT_succ h, top, Therm.cool_of_judge_lT_lt,
      fun warm => (t.judge_warn h).2 (.inl warm), fun warned cleared => ?_⟩
    · rw [forcedLevel, if_pos hot] at forced
      omega
    · unfold forcedLevel at forced
      split_ifs at forced <;> omega
    · by_contra lasts
      exact Bool.eq_false_iff.1 cleared ((t.judge_warn h).2 (.inr ⟨warned, lasts⟩))

/-- Settles O51: each row is its operation, whose conditions hold; a trim being entered is partway from its old value to its target,
and a served write to HK_CAL_CTL with one of its bits set is one start. -/
theorem calibrationRows : Obligations.CalibrationRows := by
  unfold Obligations.CalibrationRows
  refine fun s => ⟨fun c r1 r2 on cal run1 run2 => ?_, fun h e r w entry => ?_, fun e on entry ended => ?_,
    fun m value serves busy => ⟨fun one => ?_, fun two => ?_⟩,
    fun m value serves cal entry save restore => ⟨fun one => ?_, fun two => ?_⟩,
    fun a on job => ?_, fun a on job good => ?_⟩
  · refine exec_row on rfl ?_
    simp only [State.calDecision, cal, run1, run2]
  · dsimp only
    rw [House.stepEntry_trim entry]
    exact partway_rounds _ _ e.d r
  · refine exec_row on rfl ?_
    simp only [State.entryDone, entry, if_neg (not_lt.2 ended), satAdd, State.lampSecond]
  · rw [exec_save serves one, State.calStart_busy busy]
  · rw [exec_restore serves two, State.calStart_busy busy]
  · rw [exec_save serves one, State.calStart_idle cal entry save restore]
    rfl
  · rw [exec_restore serves two, State.calStart_idle cal entry save restore]
    rfl
  · refine exec_row on rfl ?_
    rw [State.saveDone, job]
    rfl
  · refine exec_row on rfl ?_
    rw [State.restoreDone, job]
    simp only [good, Bool.not_true, Bool.false_eq_true, if_false, ite_not, State.onHouse_house, House.beginEntry_round]

end Sys2Proof.Machine
end

section
/-! SUPPORT. The fade of a channel, the operations of the accent driver where they act, and its served writes (13 R301, R303, R305 to
R307, R310, R314). -/

namespace Sys2Proof.Machine

open Sys2Proof

/-! ### Fades (13 R303) -/

@[simp] theorem AccCh.fadeStep_start (x : AccCh) : x.fadeStep.start = x.start := by unfold AccCh.fadeStep; split <;> rfl
@[simp] theorem AccCh.fadeStep_target (x : AccCh) : x.fadeStep.target = x.target := by unfold AccCh.fadeStep; split <;> rfl
@[simp] theorem AccCh.fadeStep_len (x : AccCh) : x.fadeStep.len = x.len := by unfold AccCh.fadeStep; split <;> rfl

/-- A tick of a fade that has not ended is counted. -/
theorem AccCh.fadeStep_k {x : AccCh} (fading : x.k < x.len) : x.fadeStep.k = x.k + 1 := by
  rw [AccCh.fadeStep, if_neg (not_le.2 fading)]

/-- A tick of a fade that has not ended puts the index the counted share of the way from its start to its target. -/
theorem AccCh.fadeStep_index {x : AccCh} (fading : x.k < x.len) :
    x.fadeStep.index = ((x.start : Int) + Int.tdiv (((x.target : Int) - x.start) * (x.k + 1 : Nat)) x.len).toNat := by
  rw [AccCh.fadeStep, if_neg (not_le.2 fading)]

/-- A channel after `n` fade ticks. -/
def AccCh.afterTicks (x : AccCh) (n : Nat) : AccCh := (List.range n).foldl (fun y _ => y.fadeStep) x

theorem AccCh.afterTicks_succ (x : AccCh) (n : Nat) : x.afterTicks (n + 1) = (x.afterTicks n).fadeStep := by
  simp [AccCh.afterTicks, List.range_succ]

/-- What a fade keeps of its channel: where it started, where it goes and how long it takes; a new one counts its ticks. -/
theorem AccCh.afterTicks_keeps {x : AccCh} (new : x.k = 0) {n : Nat} (upTo : n ≤ x.len) :
    (x.afterTicks n).start = x.start ∧ (x.afterTicks n).target = x.target ∧ (x.afterTicks n).len = x.len ∧ (x.afterTicks n).k = n := by
  induction n with
  | zero => exact ⟨rfl, rfl, rfl, new⟩
  | succ n ih =>
    obtain ⟨start, target, len, k⟩ := ih (by omega)
    have fading : (x.afterTicks n).k < (x.afterTicks n).len := by omega
    rw [AccCh.afterTicks_succ]
    refine ⟨?_, ?_, ?_, ?_⟩
    · rw [AccCh.fadeStep_start, start]
    · rw [AccCh.fadeStep_target, target]
    · rw [AccCh.fadeStep_len, len]
    · rw [AccCh.fadeStep_k fading, k]

/-- The index at the tick `n + 1` of a fade. -/
theorem AccCh.afterTicks_index {x : AccCh} (new : x.k = 0) {n : Nat} (during : n < x.len) :
    (x.afterTicks (n + 1)).index = ((x.start : Int) + Int.tdiv (((x.target : Int) - x.start) * (n + 1 : Nat)) x.len).toNat := by
  obtain ⟨start, target, len, k⟩ := AccCh.afterTicks_keeps new during.le
  rw [AccCh.afterTicks_succ, AccCh.fadeStep_index (by omega), start, target, len, k]

/-- A fade ends at its target. -/
theorem AccCh.afterTicks_len_index {x : AccCh} (lasts : 1 ≤ x.len) (new : x.k = 0) : (x.afterTicks x.len).index = x.target := by
  obtain ⟨n, len⟩ := Nat.exists_eq_add_of_le' lasts
  have last := AccCh.afterTicks_index new (by omega : n < x.len)
  rw [← len, Int.mul_tdiv_cancel _ (by omega)] at last
  rw [last]
  omega

/-! ### Periods, fade ticks and scan slots where they act (13 R301, R303, R305, R306) -/

/-- The test with which an operation of the accent driver passes over a driver that does not run or is in the other mode. -/
theorem ite_idle (runs other : Bool) (s t : State) :
    (if (!runs || other) = true then s else t) = if runs = true ∧ other = false then t else s := by
  cases runs <;> cases other <;> rfl

/-- A slot of the scan frame in progress opens its line's gate, and the used channels latch and pulse. -/
theorem State.scanSlot_open {s : State} {t0 p j : Nat} (scan : s.accent.scan = some (t0, p, j)) (within : j < 8 * (p / 50000))
    (matrix : s.matrixOn = true) (runs : s.accRuns = true) (samples : List PinSample) :
    let line : Fin 8 := ⟨j % 8, Nat.mod_lt _ (by decide)⟩
    let len := slotAt p (j + 1) - slotAt p j
    s.scanSlot samples = forEach s.accChans
      (fun c t => (t.latchLevel c).accPulse c (some line) (len - 200)
        (mul16 ((t.latchLevel c).accent.cell (48 * line.val + c.val)) ((t.latchLevel c).acc c).inForce) 100 samples)
      (((s.advanceTo (t0 + slotAt p j)).onAccent fun a => { a with scan := some (t0, p, j + 1) }).emit (.gate line 50 (len - 100))) := by
  rw [State.scanSlot, scan]
  exact if_neg (by simp [matrix, runs, within])

/-- An MSYNC edge that is missing during a scan starts the next scan frame, and is told where it is the first. -/
theorem State.msyncLost_scanning {s : State} {t0 p j : Nat} (scan : s.accent.scan = some (t0, p, j)) (msync : s.msync = true)
    (matrix : s.matrixOn = true) (runs : s.accRuns = true) :
    let lost := (((s.advanceTo (t0 + p * 3 / 2)).setFlag Reg.ACC_EVT 5).onAccent fun a => { a with lost := true }).scanStart p
    s.msyncLost = if s.accent.lost = true then lost else lost.matrixRecord 1 p := by
  rw [State.msyncLost, scan]
  exact if_neg (by simp [msync, matrix, runs])

/-! ### Served writes (13 R307, R310, R314) -/

/-- A write of 1 to CLR asks for the clearing, but for a channel whose group the Deal leaves unused. -/
theorem State.writeAccCtl_clr {c : Fin 48} {v : Nat} (clear : bitAt v 0 = true) (s : State) :
    s.writeAccCtl c v = if s.accUnused c = true then s else s.onAcc c fun x => { x with clr := true } := by
  rw [State.writeAccCtl, clear]
  cases s.accUnused c <;> rfl

end Sys2Proof.Machine
end

section
/-! PROOFS. The statement of the accent driver chapter that is settled: O52. -/

namespace Sys2Proof.Machine

open Sys2Proof

/-- Settles O52: each row is its operation, whose conditions hold; the ticks of a new fade count up to its length, and the last of them
has gone the whole way from the start to TARGET. -/
theorem accentRows : Obligations.AccentRows := by
  unfold Obligations.AccentRows
  refine fun s => ⟨fun samples on => ?_, fun checks on => ?_, fun m c value serves => ?_, fun x lasts new => ?_,
    fun samples t0 p j on scan within matrix runs => ?_, fun t0 p j on scan msync matrix runs => ?_,
    fun m value serves swap => ?_, fun m c value serves clear => ?_⟩
  · exact exec_row on rfl (ite_idle s.accRuns s.matrixOn _ _)
  · refine exec_row on rfl ?_
    cases runs : s.accRuns with
    | false => exact if_pos (congrArg not runs)
    | true => exact if_neg (ne_of_eq_of_ne (congrArg not runs) Bool.false_ne_true)
  · exact exec_row serves.1 rfl (State.write_CH_FADE c serves value.toNat)
  · exact AccCh.afterTicks_len_index lasts new
  · exact exec_row on rfl (State.scanSlot_open scan within matrix runs samples)
  · exact exec_row on rfl (State.msyncLost_scanning scan msync matrix runs)
  · exact exec_row serves.1 rfl ((State.write_MCTL serves value.toNat).trans (if_pos swap))
  · exact exec_row serves.1 rfl ((State.write_CH_CTL c serves value.toNat).trans (State.writeAccCtl_clr clear s))

end Sys2Proof.Machine
end

section
/-! SUPPORT. The partner link, joins and takeovers, and the messages of a pair (14 R328, R329, R331, R333 to R335, R337). -/

namespace Sys2Proof.Machine

open Sys2Proof

section
variable {s : State}

/-! ### The search for the partner and the link's locks (R328, R329) -/

theorem State.ptnNotFound_due {k : Nat} (waits : s.partner.waitFrames = some k) (long : 64 ≤ k) :
    s.ptnNotFound = (((s.onPartner fun p => { p with waitFrames := none, missing := true }).ptnFlag 3).raise 116 0).partnerRecord 5 0 :=
  if_pos (by rw [waits, Option.any_some, decide_eq_true long])

theorem State.ptnNotFound_early (early : ∀ k ∈ s.partner.waitFrames, k < 64) : s.ptnNotFound = s := by
  refine if_neg fun due => ?_
  obtain ⟨k, waits, long⟩ := (Option.any_eq_true _ _).1 due
  exact absurd (of_decide_eq_true long) (not_le.2 (early k waits))

/-- With no join there is nothing to go on with. -/
theorem State.joinGo_idle (idle : s.partner.join = none) : s.joinGo = s := if_pos (by rw [idle]; rfl)

/-- A lane that locks is noted, and both lanes end the search. -/
theorem State.partnerLinkLock_idle (role : s.role ≠ 0) (idle : s.partner.join = none) (lane : Fin 2) (delay : Nat) :
    let locks := s.partner.laneLock ||| (1#2 <<< lane.val)
    s.partnerLinkLock lane delay = s.onPartner fun p => { p with
      laneLock := locks, delay := delay
      waitFrames := if locks = 3 then none else p.waitFrames, missing := if locks = 3 then false else p.missing } := by
  intro locks
  unfold State.partnerLinkLock
  dsimp only
  rw [if_neg role, State.joinGo_idle]
  · by_cases both : locks = 3
    · simp only [if_pos both]
      exact if_pos both
    · simp only [if_neg both]
      exact if_neg both
  · split <;> exact idle

/-! ### Time limits (R329, R334) -/

theorem State.joinTimeout_joining {ref : CmdRef} {since : Nat} (join : s.partner.join = some (ref, since)) :
    s.joinTimeout = ((s.advanceTo (since + msCounts 1000)).completeWith ref .timeout).joinEnds .timeout := by
  simp only [State.joinTimeout, State.joinFails, State.advanceTo_partner, join]

/-- The chip is SOLO after a join that ended without lock. -/
theorem State.joinEnds_partner (st : Status) : (s.joinEnds st).partner = { s.partner with
    state := 0, join := none, joinStep := 0, adopt := none, adopted := false, timing := none } :=
  posts_field (·.partner) (posts_post ..)

theorem State.partnerRedealTimeout_waiting {r : Redeal} (redeal : s.deal.redeal = some r) (locked : s.partner.state = 2)
    (unpaired : r.paired = false) (untaken : r.taken = false) : s.partnerRedealTimeout =
      ((s.advanceTo (r.verified + msCounts 1000)).onDeal fun d => { d with redeal := none }).completeWith r.ref .timeout := by
  unfold State.partnerRedealTimeout
  rw [redeal]
  exact if_pos (by rw [locked, unpaired, untaken]; rfl)

/-! ### Takeover (R335) -/

/-- A chip that holds no line sends none. -/
theorem State.sendHeld_none (none : s.partner.held = []) : s.sendHeld = s := by
  have kept : (s.onPartner fun p => { p with held := [] }) = s := by rw [State.onPartner, ← none]
  unfold State.sendHeld
  rw [none, kept]
  rfl

/-- The survivor of a pair is ALONE, and takes nothing more from its partner. -/
def State.alone (cause : Nat) (s : State) : State :=
  let x := s.onPartner fun p => { p with
    state := 3, fromPartner := false, laneLock := if cause = 1 then 0 else p.laneLock
    takeovers := satAdd 0xFFFF p.takeovers 1, cmds := [], cuts := [], outs := [], timing := none, leaveDue := false }
  if s.partner.fromPartner && s.timing.syncSrc then x.onTiming fun t => { t with lock := {} } else x

@[simp] theorem State.alone_dev (cause : Nat) : (s.alone cause).dev = s.dev := by
  unfold State.alone
  dsimp only
  split <;> rfl

theorem State.alone_partner (cause : Nat) : (s.alone cause).partner = { s.partner with
    state := 3, fromPartner := false, laneLock := if cause = 1 then 0 else s.partner.laneLock
    takeovers := satAdd 0xFFFF s.partner.takeovers 1, cmds := [], cuts := [], outs := [], timing := none, leaveDue := false } := by
  unfold State.alone
  dsimp only
  split <;> rfl

/-- A takeover by a chip that holds no line: it is ALONE, and raises PTN_LINK_LOST and PTN_TAKEOVER. -/
theorem State.takeover_unheld (locked : s.partner.state = 2) (unheld : s.partner.held = []) (cause : Nat) :
    s.takeover cause = (((((s.alone cause).ptnFlag 0).raise 113 (if cause = 1 then s.partner.laneLock.toNat else 0)).ptnFlag 1).raise
      114 cause).partnerRecord 3 cause := by
  have held : (s.alone cause).partner.held = [] := by rw [State.alone_partner, unheld]
  rw [← State.sendHeld_none held]
  exact if_neg (not_not.2 locked)

/-- What lies beyond the events and the registers is after a takeover what `alone` leaves of it. -/
theorem State.takeover_keeps {β : Type} (g : State → β) (locked : s.partner.state = 2) (unheld : s.partner.held = []) (cause : Nat)
    (hg : ∀ s : State, g s = g s.beyond := by intro _; rfl) : g (s.takeover cause) = g (s.alone cause) := by
  have flag (bit : Nat) (x : State) : g (x.ptnFlag bit) = g x := by
    rw [hg, hg x]
    rfl
  rw [State.takeover_unheld locked unheld]
  calc g _
      = _ := follows_field g (posts_post ..).follows hg
    _ = _ := follows_field g (follows_raise 114 cause _) hg
    _ = _ := flag 1 _
    _ = _ := follows_field g (follows_raise 113 _ _) hg
    _ = _ := flag 0 _

/-- A raise of a class above C sets its pending bit, and leaves the others as they are. -/
theorem State.raise_pend {i : Nat} (input : i < 128) (cls : 2 ≤ faultClass i) (d : Nat) :
    (s.raise i d).faults.pend = s.faults.pend ||| (1#128 <<< i) := by
  obtain ⟨⟨_, _, pend, _⟩, _⟩ := raised_raiseAs input (Iff.rfl (a := faultClass i = 3)) (d % 65536) false false s
  rw [State.raise, if_neg (by omega)]
  exact pend.trans (if_pos cls)

/-- A takeover leaves PTN_LINK_LOST and PTN_TAKEOVER pending. -/
theorem State.takeover_pend (locked : s.partner.state = 2) (unheld : s.partner.held = []) (cause : Nat) :
    (s.takeover cause).faults.pend.getLsbD 113 = true ∧ (s.takeover cause).faults.pend.getLsbD 114 = true := by
  have told (x : State) : (x.partnerRecord 3 cause).faults = x.faults := posts_field (·.faults) (posts_post ..)
  have flag (x : State) : (x.ptnFlag 1).faults = x.faults := rfl
  have lost : (1#128 <<< 113).getLsbD 113 = true := by decide
  have taken : (1#128 <<< 114).getLsbD 114 = true := by decide
  rw [State.takeover_unheld locked unheld, told, State.raise_pend (by decide) (by decide), flag, State.raise_pend (by decide) (by decide)]
  simp only [BitVec.getLsbD_or, lost, taken, Bool.or_true, Bool.true_or, and_self]

/-! ### The lock of a join (R329 step 6) -/

/-- The mask of the tiles of a list. -/
def tileMask (l : List TileId) : BitVec 16 := l.foldl (fun (m : BitVec 16) (n : TileId) => m ||| (1#16 <<< n.val)) 0

theorem getLsbD_foldl_tiles (n : TileId) (l : List TileId) (m : BitVec 16) :
    (l.foldl (fun (m : BitVec 16) (n : TileId) => m ||| (1#16 <<< n.val)) m).getLsbD n.val = (m.getLsbD n.val || decide (n ∈ l)) := by
  induction l generalizing m with
  | nil => simp
  | cons k l ih =>
    have one : (1#16 <<< k.val).getLsbD n.val = decide (n = k) := by
      rw [BitVec.getLsbD_shiftLeft, BitVec.getLsbD_one, Bool.eq_iff_iff]
      simp [Fin.ext_iff]
      omega
    rw [List.foldl_cons, ih, BitVec.getLsbD_or, one, Bool.or_assoc]
    simp

theorem getLsbD_tileMask (l : List TileId) (n : TileId) : (tileMask l).getLsbD n.val = decide (n ∈ l) := by
  rw [tileMask, getLsbD_foldl_tiles]
  simp

/-- A mask covers the tiles of a list where each has its bit in it. -/
theorem and_tileMask_eq_iff (v : BitVec 16) (l : List TileId) :
    v &&& tileMask l = tileMask l ↔ ∀ n ∈ l, v.getLsbD n.val = true := by
  constructor
  · intro covers n mem
    have bit := congrArg (BitVec.getLsbD · n.val) covers
    simpa [getLsbD_tileMask, mem] using bit
  · intro bits
    refine BitVec.eq_of_getLsbD_eq fun i small => ?_
    have tile := getLsbD_tileMask l ⟨i, small⟩
    rw [BitVec.getLsbD_and, tile]
    by_cases mem : (⟨i, small⟩ : TileId) ∈ l
    · rw [bits _ mem, Bool.true_and]
    · rw [decide_eq_false mem, Bool.and_false]

/-- The join has come to step 5, and each chip has every declared tile admitted on its own lane. -/
def State.pairAdmitted (s : State) : Prop := s.partner.joinStep = 5 ∧
  ∀ n : TileId, s.declared n = true → s.partner.ownAdmitted.getLsbD n.val = true ∧ s.partner.peerAdmitted.getLsbD n.val = true

/-- The test by which a join locks. -/
theorem State.pairAdmitted_iff (s : State) : s.pairAdmitted ↔ s.partner.joinStep = 5 ∧
    s.partner.ownAdmitted &&& tileMask s.declaredTiles = tileMask s.declaredTiles ∧
    s.partner.peerAdmitted &&& tileMask s.declaredTiles = tileMask s.declaredTiles := by
  have mem (n : TileId) : n ∈ s.declaredTiles ↔ s.declared n = true := by simp [State.declaredTiles, tileIds]
  simp only [and_tileMask_eq_iff, mem, State.pairAdmitted, imp_and, forall_and]

theorem State.joinLock_waits (apart : ¬s.pairAdmitted) : s.joinLock = s := by
  unfold State.joinLock
  split
  · exact if_neg fun both => apart (s.pairAdmitted_iff.2 both)
  · rfl

/-- A join whose tiles are admitted locks: PARTNER_JOIN completes OK, and the record says so. -/
theorem State.joinLock_locks {j : CmdRef × Nat} (join : s.partner.join = some j) (both : s.pairAdmitted) :
    s.joinLock = ((s.onPartner fun p => { p with
      state := 2, join := none, joinStep := 0, adopted := false, fromPartner := decide (s.role = 2), lanesOff := false, held := []
      cmds := [] }).completeOk j.1 0).partnerRecord 1 0 := by
  unfold State.joinLock
  rw [join]
  exact if_pos (s.pairAdmitted_iff.1 both)

theorem State.joinLock_partner {j : CmdRef × Nat} (join : s.partner.join = some j) (both : s.pairAdmitted) :
    s.joinLock.partner = { s.partner with
      state := 2, join := none, joinStep := 0, adopted := false, fromPartner := decide (s.role = 2), lanesOff := false, held := []
      cmds := [] } := by
  rw [State.joinLock_locks join both]
  exact answers_field (·.partner) ((answers_complete ..).trans (posts_post ..).answers)

/-! ### Messages (R331 to R334, R337) -/

/-- What a primary tells its secondary does nothing at a chip that is not the secondary of a locked pair. -/
theorem State.partnerMessage_unexpected (other : s.lockedSecondary = false) {msg : PartnerMsg}
    (primary : (∃ n f l p, msg = .plan n f l p) ∨ (∃ n l c, msg = .digest n l c) ∨ (∃ n a b c d, msg = .cutData n a b c d) ∨
      (∃ v, msg = .outputs v) ∨ (∃ o c, msg = .command o c) ∨ (∃ f, msg = .redealCut f)) : s.partnerMessage msg = s := by
  have apart : ¬s.lockedSecondary = true := Bool.eq_false_iff.1 other
  rcases primary with ⟨n, f, l, p, rfl⟩ | ⟨n, l, c, rfl⟩ | ⟨n, a, b, c, d, rfl⟩ | ⟨v, rfl⟩ | ⟨o, c, rfl⟩ | ⟨f, rfl⟩
  case inr.inr.inl => exact if_pos (by rw [other]; rfl)
  all_goals exact if_neg apart

/-- A locked secondary takes the primary's tick at the next one; how far it is off is a free value (log 61). -/
theorem State.partnerMessage_tick (secondary : s.lockedSecondary = true) (t : PeerTick) : s.partnerMessage (.tick t) = { s with
    partner := { s.partner with timing := some t, offset := (s.free % 5 + 65534) % 65536 }, freeSeq := s.freeSeq + 1 } := by
  simp only [State.partnerMessage, if_pos secondary, State.useFree, State.onPartner]

/-- A state command or TRUMP_SELECT of the primary waits for the coming cut. -/
theorem State.partnerMessage_command (secondary : s.lockedSecondary = true) {op : Nat} (waits : isStateCmd op = true ∨ op = 0x13)
    (c : Cmd) :
    s.partnerMessage (.command op c) = s.onPartner fun p => { p with cmds := p.cmds ++ [(op, c)] } :=
  (if_pos secondary).trans (if_pos (by simpa using waits))

/-- Until its cut the secondary keeps the primary's values for the next frame. -/
theorem State.partnerMessage_cutData (secondary : s.lockedSecondary = true) (before : s.timing.pastCut = false) (n : TileId)
    (a : List (Nat × Nat)) (b : List ((Nat × Nat) × Nat)) (c d : Nat) :
    s.partnerMessage (.cutData n a b c d) = s.onPartner fun p => { p with cuts := p.cuts ++ [⟨n, a, b, c, d⟩] } :=
  (if_neg (by rw [secondary]; decide)).trans (if_neg (Bool.eq_false_iff.1 before))

/-- A safe light of the partner makes the entry due where none is. -/
theorem State.safeLightDue_first (lit : s.dev.state = .lit ∨ s.dev.state = .hold) (first : s.faults.safeDue = none) (cause : Nat) :
    s.safeLightDue cause = s.onFaults fun f => { f with safeDue := some cause } := by
  rw [State.safeLightDue, if_pos lit]
  simp only [State.onFaults, first, Option.isNone_none, if_true]

/-- A chip that does not join notes who its partner is. -/
theorem State.partnerMessage_hello (role : s.role ≠ 0) (idle : s.partner.join = none) (p : PeerInfo) :
    s.partnerMessage (.hello p) = s.onPartner fun x => { x with peer := some p } := by
  refine (if_neg role).trans ?_
  have unjoined : (s.onPartner fun x => { x with
      peer := some p, join := x.join.map fun j => if s.partner.peer.isNone then (j.1, max j.2 s.lamp) else j }) =
      s.onPartner fun x => { x with peer := some p } := by
    simp only [State.onPartner, idle, Option.map_none]
  rw [unjoined]
  exact State.joinGo_idle idle

end

end Sys2Proof.Machine
end

section
/-! PROOFS. The statement of the faults and partner chapter that is settled: O54. -/

namespace Sys2Proof.Machine

open Sys2Proof

/-- Settles O54: each row is its operation, whose conditions hold; a takeover is read off what `alone` leaves, and a join locks by the
masks of the declared tiles. -/
theorem partnerRows : Obligations.PartnerRows := by
  unfold Obligations.PartnerRows
  refine fun s on => ⟨fun k waits long => ?_, fun early => ?_, fun lane delay => ⟨fun solo => ?_, fun role idle => ?_⟩,
    fun ref since join => ⟨?_, ?_⟩, fun r redeal locked unpaired untaken => ?_,
    fun c => ⟨fun locked => ?_, fun apart harmless => ?_, fun apart lanes linked => ?_⟩,
    fun locked unheld c _ => ?_, fun other msg primary => ?_, fun apart => ⟨?_, ?_, ?_⟩,
    fun secondary => ⟨fun t => ?_, fun v => ?_, fun f => ?_, fun op c waits => ?_, fun n a b c d before => ?_⟩,
    fun locked => ⟨?_, ?_, fun lit first => ?_⟩, fun mask joins => ?_, fun p role idle => ?_⟩
  · exact exec_row on rfl (State.ptnNotFound_due waits long)
  · exact exec_row on rfl (State.ptnNotFound_early early)
  · exact exec_row on rfl (if_pos solo)
  · exact exec_row on rfl (State.partnerLinkLock_idle role idle lane delay.toNat)
  · exact exec_row on rfl (State.joinTimeout_joining join)
  · exact State.joinEnds_partner .timeout
  · exact exec_row on rfl (State.partnerRedealTimeout_waiting redeal locked unpaired untaken)
  · exact exec_row on rfl (if_pos locked)
  · refine exec_row on rfl ((if_neg apart).trans (if_neg fun lost => ?_))
    exact harmless.elim (· lost.1) lost.2
  · exact exec_row on rfl ((if_neg apart).trans (if_pos ⟨lanes, linked⟩))
  · have partner := (State.takeover_keeps (·.partner) locked unheld c).trans (State.alone_partner c)
    have dev := (State.takeover_keeps (·.dev.state) locked unheld c).trans (congrArg Dev.state (State.alone_dev c))
    rw [partner, dev]
    exact ⟨rfl, rfl, rfl, rfl, State.takeover_pend locked unheld c⟩
  · exact exec_row on rfl (State.partnerMessage_unexpected other primary)
  · exact exec_row on rfl (if_neg (mt of_decide_eq_true apart))
  · exact exec_row on rfl (if_neg (mt of_decide_eq_true apart))
  · exact exec_row on rfl (if_neg (mt of_decide_eq_true apart))
  · exact exec_row on rfl (State.partnerMessage_tick secondary t)
  · exact exec_row on rfl (if_pos secondary)
  · exact exec_row on rfl (if_pos secondary)
  · exact exec_row on rfl (State.partnerMessage_command secondary waits c)
  · exact exec_row on rfl (State.partnerMessage_cutData secondary before n a b c d)
  · exact exec_row on rfl (if_pos (decide_eq_true locked))
  · exact exec_row on rfl (if_pos (decide_eq_true locked))
  · exact exec_row on rfl ((if_pos (decide_eq_true locked)).trans (State.safeLightDue_first lit first 0x10))
  · obtain ⟨j, join⟩ := Option.ne_none_iff_exists'.1 joins
    have told : s.partnerMessage (.admitted mask) = (s.onPartner fun p => { p with peerAdmitted := mask }).joinLock :=
      if_pos (by rw [join]; rfl)
    refine ⟨fun apart => exec_row on rfl (told.trans (State.joinLock_waits apart)), fun both => ⟨exec_row on rfl told, ?_⟩⟩
    rw [State.joinLock_partner (s := s.onPartner fun p => { p with peerAdmitted := mask }) join both]
    exact ⟨rfl, rfl⟩
  · exact exec_row on rfl (State.partnerMessage_hello role idle p)

end Sys2Proof.Machine
end

section
/-! SUPPORT. The core hands (15 R349, R350): stacks of claims whose priorities rise strictly, what a claim and its completion make
of the stack, and which source wins arbitration. -/

namespace Sys2Proof.Machine

open Sys2Proof

/-! ### Nested claims -/

/-- Claims from the top down: their priorities fall strictly, and each lies from 1 to 15. -/
def NestedClaims (l : List (Nat × Nat)) : Prop := (l.map (·.2)).Pairwise (· > ·) ∧ ∀ x ∈ l, 1 ≤ x.2 ∧ x.2 ≤ 15

/-- The priority on top of a stack of claims, 0 for none. -/
def claimsRun (l : List (Nat × Nat)) : Nat := (l.map (·.2)).headD 0

theorem CoreHand.run_eq (c : CoreHand) : c.run = claimsRun c.stack := by
  unfold CoreHand.run
  cases c.stack <;> rfl

/-- Priorities that differ and lie from 1 to 15 are at most fifteen. -/
theorem NestedClaims.length_le {l : List (Nat × Nat)} (nested : NestedClaims l) : l.length ≤ 15 := by
  obtain ⟨falls, bounds⟩ := nested
  have differ : (l.map (·.2)).Nodup := falls.imp fun h => Nat.ne_of_gt h
  have within : (l.map (·.2)).toFinset ⊆ Finset.Icc 1 15 := fun p hp => by
    obtain ⟨x, hx, rfl⟩ := List.mem_map.1 (List.mem_toFinset.1 hp)
    exact Finset.mem_Icc.2 (bounds x hx)
  calc l.length = (l.map (·.2)).toFinset.card := by rw [List.toFinset_card_of_nodup differ, List.length_map]
    _ ≤ (Finset.Icc 1 15).card := Finset.card_le_card within
    _ = 15 := Nat.card_Icc 1 15

/-- No claim of a nested stack lies above the one on top. -/
theorem NestedClaims.le_run {l : List (Nat × Nat)} (nested : NestedClaims l) : ∀ x ∈ l, x.2 ≤ claimsRun l := by
  obtain ⟨falls, _⟩ := nested
  cases l with
  | nil => exact fun _ hx => absurd hx List.not_mem_nil
  | cons top rest =>
    have below := (List.pairwise_cons.1 falls).1
    intro x hx
    rcases List.mem_cons.1 hx with rfl | hx
    · exact Nat.le_refl _
    · exact Nat.le_of_lt (below x.2 (List.mem_map_of_mem hx))

/-- A claim above the one on top keeps the stack nested. -/
theorem NestedClaims.push {l : List (Nat × Nat)} (nested : NestedClaims l) {id prio : Nat} (above : claimsRun l < prio) (most : prio ≤ 15) :
    NestedClaims ((id, prio) :: l) := by
  refine ⟨List.pairwise_cons.2 ⟨fun p hp => ?_, nested.1⟩, List.forall_mem_cons.2 ⟨⟨by omega, most⟩, nested.2⟩⟩
  obtain ⟨x, hx, rfl⟩ := List.mem_map.1 hp
  exact Nat.lt_of_le_of_lt (nested.le_run x hx) above

/-- Below the top of a nested stack lies a nested one that runs at less. -/
theorem NestedClaims.pop {top : Nat × Nat} {rest : List (Nat × Nat)} (nested : NestedClaims (top :: rest)) :
    NestedClaims rest ∧ claimsRun rest < claimsRun (top :: rest) := by
  obtain ⟨falls, bounds⟩ := nested
  obtain ⟨below, falls⟩ := List.pairwise_cons.1 falls
  obtain ⟨least, bounds⟩ := List.forall_mem_cons.1 bounds
  refine ⟨⟨falls, bounds⟩, ?_⟩
  cases rest with
  | nil => exact least.1
  | cons next _ => exact below next.2 List.mem_cons_self

/-! ### The operations of a core hand -/

@[simp] theorem State.core_onCore_self (h : Fin 2) (f : CoreHand → CoreHand) (s : State) :
    (s.onCore h f).intc.cores.get h = f (s.intc.cores.get h) :=
  (vector_get_set s.intc.cores h h _).trans (if_pos rfl)

/-- Two changes that agree on the hand as it is make the same state. -/
theorem State.onCore_congr {h : Fin 2} {f g : CoreHand → CoreHand} {s : State} (same : f (s.intc.cores.get h) = g (s.intc.cores.get h)) :
    s.onCore h f = s.onCore h g := by
  unfold State.onCore State.onIntc
  simp only [same]

/-- Completing the claim on top pops it. -/
theorem State.claimWrite_top {s : State} {h : Fin 2} {top : Nat × Nat} {rest : List (Nat × Nat)}
    (stack : (s.intc.cores.get h).stack = top :: rest) :
    s.claimWrite .core h top.1 = s.onCore h fun c => { c with stack := rest } := by
  unfold State.claimWrite
  refine State.onCore_congr ?_
  simp only [stack, if_true]

/-- Completing any other ID is an error, and leaves the stack. -/
theorem State.claimWrite_other {s : State} {h : Fin 2} {id : Nat} (other : ∀ top ∈ (s.intc.cores.get h).stack.head?, top.1 ≠ id) :
    s.claimWrite .core h id = s.onCore h fun c => { c with completeErr := true } := by
  unfold State.claimWrite
  refine State.onCore_congr ?_
  split
  next top _ stack => rw [if_neg (other top (by rw [stack]; rfl))]
  · rfl

/-- CLAIM_WRITE of a core that is served is the completion of the ID written. -/
theorem exec_claimWrite {s : State} {h : Fin 2} (serves : s.serves .core (Reg.INTC_HAND_CLAIM h)) (value : Word) :
    exec (.claimWrite .core h value) s = .next (State.settle (s.claimWrite .core h (bitsOf value.toNat 9 0))) :=
  exec_row serves.1 rfl (State.write_HAND_CLAIM h serves _)

/-- A priority has four bits. -/
theorem State.srcPrio_le (s : State) (src : Nat) : s.srcPrio src ≤ 15 := Nat.le_of_lt_succ (bitsOf_lt _ 3 0)

/-- What may be claimed is pending, and its priority exceeds RUN. -/
theorem State.claimable_iff (s : State) (h : Fin 2) (src : Nat) : s.claimable h src = true ↔
    (s.intc.cores.get h).pend.getLsbD src = true ∧ s.fld (Reg.INTC_HAND_CFG h) 7 4 < s.srcPrio src ∧
      (s.intc.cores.get h).run < s.srcPrio src := by
  simp only [State.claimable, Bool.and_eq_true, decide_eq_true_eq, and_assoc]

/-- A claim leaves the stack, or pushes the source selected, which runs above it. -/
theorem State.claim_stack (s : State) (h : Fin 2) :
    ((s.claim h).2.intc.cores.get h).stack = (s.intc.cores.get h).stack ∨
      ((s.claim h).2.intc.cores.get h).stack =
        ((s.intc.cores.get h).selected, s.srcPrio (s.intc.cores.get h).selected) :: (s.intc.cores.get h).stack ∧
      (s.intc.cores.get h).run < s.srcPrio (s.intc.cores.get h).selected := by
  by_cases idle : (s.intc.cores.get h).selected = 0
  · rw [State.claim_none idle]
    exact .inl rfl
  · cases valid : s.claimValid h (s.intc.cores.get h).selected with
    | true =>
      rw [State.claim_valid idle valid, State.core_onCore_self]
      unfold State.claimValid at valid
      simp only [Bool.and_eq_true] at valid
      obtain ⟨⟨may, _⟩, _⟩ := valid
      obtain ⟨_, _, above⟩ := (s.claimable_iff h _).1 may
      exact .inr ⟨rfl, above⟩
    | false =>
      rw [State.claim_invalid idle valid, State.core_onCore_self]
      exact .inl rfl

/-! ### Arbitration -/

/-- One comparison of arbitration: a source replaces the best so far where it may be claimed and has the higher priority. -/
def State.better (s : State) (h : Fin 2) (best src : Nat) : Nat :=
  if s.claimable h src && (decide (best = 0) || decide (s.srcPrio best < s.srcPrio src)) then src else best

/-- The source that wins arbitration, 0 for none. -/
def State.winner (s : State) (h : Fin 2) : Nat := (List.range 384).foldl (s.better h) 0

/-- What the best of some sources has: it may be claimed, and none of those compared that may be has a higher priority. -/
structure State.BestOf (s : State) (h : Fin 2) (compared : List Nat) (best : Nat) : Prop where
  claimable : best ≠ 0 → s.claimable h best = true
  found : ∀ src ∈ compared, s.claimable h src = true → best ≠ 0 ∧ s.srcPrio src ≤ s.srcPrio best

/-- A comparison with one source more. -/
theorem State.BestOf.better {s : State} {h : Fin 2} {compared : List Nat} {best src : Nat} (is : s.BestOf h compared best)
    (nonzero : src ≠ 0) : s.BestOf h (compared ++ [src]) (s.better h best src) := by
  unfold State.better
  by_cases may : s.claimable h src = true
  · by_cases wins : best = 0 ∨ s.srcPrio best < s.srcPrio src
    · rw [if_pos (by simp [may, wins])]
      refine ⟨fun _ => may, fun x hx mayX => ⟨nonzero, ?_⟩⟩
      rcases List.mem_append.1 hx with old | new
      · obtain ⟨some, least⟩ := is.found x old mayX
        have less := wins.resolve_left some
        omega
      · rw [List.mem_singleton.1 new]
    · rw [if_neg (by simp [may, wins])]
      obtain ⟨some, least⟩ := not_or.1 wins
      refine ⟨is.claimable, fun x hx mayX => ?_⟩
      rcases List.mem_append.1 hx with old | new
      · exact is.found x old mayX
      · rw [List.mem_singleton.1 new]
        exact ⟨some, Nat.not_lt.1 least⟩
  · rw [if_neg (by simp [may])]
    refine ⟨is.claimable, fun x hx mayX => ?_⟩
    rcases List.mem_append.1 hx with old | new
    · exact is.found x old mayX
    · rw [List.mem_singleton.1 new] at mayX
      contradiction

/-- The best of a list of sources. -/
theorem State.BestOf.foldl {s : State} {h : Fin 2} : ∀ (l compared : List Nat) (best : Nat), (∀ src ∈ l, src ≠ 0) →
    s.BestOf h compared best → s.BestOf h (compared ++ l) (l.foldl (s.better h) best)
  | [], compared, best, _, is => by rwa [List.append_nil]
  | src :: l, compared, best, nonzero, is => by
    obtain ⟨here, there⟩ := List.forall_mem_cons.1 nonzero
    have next := State.BestOf.foldl l (compared ++ [src]) (s.better h best src) there (is.better here)
    rwa [List.append_assoc] at next

/-- Sources 1 to 383. -/
def sources : List Nat := (List.range 383).map Nat.succ

theorem mem_sources {src : Nat} (least : 1 ≤ src) (most : src < 384) : src ∈ sources :=
  List.mem_map.2 ⟨src - 1, List.mem_range.2 (by omega), by omega⟩

theorem nonzero_of_mem_sources : ∀ src ∈ sources, src ≠ 0 := fun src hsrc => by
  obtain ⟨k, _, rfl⟩ := List.mem_map.1 hsrc
  exact k.succ_ne_zero

/-- The winner is the best of all sources. -/
theorem State.winner_best (s : State) (h : Fin 2) : s.BestOf h sources (s.winner h) := by
  have all : List.range 384 = 0 :: sources := List.range_succ_eq_map
  have first : s.better h 0 0 = 0 := ite_self 0
  unfold State.winner
  rw [all, List.foldl_cons, first]
  exact State.BestOf.foldl sources [] 0 nonzero_of_mem_sources ⟨fun h => absurd rfl h, fun _ h => absurd h List.not_mem_nil⟩

/-- Where none is selected, arbitration selects the winner. -/
theorem State.arbitrate_selects {s : State} {h : Fin 2} (idle : (s.intc.cores.get h).selected = 0) :
    ((s.arbitrate h).intc.cores.get h).selected = s.winner h := by
  unfold State.arbitrate
  rw [if_neg (not_not.2 idle)]
  change ((if s.winner h = 0 then s else s.onCore h fun c => { c with selected := s.winner h }).intc.cores.get h).selected = _
  by_cases none : s.winner h = 0
  · rw [if_pos none, idle, none]
  · rw [if_neg none, State.core_onCore_self]

end Sys2Proof.Machine
end

section
/-! SUPPORT. A write to INTC_SRCs_CFG (15 R354, R355, R358): where it goes, the word it makes, and the fields that word shows. -/

namespace Sys2Proof.Machine

open Sys2Proof

/-! ### Where the write goes -/

/-- A row none of whose registers lies at the offset is passed over. -/
theorem findRow_past {r : RegRow} {off : Nat} (apart : rowIndices r.dims (off - r.base) = none) (rows : List RegRow) :
    findRow (r :: rows) off = findRow rows off := by
  rw [findRow, apart, ite_self]

/-- The first row that has the register is the one found. -/
theorem findRow_here {r : RegRow} {off : Nat} {is : List Nat} (after : r.base ≤ off) (here : rowIndices r.dims (off - r.base) = some is)
    (rows : List RegRow) : findRow (r :: rows) off = some (r, is) := by
  rw [findRow, if_neg (Nat.not_lt.2 after), here]

theorem rowIndices_apart {d : Nat} (apart : d ≠ 0) : rowIndices [] d = none := if_neg apart
theorem rowIndices_beyond {c st d : Nat} (rest : List (Nat × Nat)) (beyond : c ≤ d / st) : rowIndices ((c, st) :: rest) d = none :=
  if_neg (Nat.not_lt.2 beyond)

/-- Source s has register 0x041000 + 8 s. -/
theorem srcCfg_eq (src : Nat) : Reg.INTC_SRC_CFG src = 0x041000 + src * 0x8 := rfl

theorem regBlock_srcCfg {src : Nat} (most : src < 384) : regBlock (Reg.INTC_SRC_CFG src) = regRows04 := by
  have high : Reg.INTC_SRC_CFG src / 0x100000 = 0 := by rw [srcCfg_eq]; omega
  have low : Reg.INTC_SRC_CFG src / 0x10000 = 4 := by rw [srcCfg_eq]; omega
  simp only [regBlock, high, low]

theorem rowIndices_srcCfg {src : Nat} (most : src < 384) : rowIndices [(384, 0x8)] (Reg.INTC_SRC_CFG src - 0x041000) = some [src] := by
  have distance : Reg.INTC_SRC_CFG src - 0x041000 = src * 8 := by rw [srcCfg_eq]; omega
  rw [distance]
  simp only [rowIndices, Nat.mul_div_cancel _ (show 0 < 8 by decide), Nat.mul_mod_left, most, if_true]

theorem regAt_srcCfg {src : Nat} (least : 1 ≤ src) (most : src < 384) :
    (regAt (Reg.INTC_SRC_CFG src)).map (fun x => (x.1.base, x.2)) = some (Reg.INTC_SRC_CFG 0, [src]) := by
  have row : ∃ r : RegRow, r.base = Reg.INTC_SRC_CFG 0 ∧ findRow regRows04 (Reg.INTC_SRC_CFG src) = some (r, [src]) := by
    refine ⟨_, rfl, (findRow_past (rowIndices_apart ?_) _).trans <| (findRow_past (rowIndices_apart ?_) _).trans <|
      (findRow_past (rowIndices_beyond _ ?_) _).trans <| (findRow_past (rowIndices_beyond _ ?_) _).trans <|
      (findRow_past (rowIndices_beyond _ ?_) _).trans <| (findRow_past (rowIndices_beyond _ ?_) _).trans <|
      (findRow_past (rowIndices_beyond _ ?_) _).trans <| findRow_here ?_ (rowIndices_srcCfg most) _⟩
    all_goals
      simp only [srcCfg_eq]
      omega
  obtain ⟨r, base, found⟩ := row
  have listed : ¬(Reg.INTC_SRC_CFG src = 0x041000 ∨ Reg.INTC_SRC_CFG src = 0x041004) := by
    rw [srcCfg_eq]
    omega
  rw [regAt, if_neg listed, regBlock_srcCfg most, found, Option.map_some, base]

theorem plain_srcCfg {src : Nat} (most : src < 384) : Plain (Reg.INTC_SRC_CFG src) := by
  unfold Plain
  rw [srcCfg_eq]
  omega

theorem State.write_SRC_CFG {s : State} {m : Master} {src : Nat} (least : 1 ≤ src) (most : src < 384)
    (serves : s.serves m (Reg.INTC_SRC_CFG src)) (v : Nat) : s.writeReg m (Reg.INTC_SRC_CFG src) 4 v = s.writeSrcCfg src v :=
  State.writeReg_hook (base := Reg.INTC_SRC_CFG 0) (is := [src]) serves (plain_srcCfg most) (regAt_srcCfg least most) (by decide) rfl v

/-- SOURCE_ROUTING_WRITE to INTC_SRCs_CFG is that write. -/
theorem exec_sourceRoutingWrite {s : State} {m : Master} {src : Nat} (least : 1 ≤ src) (most : src < 384)
    (serves : s.serves m (Reg.INTC_SRC_CFG src)) (value : Word) :
    exec (.sourceRoutingWrite m (BitVec.ofNat 24 (Reg.INTC_SRC_CFG src)) value) s =
      .next (State.settle (s.writeSrcCfg src value.toNat)) := by
  have offset : (BitVec.ofNat 24 (Reg.INTC_SRC_CFG src)).toNat = Reg.INTC_SRC_CFG src := by
    rw [BitVec.toNat_ofNat, srcCfg_eq]
    omega
  have routing : routingOffset (Reg.INTC_SRC_CFG src) = true := by
    have within : Reg.INTC_SRC_CFG 1 ≤ Reg.INTC_SRC_CFG src ∧ Reg.INTC_SRC_CFG src < Reg.INTC_SRC_CFG 384 := by
      simp only [srcCfg_eq]
      omega
    have aligned : Reg.INTC_SRC_CFG src % 8 = 0 := by
      rw [srcCfg_eq]
      omega
    simp only [routingOffset, within, aligned, and_self, decide_true, Bool.true_and, Bool.true_or]
  refine exec_row serves.1 rfl ?_
  rw [offset, if_pos routing, State.write_SRC_CFG least most serves]

/-! ### What it writes -/

/-- The word with the priority and the mask as written, and the route where it lies within the hands the source may reach. -/
def srcCfgWord (hands v : Nat) (w : Word) : Word :=
  if bitsOf v 23 16 &&& hands = bitsOf v 23 16 then putBits (putBits (putBits w 3 0 v) 8 8 (bitsOf v 8 8)) 23 16 (bitsOf v 23 16)
  else putBits (putBits w 3 0 v) 8 8 (bitsOf v 8 8)

theorem bitsOf_mod (v hi lo : Nat) : bitsOf v hi lo % 2 ^ (hi + 1 - lo) = bitsOf v hi lo := Nat.mod_mod _ _

theorem srcCfgWord_prio (hands v : Nat) (w : Word) : bitsOf (srcCfgWord hands v w).toNat 3 0 = bitsOf v 3 0 := by
  have prio : bitsOf (putBits (putBits w 3 0 v) 8 8 (bitsOf v 8 8)).toNat 3 0 = bitsOf v 3 0 :=
    (bitsOf_putBits_other _ 8 8 _ 3 0 (by decide) (by decide) (by decide) (by decide)).trans
      (bitsOf_putBits_self _ 3 0 v (by decide) (by decide))
  unfold srcCfgWord
  split
  · exact (bitsOf_putBits_other _ 23 16 _ 3 0 (by decide) (by decide) (by decide) (by decide)).trans prio
  · exact prio

theorem srcCfgWord_mask (hands v : Nat) (w : Word) : bitsOf (srcCfgWord hands v w).toNat 8 8 = bitsOf v 8 8 := by
  have mask : bitsOf (putBits (putBits w 3 0 v) 8 8 (bitsOf v 8 8)).toNat 8 8 = bitsOf v 8 8 :=
    (bitsOf_putBits_self _ 8 8 _ (by decide) (by decide)).trans (bitsOf_mod v 8 8)
  unfold srcCfgWord
  split
  · exact (bitsOf_putBits_other _ 23 16 _ 8 8 (by decide) (by decide) (by decide) (by decide)).trans mask
  · exact mask

theorem srcCfgWord_route (hands v : Nat) (w : Word) : bitsOf (srcCfgWord hands v w).toNat 23 16 =
    if bitsOf v 23 16 &&& hands = bitsOf v 23 16 then bitsOf v 23 16 else bitsOf w.toNat 23 16 := by
  unfold srcCfgWord
  split
  · exact (bitsOf_putBits_self _ 23 16 _ (by decide) (by decide)).trans (bitsOf_mod v 23 16)
  · exact (bitsOf_putBits_other _ 8 8 _ 23 16 (by decide) (by decide) (by decide) (by decide)).trans
      (bitsOf_putBits_other _ 3 0 _ 23 16 (by decide) (by decide) (by decide) (by decide))

/-- A field of one bit is that bit. -/
theorem bitAt_eq_field (v i : Nat) : bitAt v i = decide (bitsOf v i i = 1) := by
  unfold bitAt bitsOf
  rw [Nat.testBit_eq_decide_div_mod_eq, Nat.shiftRight_eq_div_pow, Nat.add_sub_cancel_left, pow_one]

/-- The fields of the write, before a source that it masks has its window closed. -/
def State.srcFields (src v : Nat) (s : State) : State :=
  let s := (s.setFld (Reg.INTC_SRC_CFG src) 3 0 v).setFld (Reg.INTC_SRC_CFG src) 8 8 (bitsOf v 8 8)
  if bitsOf v 23 16 &&& s.handMask src = bitsOf v 23 16 then s.setFld (Reg.INTC_SRC_CFG src) 23 16 (bitsOf v 23 16) else s

theorem posts_writeSrcCfg {src : Nat} (listed : reservedSource src = false) (v : Nat) (s : State) :
    Posts (s.srcFields src v) (s.writeSrcCfg src v) := by
  unfold State.writeSrcCfg
  rw [if_neg (by simp [listed])]
  exact Posts.ite (posts_closeWindow src false _) (Posts.refl _)

/-- The write makes the source's word of the one before, and leaves every other register. -/
theorem State.reg_writeSrcCfg {src : Nat} (listed : reservedSource src = false) (v : Nat) (s : State) :
    (s.writeSrcCfg src v).reg (Reg.INTC_SRC_CFG src) = srcCfgWord (s.handMask src) v (s.reg (Reg.INTC_SRC_CFG src)) ∧
    ∀ off, off ≠ Reg.INTC_SRC_CFG src → (s.writeSrcCfg src v).reg off = s.reg off := by
  have fields (off : Nat) : (s.writeSrcCfg src v).reg off = (s.srcFields src v).reg off :=
    posts_field (·.reg off) (posts_writeSrcCfg listed v s)
  have hands : ((s.setFld (Reg.INTC_SRC_CFG src) 3 0 v).setFld (Reg.INTC_SRC_CFG src) 8 8 (bitsOf v 8 8)).handMask src = s.handMask src := by
    simp only [State.handMask, State.theDeal, State.setFld_deal]
  refine ⟨?_, fun off other => ?_⟩
  · rw [fields, State.srcFields, hands, srcCfgWord]
    split <;> simp only [State.setFld, State.reg_setReg]
  · rw [fields, State.srcFields, hands]
    split <;> simp only [State.setFld, State.reg_setReg_other _ _ _ other]

theorem State.srcFields_faults (src v : Nat) (s : State) : (s.srcFields src v).faults = s.faults := by
  rw [State.srcFields, apply_ite State.faults, State.setFld_faults, State.setFld_faults, State.setFld_faults, ite_self]

theorem State.writeSrcCfg_quiet {s : State} (quiet : s.quiet) {src : Nat} (listed : reservedSource src = false) (v : Nat) :
    (s.writeSrcCfg src v).quiet := by
  have kept : (s.writeSrcCfg src v).faults = s.faults :=
    (posts_field (·.faults) (posts_writeSrcCfg listed v s)).trans (s.srcFields_faults src v)
  unfold State.quiet
  rw [kept]
  exact quiet

end Sys2Proof.Machine
end

section
/-! SUPPORT. Windows, hold-offs, and writes to the registers of the event queues (15 R346, R347, R351 to R353, R355, R359). -/

namespace Sys2Proof.Machine

open Sys2Proof

/-- The time of an open window that runs is over: it closes with a notification. -/
theorem State.windowTimeout_running {s : State} {src : Nat} {w : Window} (found : s.intc.windows.find? (fun w => w.src = src) = some w)
    (running : w.left = none) : s.windowTimeout src = (s.advanceTo w.closesAt).closeWindow src true := by
  unfold State.windowTimeout
  rw [found]
  exact if_neg (by simp [running])

/-- The hold-offs of the other groups and hands. -/
def Intc.otherHoldoffs (i : Intc) (g h : Nat) : List Holdoff := i.holdoffs.filter fun x => !(decide (x.group = g) && decide (x.hand = h))

/-- A hold-off that starts again with nothing waiting. -/
def State.heldAgain (s : State) (g h : Nat) (o : Holdoff) : State :=
  s.onIntc fun i => { i with holdoffs := i.otherHoldoffs g h ++ [{ o with endsAt := s.lamp + s.holdoffCounts g, waiting := [] }] }

/-- The end of a hold-off that runs. -/
theorem State.holdoffExpiry_running {s : State} {g : Fin 3} {h : Fin 8} {o : Holdoff}
    (found : s.intc.holdoffs.find? (fun o => o.group = g.val + 1 ∧ o.hand = h.val) = some o) (running : o.left = none) :
    s.holdoffExpiry g h =
      if o.waiting = [] then (s.advanceTo o.endsAt).onIntc fun i => { i with holdoffs := i.otherHoldoffs (g.val + 1) h.val }
      else if h.val < 2 then forEach o.waiting (fun src s => s.notify h.val src) ((s.advanceTo o.endsAt).heldAgain (g.val + 1) h.val o)
      else ((s.advanceTo o.endsAt).heldAgain (g.val + 1) h.val o).notify h.val 0 := by
  unfold State.holdoffExpiry
  rw [found]
  dsimp only
  rw [if_neg (by simp [running])]
  simp only [List.isEmpty_iff]
  rfl

/-- EVQq_CFG with VECTOR and WAKE as written. -/
def State.evqAimed (q : QueueId) (v : Nat) (s : State) : State :=
  (s.setFld (Reg.EVQ_CFG q) 15 12 (bitsOf v 15 12)).setFld (Reg.EVQ_CFG q) 9 8 (bitsOf v 9 8)

/-- EVQq_CFG with SIZE_LOG2 as written, where it is from 6 to 16. -/
def State.evqSized (q : QueueId) (v : Nat) (s : State) : State :=
  if 6 ≤ bitsOf v 4 0 ∧ bitsOf v 4 0 ≤ 16 then s.setFld (Reg.EVQ_CFG q) 4 0 (bitsOf v 4 0) else s

/-- Enabling a queue starts it afresh. -/
theorem State.writeEvqCfg_enable {s : State} {q : QueueId} {v : Nat} (disabled : s.evqEnabled q = false) (one : bitAt v 8 = true) :
    s.writeEvqCfg q v = ((s.evqSized q v).evqAimed q v).onEvq q fun e => { e with
      prod := 0, cons := 0, free := ((s.evqSized q v).evqAimed q v).evqSize q, armed := true, notifyPend := false, stalled := false } := by
  unfold State.writeEvqCfg State.evqSized State.evqAimed
  simp only [disabled, one, Bool.not_false, Bool.true_and, if_true, Bool.and_eq_true, decide_eq_true_eq]

/-- Disabling a queue routes its staged records again. -/
theorem State.writeEvqCfg_disable {s : State} {q : QueueId} {v : Nat} (enabled : s.evqEnabled q = true) (zero : bitAt v 8 = false) :
    s.writeEvqCfg q v = (s.evqAimed q v).rerouteQueue q := by
  unfold State.writeEvqCfg State.evqAimed
  simp only [enabled, zero, Bool.not_true, Bool.not_false, Bool.false_and, Bool.and_true, Bool.false_eq_true, if_false, if_true]

/-- Two changes that agree on the queue as it is make the same state. -/
theorem State.onEvq_congr {q : QueueId} {f g : Evq → Evq} {s : State} (same : f (s.evq q) = g (s.evq q)) : s.onEvq q f = s.onEvq q g := by
  unfold State.evq at same
  unfold State.onEvq State.onIntc
  simp only [same]

/-- CONS moves on within the records written. -/
theorem State.writeCons_within {s : State} {q : QueueId} {v : Nat}
    (within : (v + 2 ^ 32 - (s.evq q).cons) % 2 ^ 32 ≤ ((s.evq q).prod + 2 ^ 32 - (s.evq q).cons) % 2 ^ 32) :
    s.writeCons q v = (s.onEvq q fun e => { e with
      cons := v, free := e.free + (v + 2 ^ 32 - e.cons) % 2 ^ 32, notifyPend := e.notifyPend && decide (v ≠ e.prod) }).onIntc
        fun i => { i with auditDue := i.auditDue ++ [q.val] } := by
  unfold State.writeCons
  dsimp only
  rw [if_pos within]
  exact congrArg (State.onIntc _) (State.onEvq_congr rfl)

/-- CONS beyond them is an error, told where it is a new one (log 15). -/
theorem State.writeCons_beyond {s : State} {q : QueueId} {v : Nat}
    (beyond : ¬(v + 2 ^ 32 - (s.evq q).cons) % 2 ^ 32 ≤ ((s.evq q).prod + 2 ^ 32 - (s.evq q).cons) % 2 ^ 32) :
    let told := s.onEvq q fun e => { e with consErr := true }
    s.writeCons q v = if (s.evq q).consErr then told
      else told.post 0x0A (352 + q.val) (le 1 q.val ++ le 1 3 ++ zeros 2 ++ le 4 (told.evq q).prod ++ le 4 (told.evq q).cons) := by
  unfold State.writeCons
  dsimp only
  rw [if_neg beyond]
  cases (s.evq q).consErr <;> rfl

end Sys2Proof.Machine
end

section
/-! PROOFS. The statements of the interrupts and events chapter that are settled: O19, O57, O18, O20. -/

namespace Sys2Proof.Machine

open Sys2Proof

/-- Settles O19: each field of the word that the write makes reads what R354 has it read, and no other register differs. -/
theorem sourceRoutingFields : Obligations.SourceRoutingFields := by
  unfold Obligations.SourceRoutingFields
  intro s m src value quiet least most listed serves
  have quiet' := State.writeSrcCfg_quiet quiet listed value.toNat
  obtain ⟨word, others⟩ := State.reg_writeSrcCfg listed value.toNat s
  have apart : Reg.INTC_SRC_CFG src ≠ Reg.DEV_AUDIT_STAT := by
    rw [srcCfg_eq]
    exact Nat.ne_of_gt (Nat.lt_of_lt_of_le (by decide) (Nat.le_add_right _ _))
  have settled : (s.writeSrcCfg src value.toNat).settle.reg (Reg.INTC_SRC_CFG src) = _ := (settle_reg quiet' apart).trans word
  refine ⟨_, exec_sourceRoutingWrite least most serves value, ?_, ?_, ?_, fun off other audit => (settle_reg quiet' audit).trans (others off other)⟩
  · rw [State.srcPrio, State.fld, settled]
    exact srcCfgWord_prio _ _ _
  · rw [State.srcMasked, State.bit, State.fld, settled, srcCfgWord_mask, bitAt_eq_field]
  · rw [State.srcRoute, State.fld, settled]
    exact srcCfgWord_route _ _ _

/-- Settles O57: a completion pops the stack or leaves it, a claim pushes what runs above RUN, and arbitration finds the best of the
sources that may be claimed. -/
theorem claimsNest : Obligations.ClaimsNest := by
  unfold Obligations.ClaimsNest
  refine ⟨fun l nested => NestedClaims.length_le nested, fun s h => ⟨fun value serves => ⟨fun top rest stack same => ?_, fun other => ?_⟩,
    fun on => ⟨_, exec_claimRead on h, ?_⟩, fun idle src wins nonzero => ?_, fun idle other least most may => ?_⟩⟩
  · dsimp only at stack ⊢
    refine ⟨_, exec_claimWrite serves value, ?_⟩
    rw [show bitsOf value.toNat 9 0 = top.1 from same.symm, State.claimWrite_top stack, State.core_onCore_self, CoreHand.run_eq,
      CoreHand.run_eq, stack]
    exact ⟨rfl, rfl, rfl, NestedClaims.pop⟩
  · dsimp only at other ⊢
    refine ⟨_, exec_claimWrite serves value, ?_⟩
    rw [State.claimWrite_other (id := bitsOf value.toNat 9 0) other, State.core_onCore_self]
    exact ⟨rfl, rfl⟩
  · rcases s.claim_stack h with kept | ⟨pushed, above⟩
    · exact .inl kept
    · refine .inr ⟨pushed, ?_, fun nested => ?_⟩
      · exact above.trans_eq (((CoreHand.run_eq _).trans (congrArg claimsRun pushed)).symm)
      · rw [CoreHand.run_eq] at above
        exact pushed.symm ▸ NestedClaims.push nested above (s.srcPrio_le _)
  · rw [State.arbitrate_selects idle] at wins
    subst wins
    obtain ⟨pending, _, above⟩ := (s.claimable_iff h _).1 ((s.winner_best h).claimable nonzero)
    exact ⟨pending, above, fun other least most may => ((s.winner_best h).found other (mem_sources least most) may).2⟩
  · rw [State.arbitrate_selects idle]
    exact ((s.winner_best h).found other (mem_sources least most) may).1

/-- Settles O18: each row is its operation, whose conditions hold, followed by what every command brings. -/
theorem interruptHandsAndWindows : Obligations.InterruptHandsAndWindows := by
  unfold Obligations.InterruptHandsAndWindows
  refine ⟨fun s src w on found running => exec_row on rfl (State.windowTimeout_running found running),
    fun s g h o on found running => ⟨fun none => ?_, fun some core => ?_, fun some host => ?_⟩,
    fun s h value serves => ⟨fun top rest stack same => ?_, fun other => ?_⟩, fun s m h w value serves => ?_⟩
  · exact exec_row on rfl ((State.holdoffExpiry_running found running).trans (if_pos none))
  · exact exec_row on rfl ((State.holdoffExpiry_running found running).trans ((if_neg some).trans (if_pos core)))
  · exact exec_row on rfl ((State.holdoffExpiry_running found running).trans ((if_neg some).trans (if_neg host)))
  · rw [exec_claimWrite serves, ← same, State.claimWrite_top stack]
  · rw [exec_claimWrite serves, State.claimWrite_other other]
  · exact exec_row serves.1 rfl (State.write_HAND_PEND h w serves _)

/-- Settles O20: each write of a queue's registers is the operation that its fields ask for. -/
theorem eventQueuesRun : Obligations.EventQueuesRun := by
  unfold Obligations.EventQueuesRun
  refine fun s m q value => ⟨fun serves disabled one => ?_, fun serves enabled zero => ?_, fun serves within => ?_, fun serves beyond => ?_,
    fun serves one host => ?_, fun serves => ?_⟩
  · exact exec_row serves.1 rfl ((State.write_EVQ_CFG q serves _).trans (State.writeEvqCfg_enable disabled one))
  · exact exec_row serves.1 rfl ((State.write_EVQ_CFG q serves _).trans (State.writeEvqCfg_disable enabled zero))
  · exact exec_row serves.1 rfl ((State.write_EVQ_CONS q serves _).trans (State.writeCons_within within))
  · exact exec_row serves.1 rfl ((State.write_EVQ_CONS q serves _).trans (State.writeCons_beyond beyond))
  · exact exec_row serves.1 rfl ((State.write_EVQ_CTL q serves _).trans ((if_pos one).trans (if_pos host)))
  · exact exec_row serves.1 rfl (State.write_EVQ_STAT q serves _)

end Sys2Proof.Machine
end

section
/-! SUPPORT. BAR2 (16 R361, R362, R377, R379): what a read answers, and what a write leaves of DRAM. -/

namespace Sys2Proof.Machine

open Sys2Proof

/-- A read that the firewall permits, and that meets no uncorrectable word. -/
theorem State.bar2Read_permitted {s : State} {off len : Nat} (up : s.host.linkUp = true) (awake : s.host.d3hot = false)
    (permitted : s.permitted (s.bar2Addr off) len 0 = true) (good : s.dramGood (s.bar2Addr off) len = true) :
    s.bar2Read off len = s.emit (.bar2Read (s.dramRead (s.bar2Addr off) len) false) := by
  unfold State.bar2Read
  simp only [up, awake, permitted, good, Bool.not_true, Bool.false_eq_true, if_false, if_true]

/-- A read that the firewall denies. -/
theorem State.bar2Read_denied {s : State} {off len : Nat} (up : s.host.linkUp = true) (awake : s.host.d3hot = false)
    (denied : s.permitted (s.bar2Addr off) len 0 = false) :
    s.bar2Read off len = (s.deny 0 (s.bar2Addr off)).emit (.bar2Read (List.replicate len 0xFF#8) false) := by
  unfold State.bar2Read
  simp only [up, awake, denied, Bool.not_true, Bool.not_false, Bool.false_eq_true, if_false, if_true]

/-- A range that reads well has no bad word in it. -/
theorem State.badWords_good {s : State} {a n : Nat} (good : s.dramGood a n = true) :
    (s.dramBad.filter fun w => decide (a / 8 ≤ w) && decide (w * 8 < a + n) && decide (0 < n)) = [] := by
  refine List.filter_eq_nil_iff.2 fun w hw bad => ?_
  have clean := List.all_eq_true.1 good w hw
  rw [bad] at clean
  cases clean

/-- A write that the firewall permits, after which its words read well. -/
theorem State.bar2Write_permitted {s : State} {off : Nat} {data : Bytes} (up : s.host.linkUp = true) (awake : s.host.d3hot = false)
    (permitted : s.permitted (s.bar2Addr off) data.length 1 = true)
    (good : (s.dramWrite (s.bar2Addr off) data).dramGood (s.bar2Addr off) data.length = true) :
    s.bar2Write off data = s.dramWrite (s.bar2Addr off) data := by
  unfold State.bar2Write
  simp only [up, awake, permitted, State.badWords_good good, Bool.not_true, Bool.false_eq_true, if_false]
  rfl

/-- A write that the firewall denies. -/
theorem State.bar2Write_denied {s : State} {off : Nat} {data : Bytes} (up : s.host.linkUp = true) (awake : s.host.d3hot = false)
    (denied : s.permitted (s.bar2Addr off) data.length 1 = false) : s.bar2Write off data = s.deny 1 (s.bar2Addr off) := by
  unfold State.bar2Write
  simp only [up, awake, denied, Bool.not_true, Bool.not_false, Bool.false_eq_true, if_false, if_true]

/-- A denial is counted (R379). -/
theorem State.deny_denials (src a : Nat) (s : State) : (s.deny src a).memc.denials = min 0xFFFF (s.memc.denials + 1) := by
  unfold State.deny
  simp only [State.onMemc_memc]
  split <;> rfl

end Sys2Proof.Machine
end

section
/-! PROOFS. The statement of the host, feed and memory chapter that is settled: O16. -/

namespace Sys2Proof.Machine

open Sys2Proof

/-- Settles O16: an access that the firewall permits reads or writes the bytes at its address, and a denied one is counted. -/
theorem bar2ReadsAndWritesDram : Obligations.Bar2ReadsAndWritesDram := by
  unfold Obligations.Bar2ReadsAndWritesDram
  refine ⟨fun s off len on up awake => ⟨fun permitted good => ?_, fun denied => ?_⟩,
    fun s off data on quiet up awake => ⟨fun permitted good => ?_, fun denied => ?_⟩⟩
  · exact exec_row on rfl (State.bar2Read_permitted up awake permitted good)
  · exact exec_row on rfl (State.bar2Read_denied up awake denied)
  · refine ⟨_, exec_row on rfl (State.bar2Write_permitted up awake permitted good), ?_⟩
    have kept := settle_field (fun x : State => (x.dram, x.memc, x.rings)) (s := s.dramWrite (s.bar2Addr off.toNat) data) quiet
    simp only [Prod.mk.injEq] at kept
    obtain ⟨dram, memc, rings⟩ := kept
    rw [State.dramRead, dram, memc, rings]
    exact ⟨Memory.read_write_self _ _ _, fun j outside => Memory.get_write_other _ _ _ outside, Memory.wf_write _ _, rfl, rfl⟩
  · refine ⟨_, exec_row on rfl (State.bar2Write_denied up awake denied), ?_⟩
    have kept := settle_field (fun x : State => (x.dram, x.memc, x.rings)) (s := s.deny 1 (s.bar2Addr off.toNat)) quiet
    simp only [Prod.mk.injEq] at kept
    obtain ⟨dram, memc, rings⟩ := kept
    rw [dram, memc, rings]
    exact ⟨rfl, State.deny_denials _ _ s, rfl⟩

end Sys2Proof.Machine
end

section
/-! SUPPORT. Device resets (17 R387): what one keeps, and that it makes no entry due. -/

namespace Sys2Proof.Machine

open Sys2Proof

/-- What a device reset reads of the state before it, or leaves as it was. -/
def State.resetBasis (s : State) : DevState × Nat × (Nat × Nat × Nat) × MemCtl × List (Nat × Word) × Vector Tile 16 :=
  (s.dev.state, s.power.resetCount, (s.timing.frame, s.timing.lastTick, s.timing.rate), s.memc, s.regs, s.tiles)

theorem State.advanceTo_resetBasis (s : State) (at0 : Nat) : (s.advanceTo at0).resetBasis = s.resetBasis := rfl

/-- What is a reset of one state is a reset of another that it keeps as much of. -/
theorem State.wasReset_congr {s x t : State} {kind cause : Nat} (same : x.resetBasis = s.resetBasis) (reset : x.wasReset kind cause t) :
    s.wasReset kind cause t := by
  unfold State.resetBasis at same
  simp only [Prod.mk.injEq] at same
  obtain ⟨state, count, ⟨frame, tick, rate⟩, memc, regs, tiles⟩ := same
  unfold State.wasReset State.reg at reset ⊢
  rw [state, count, frame, tick, rate, memc, regs, tiles] at reset
  exact reset

/-- SYNC_OUT going low changes the emissions and SYNC_OUT alone. -/
theorem syncLow_keeps {β : Type} (g : State → β) (s : State)
    (hg : ∀ s : State, g s = g { s.outside with timing := { s.timing with syncOut := false } }) : g s.syncLow = g s := by
  unfold State.syncLow
  split
  · rw [hg, hg s]
    rfl
  · rfl

/-- So does idling the lanes with it. -/
theorem idled_keeps {β : Type} (g : State → β) (s : State)
    (hg : ∀ s : State, g s = g { s.outside with timing := { s.timing with syncOut := false } } := by intro _; rfl) :
    g s.idleLanes.syncLow = g s :=
  (syncLow_keeps g s.idleLanes hg).trans (posts_field g (posts_idleLanes s) fun s => (hg s).trans (hg s.outside).symm)

/-- A device reset leaves no entry due. -/
theorem State.deviceReset_quiet (kind cause : Nat) (s : State) : (s.deviceReset kind cause).quiet := ⟨rfl, rfl⟩

/-- A device reset enters PASTEURISE with its CAUSE, and keeps what R387 excepts. -/
theorem State.deviceReset_wasReset (kind cause : Nat) (s : State) : s.wasReset kind cause (s.deviceReset kind cause).settle := by
  have quiet := s.deviceReset_quiet kind cause
  refine State.wasReset_congr (idled_keeps State.resetBasis s) ⟨settle_field (·.dev.state) quiet, settle_field (·.dev.prev) quiet,
    settle_field (·.dev.cause) quiet, settle_field (·.power.resetKind) quiet, settle_field (·.power.resetCount) quiet,
    settle_field (·.timing.frame) quiet, settle_field (·.timing.lastTick) quiet, settle_field (·.timing.rate) quiet,
    settle_field (·.memc.trained) quiet, settle_field (·.memc.sizeGib) quiet, fun off other => ?registers, settle_field (·.rings) quiet,
    settle_field (·.deal.inForce) quiet, settle_field (·.churns) quiet, settle_field (·.ports) quiet, settle_field (·.ctl) quiet,
    settle_field (·.tiles) quiet⟩
  case registers => exact (settle_reg quiet other).trans (Sparse.get_filter resetWord keptOffset off _)

theorem msCounts_eq (ms : Nat) : msCounts ms = 100000 * ms := Nat.mul_comm ms 100000

/-- A device reset takes no time, and reads eFuse as it is. -/
theorem State.deviceReset_lasting (kind cause : Nat) (s : State) :
    (s.deviceReset kind cause).settle.lamp = s.lamp ∧ (s.deviceReset kind cause).settle.power.efuse = s.power.efuse ∧
      (s.deviceReset kind cause).settle.power.efuseShown = s.power.efuse := by
  have quiet := s.deviceReset_quiet kind cause
  exact ⟨(settle_field (·.lamp) quiet).trans (idled_keeps (·.lamp) s),
    (settle_field (·.power.efuse) quiet).trans (idled_keeps (·.power.efuse) s),
    (settle_field (·.power.efuseShown) quiet).trans (idled_keeps (·.power.efuse) s)⟩

/-- A device reset at a later time. -/
theorem State.deviceReset_later (kind cause at0 : Nat) (s : State) :
    s.wasReset kind cause ((s.advanceTo at0).deviceReset kind cause).settle ∧
      ((s.advanceTo at0).deviceReset kind cause).settle.power.efuse = s.power.efuse ∧
      ((s.advanceTo at0).deviceReset kind cause).settle.lamp = max s.lamp at0 := by
  obtain ⟨lamp, efuse, _⟩ := (s.advanceTo at0).deviceReset_lasting kind cause
  exact ⟨State.wasReset_congr (s.advanceTo_resetBasis at0) ((s.advanceTo at0).deviceReset_wasReset kind cause), efuse, lamp⟩

/-- A write of DEVICE 1 with its key resets the device (R405). -/
theorem State.writePwrReset_keyed {v : Nat} (device : v % 2 = 1) (key : bitsOf v 31 16 = 0x5EA5) (s : State) :
    s.writePwrReset v = s.deviceReset 1 0x01 := if_pos ⟨device, key⟩

/-- AUTO_RESET in FATAL, once the dump is over (R401). -/
theorem State.autoReset_due {s : State} (fatal : s.dev.state = .fatal) (set : s.fld Reg.PWR_DUMP_CFG 7 0 ≠ 0) (dumped : s.dumping = false) :
    s.autoReset = (s.advanceTo (s.power.dumpSince + msCounts (1000 * s.fld Reg.PWR_DUMP_CFG 7 0))).deviceReset 2 0x01 :=
  if_pos ⟨fatal, set, dumped⟩

/-- eFuse with the operations of a LIFECYCLE_ADVANCE and its target programmed (R393). -/
def State.fused (j : FuseJob) (s : State) : State :=
  s.onPower fun p => { p with efuse := { p.efuse.applyAll j.ops with lifecycle := j.target } }

/-- The state that the reset at the end of a LIFECYCLE_ADVANCE starts from: the command has completed. -/
def State.advanced (j : FuseJob) (s : State) : State := (s.fused j).completeOk j.ref j.target

theorem State.efuseDone_begun {s : State} {j : FuseJob} {js : List FuseJob} (jobs : s.power.fuseJobs = j :: js) (begun : j.begun = true) :
    s.efuseDone = (s.advanced j).deviceReset 3 0x0D := by
  unfold State.efuseDone
  rw [jobs]
  exact if_neg (by simp [begun])

theorem answers_advanced (j : FuseJob) (s : State) : Answers (s.fused j) (s.advanced j) := answers_complete j.ref .ok 0xFF j.target _

theorem State.advanced_basis (j : FuseJob) (s : State) : (s.advanced j).resetBasis = s.resetBasis :=
  (answers_field State.resetBasis (answers_advanced j s)).trans rfl
theorem State.advanced_lamp (j : FuseJob) (s : State) : (s.advanced j).lamp = s.lamp :=
  (answers_field (·.lamp) (answers_advanced j s)).trans rfl
theorem State.advanced_efuse (j : FuseJob) (s : State) :
    (s.advanced j).power.efuse = { s.power.efuse.applyAll j.ops with lifecycle := j.target } :=
  (answers_field (·.power.efuse) (answers_advanced j s)).trans rfl

end Sys2Proof.Machine
end

section
/-! SUPPORT. Core restarts (17 R387, R397 to R399). -/

namespace Sys2Proof.Machine

open Sys2Proof

/-- What a core restart leaves alone, with the Deal store that it reads. -/
def State.restartBasis (s : State) :=
  ((s.deal, s.dev.state, s.dev.litSet, s.rings, s.dealer, s.timing), s.churns, s.ports, s.phots, s.diags, s.ctl, s.dram)

/-- A core restart leaves a quiet state quiet. -/
theorem State.coreRestart_quiet {s : State} (quiet : s.quiet) (cause : Nat) (next : Option Nat) : (s.coreRestart cause next).quiet := by
  have faults : (s.coreRestart cause next).faults = s.faults :=
    (unwritten_field State.faults (coreRestart_frame cause next s).1 fun _ => rfl).trans rfl
  unfold State.quiet
  rw [faults]
  exact quiet

/-- The power block, the lamp time and the rest after a core restart and what every command brings. -/
theorem State.coreRestart_settles {s : State} (quiet : s.quiet) (cause : Nat) (next : Option Nat) :
    let t := (s.coreRestart cause next).settle
    t.power = s.restartPower next ∧ t.lamp = s.lamp ∧ t.reg Reg.PWR_WDOG_CFG = resetWord Reg.PWR_WDOG_CFG ∧
      t.restartBasis = { s with deal := { s.deal with jobs := [] } }.restartBasis := by
  have quiet' := State.coreRestart_quiet quiet cause next
  obtain ⟨frame, wdog⟩ := coreRestart_frame cause next s
  refine ⟨?_, ?_, (settle_reg quiet' (by decide)).trans wdog, ?_⟩
  · exact (settle_field (·.power) quiet').trans ((unwritten_field (·.power) frame fun _ => rfl).trans rfl)
  · exact (settle_field (·.lamp) quiet').trans ((unwritten_field (·.lamp) frame fun _ => rfl).trans rfl)
  · exact (settle_field State.restartBasis quiet').trans ((unwritten_field State.restartBasis frame fun _ => rfl).trans rfl)

/-- What holds of a core restart of the state `x`, which differs from the state `s` before the command in its lamp time, its events
and the FW_SWITCH held. -/
theorem State.coreRestart_restarted {s x : State} (quiet : x.quiet) {sw : Option SwitchJob} (power : x.power = { s.power with switch := sw })
    (rest : x.restartBasis = s.restartBasis) (cause : Nat) (next : Option Nat) :
    (x.coreRestart cause next).settle.lamp = x.lamp ∧ s.restarted (x.coreRestart cause next).settle sw next := by
  obtain ⟨power', lamp, wdog, rest'⟩ := State.coreRestart_settles quiet cause next
  unfold State.restartBasis at rest rest'
  simp only [Prod.mk.injEq] at rest rest'
  obtain ⟨⟨deal, state, litSet, rings, dealer, timing⟩, churns, ports, phots, diags, ctl, dram⟩ := rest
  obtain ⟨⟨deal', state', litSet', rings', dealer', timing'⟩, churns', ports', phots', diags', ctl', dram'⟩ := rest'
  have held : x.heldByFirmware = s.heldByFirmware := by
    unfold State.heldByFirmware
    rw [deal, power]
  refine ⟨lamp, ?_, wdog, ?_, state'.trans state, litSet'.trans litSet, rings'.trans rings, dealer'.trans dealer, timing'.trans timing,
    churns'.trans churns, ports'.trans ports, phots'.trans phots, diags'.trans diags, ctl'.trans ctl, dram'.trans dram⟩
  · rw [power', lamp, State.restartPower, held, power]
  · rw [deal', deal]

/-- The cores do not run in OFF. -/
theorem State.coresRun_on {s : State} (run : s.coresRun = true) : s.on := by
  rintro off
  simp [State.coresRun, off] at run

/-- A raise of an input below class F at a later time, and then a core restart. -/
theorem State.raise_restarted {s : State} (quiet : s.quiet) (at0 : Nat) {i : Nat} (harmless : faultClass i ≠ 4) (cause : Nat) :
    let t := (((s.advanceTo at0).raise i 0).coreRestart cause none).settle
    t.lamp = max s.lamp at0 ∧ s.restarted t s.power.switch none := by
  have raised := follows_raise i 0 (s.advanceTo at0)
  have after := State.coreRestart_restarted (s := s) (raise_quiet i 0 (s.advanceTo at0) harmless quiet) (sw := s.power.switch)
    ((follows_field (·.power) raised).trans rfl) ((follows_field State.restartBasis raised).trans rfl) cause none
  exact ⟨after.1.trans (follows_field (·.lamp) raised), after.2⟩

/-- The same at the present time. -/
theorem State.raise_restarted_now {s : State} (quiet : s.quiet) {i : Nat} (harmless : faultClass i ≠ 4) (cause : Nat) :
    ((s.raise i 0).coreRestart cause none).settle.lamp = s.lamp ∧
      s.restarted ((s.raise i 0).coreRestart cause none).settle s.power.switch none := by
  have now : s.advanceTo 0 = s := congrArg (fun lamp => { s with lamp := lamp }) (Nat.max_eq_left s.lamp.zero_le)
  have later := State.raise_restarted quiet 0 harmless cause
  rw [now, Nat.max_eq_left s.lamp.zero_le] at later
  exact later

/-- The FW_SWITCH held, marked as failed at a later time, and then a core restart. -/
theorem State.switch_restarted {s : State} (quiet : s.quiet) (at0 : Nat) (w : SwitchJob) (cause : Nat) (next : Option Nat) :
    let t := (((s.advanceTo at0).onPower fun p => { p with switch := some w }).coreRestart cause next).settle
    t.lamp = max s.lamp at0 ∧ s.restarted t (some w) next :=
  State.coreRestart_restarted (s := s) (x := (s.advanceTo at0).onPower fun p => { p with switch := some w }) quiet rfl rfl cause next

/-- WATCHDOG_EXPIRY with the watchdog on (R399). -/
theorem State.watchdogExpiry_enabled {s : State} (run : s.coresRun = true) (enabled : s.bit Reg.PWR_WDOG_CFG 16 = true) :
    s.watchdogExpiry =
      ((s.advanceTo (s.power.wdogSince + msCounts (s.fld Reg.PWR_WDOG_CFG 13 0))).raise 24 0).coreRestart 1 none := by
  unfold State.watchdogExpiry
  rw [if_neg (by simp [run, enabled])]

/-- FW_SWITCH_TIMEOUT for a switch that has not failed (R397). -/
theorem State.fwSwitchTimeout_held {s : State} {w : SwitchJob} (held : s.power.switch = some w) (unfailed : w.failed = none) :
    s.fwSwitchTimeout = ((s.advanceTo (w.since + msCounts 10000)).onPower fun p => { p with
      switch := some { w with failed := some .timeout } }).coreRestart 3 (some w.prevActive) := by
  unfold State.fwSwitchTimeout
  rw [held]
  dsimp only
  rw [if_neg (by simp [unfailed])]

end Sys2Proof.Machine
end

section
/-! SUPPORT. The cores' keyed writes, and the fatal dump (17 R397 to R401, R405). -/

namespace Sys2Proof.Machine

open Sys2Proof

/-! ### Keyed writes (R397 to R399, R405) -/

/-- A command whose operation does nothing is followed by what every command brings, in OFF as well. -/
theorem exec_idle {s : State} {i : Instr} {row : State → State} (meaning : exec i s = finish (s.alive row)) (idle : row s = s) :
    exec i s = .next s.settle := by
  rw [meaning, State.alive, idle, ite_self]
  rfl

/-- A core's aligned write that is not served changes nothing. -/
theorem State.writeReg_core_unserved {s : State} {off : Nat} (unserved : ¬s.serves .core off) (v : Nat) : s.writeReg .core off 4 v = s := by
  by_cases on : s.on
  · refine State.writeReg_discarded s.asleep_core ?_ v
    by_contra taken
    push Not at taken
    obtain ⟨_, _, booted, _, powered⟩ := taken
    exact unserved ⟨on, booted, Bool.not_eq_false _ ▸ powered, fun host => nomatch host⟩
  · have unreached : s.reaches .core = false := Bool.eq_false_iff.2 fun reaches => on ((s.reaches_iff .core).1 reaches).1
    exact State.writeReg_unreached unreached off 4 v

/-- A write that the host may not make changes nothing while the host is not asleep. -/
theorem State.writeReg_host_discards {s : State} (awake : s.host.d3hot = false) {off : Nat} (discards : hostDiscards off = true) (v : Nat) :
    s.writeReg .host off 4 v = s :=
  State.writeReg_discarded (m := .host) awake (.inr (.inr (.inr (.inl ⟨rfl, discards⟩)))) v

/-- Any value but the key leaves the watchdog's period. -/
theorem State.kick_unkeyed {v : Nat} (other : bitsOf v 15 0 ≠ 0xC0DE) (s : State) : s.writeReg .core Reg.PWR_WDOG_KICK 4 v = s := by
  by_cases serves : s.serves .core Reg.PWR_WDOG_KICK
  · exact (State.write_PWR_WDOG_KICK serves v).trans (if_neg other)
  · exact State.writeReg_core_unserved serves v

/-- Any value but the key leaves an absence. -/
theorem State.alive_unkeyed {v : Nat} (other : bitsOf v 15 0 ≠ 0xA11E) (s : State) : s.writeReg .core Reg.PWR_FW_ALIVE 4 v = s := by
  by_cases serves : s.serves .core Reg.PWR_FW_ALIVE
  · exact (State.write_PWR_FW_ALIVE serves v).trans (if_pos (.inl other))
  · exact State.writeReg_core_unserved serves v

/-- The key ends an absence once a slot has started. -/
theorem State.fwAlive_keyed {s : State} {v : Nat} (key : bitsOf v 15 0 = 0xA11E) (absent : s.power.absent = true)
    (started : s.power.started.isSome = true) :
    s.fwAlive v = (State.firmwareRecord 1 s.absenceMs (s.onPower fun p => { p with
      absent := false, lastAbsentMs := min 0xFFFF s.absenceMs
      fuseJobs := p.fuseJobs.map fun j => { j with begun := true } })).abortHeld.endSwitch := by
  have ends : ¬(bitsOf v 15 0 ≠ 0xA11E ∨ s.power.absent = false ∨ s.power.started.isNone) := by
    rw [← Option.not_isSome, started]
    simp [key, absent]
  exact if_neg ends

/-! ### The dump (R400, R401) -/

/-- The firmware has written the dump. -/
theorem State.writeDump_present {s : State} {log : Bytes} {p : PartEntry} (part : s.dumpPart = some p) (dumping : s.dumping = true)
    (present : s.power.absent = false) :
    s.writeDump log = ({ s.dramWrite p.base (s.dumpBytes log) with freeSeq := s.freeSeq + 0xDF000 }).onPower fun x => { x with
      dumpDone := true, dumpSince := s.lamp, dumpSize := (s.dumpBytes log).length } := by
  unfold State.writeDump
  rw [part]
  exact if_pos (by simp [dumping, present])

/-- A dump is made in FATAL alone. -/
theorem State.dumping_on {s : State} (dumping : s.dumping = true) : s.on := by
  rintro off
  simp [State.dumping, off] at dumping

/-- A host that is ready has its link up. -/
theorem State.linkUp_of_hostReady {s : State} (ready : s.hostReady = true) : s.host.linkUp = true := by
  simp only [State.hostReady, Bool.and_eq_true] at ready
  obtain ⟨⟨up, _⟩, _⟩ := ready
  exact up

end Sys2Proof.Machine
end

section
/-! PROOFS. The statements of the power and life-cycle chapter that are settled: O3, O7, O9, O11, O12. -/

namespace Sys2Proof.Machine

open Sys2Proof

/-- Settles O3: each of the three is a device reset, of a state that has kept what the reset keeps. -/
theorem resetsEnterPasteurise : Obligations.ResetsEnterPasteurise := by
  unfold Obligations.ResetsEnterPasteurise
  refine ⟨fun s m value serves device key => ?_, fun s fatal set dumped => ?_, fun s j js on jobs begun => ?_⟩
  · obtain ⟨lamp, efuse, _⟩ := s.deviceReset_lasting 1 0x01
    exact ⟨_, exec_row serves.1 rfl ((State.write_PWR_RESET serves _).trans (State.writePwrReset_keyed device key s)),
      s.deviceReset_wasReset 1 0x01, lamp, efuse⟩
  · have on : s.on := by rw [State.on, fatal]; decide
    refine ⟨_, exec_row on rfl (State.autoReset_due fatal set dumped), ?_⟩
    rw [← msCounts_eq]
    exact s.deviceReset_later 2 0x01 _
  · obtain ⟨lamp, efuse, shown⟩ := (s.advanced j).deviceReset_lasting 3 0x0D
    exact ⟨_, exec_row on rfl (State.efuseDone_begun jobs begun),
      State.wasReset_congr (s.advanced_basis j) ((s.advanced j).deviceReset_wasReset 3 0x0D), lamp.trans (s.advanced_lamp j),
      efuse.trans (s.advanced_efuse j), shown.trans efuse.symm⟩

/-- Settles O7: each row is a core restart, of a state that has otherwise changed in its lamp time and its events alone. -/
theorem coreRestartRows : Obligations.CoreRestartRows := by
  unfold Obligations.CoreRestartRows
  refine ⟨fun s run quiet enabled => ?_, fun s run quiet => ?_, fun s w on quiet held unfailed => ?_⟩
  · refine ⟨_, exec_row (State.coresRun_on run) rfl (State.watchdogExpiry_enabled run enabled), ?_⟩
    rw [← msCounts_eq]
    exact State.raise_restarted quiet _ (by decide) 1
  · exact ⟨_, exec_row (State.coresRun_on run) rfl (if_pos run), State.raise_restarted_now quiet (by decide) 2⟩
  · exact ⟨_, exec_row on rfl (State.fwSwitchTimeout_held held unfailed), State.switch_restarted quiet _ _ 3 (some w.prevActive)⟩

/-- Settles O9: each key is its operation; any other value, and any write of the host's, leaves the state as it was. -/
theorem firmwareKeys : Obligations.FirmwareKeys := by
  unfold Obligations.FirmwareKeys
  refine fun s value => ⟨fun serves key => ?_, fun serves key absent started => ?_, fun other => ?_, fun other => ?_, fun awake => ⟨?_, ?_⟩⟩
  · exact exec_row serves.1 rfl ((State.write_PWR_WDOG_KICK serves _).trans (if_pos key))
  · exact exec_row serves.1 rfl ((State.write_PWR_FW_ALIVE serves _).trans (State.fwAlive_keyed key absent started))
  · exact exec_idle rfl (State.kick_unkeyed other s)
  · exact exec_idle rfl (State.alive_unkeyed other s)
  · exact exec_idle rfl (State.writeReg_host_discards awake (by decide) _)
  · exact exec_idle rfl (State.writeReg_host_discards awake (by decide) _)

/-- Settles O11: each job's end is its operation, whose conditions hold. -/
theorem serviceJobsEnd : Obligations.ServiceJobsEnd := by
  unfold Obligations.ServiceJobsEnd
  refine ⟨fun s j on stage present => ?_, fun s log p part dumping present => ?_, fun s dumping => ?_,
    fun s j js p on jobs part ready good => ?_, fun s u j on job good => ?_⟩
  · exact exec_row on rfl (State.fwStageDone_present stage present)
  · exact exec_row (State.dumping_on dumping) rfl (State.writeDump_present part dumping present)
  · exact exec_row (State.dumping_on dumping) rfl (if_pos dumping)
  · exact exec_row on rfl (State.dumpFetchDone_ready jobs part (State.linkUp_of_hostReady ready) ready good)
  · exact exec_row on rfl (State.crcScanDone_good job good)

/-- Settles O12: a clock that is lost clears its status and raises input 13, and a domain that is on sets its READY bit. -/
theorem clockLossAndReadyDomains : Obligations.ClockLossAndReadyDomains := by
  unfold Obligations.ClockLossAndReadyDomains
  refine ⟨fun s on => ⟨?_, ?_, ?_⟩, fun s d on powered => ?_⟩
  · exact exec_row on rfl (if_neg on)
  · exact exec_row on rfl (if_neg on)
  · exact exec_row on rfl (if_neg on)
  · exact exec_row on rfl (if_pos powered)

end Sys2Proof.Machine
end
